-- ==== Sys2Proof/Word.lean ====
section
/-! DEFINITION. The byte and word types. Quantities the manual computes with exactly (positions, speeds, gains, times)
are `Nat` or `Int`; bit vectors stand only for what the manual treats as bits: bytes on the port and in flash, and CRC
registers. -/

namespace Sys2Proof

/-- One byte on the request port or in the external flash. -/
abbrev Byte := BitVec 8

/-- A CRC-16 register (10 Table 10-1). -/
abbrev Crc16 := BitVec 16

/-- A CRC-32 register (06 §6.2). -/
abbrev Crc32 := BitVec 32

end Sys2Proof
end

