-- ==== Sys2Proof/Config.lean ====
section
/-! DEFINITION. What the part fixes once, and the values the spec leaves open. -/

namespace Sys2Proof.Config

/-- Bytes in the external flash, 16 MiB (00 Table 0-2, 06). -/
def flashSize : Nat := 16777216

/-- Microseconds in a millisecond: the model's clock counts microseconds (log 1). -/
def usPerMs : Nat := 1000

/-- A byte whose value the spec does not state (logs 7 and 9): free, so no statement can rest on it. DESIGN CHOICE. -/
opaque freeByte : Nat → Byte

/-- A 16-bit field whose value the spec does not state (log 8): free. DESIGN CHOICE. -/
opaque freeWord : Nat → BitVec 16

/-- The start counter after its last value (log 10): free within its 48 bits. DESIGN CHOICE. -/
opaque freeStamp : Nat → BitVec 48

end Sys2Proof.Config
end

