-- ==== Sys2Proof/Syntax.lean ====
section
/-! DEFINITION. The commands of the block: one constructor of `Instr` per row of spec/opcode_table.json, with the
operands the spec gives it. A request carries the frame's key byte and its payload's fields as they lie on the wire,
before any check (10); a sampling event carries the levels and readings it samples (log 11). -/

namespace Sys2Proof.Machine

/-- The marker part of a SEGMENT payload (10 Table 10-4). -/
structure MarkerWire where
  code : Nat
  offset : Nat
  tolerance : Nat
  deriving DecidableEq, Repr

/-- A SEGMENT payload (10 Table 10-4). `next` and `alt` are the raw bytes (FFh: NONE, absent); the marker is absent
while its present bit is clear. -/
structure SegmentWire where
  length : Nat
  ceiling : Nat
  kff : Int
  kp : Nat
  kd : Nat
  next : Nat
  alt : Nat
  takeAlt : Bool
  station : Bool
  marker : Option MarkerWire
  deriving DecidableEq, Repr

/-- An AUTHORITY payload (10 Table 10-5). -/
structure AuthorityWire where
  segment : Nat
  offset : Nat
  deriving DecidableEq, Repr

/-- A SEAT payload (10 Table 10-6). -/
structure SeatWire where
  enabled : Bool
  polarityA : Bool
  polarityB : Bool
  lockMin : Nat
  lockMax : Nat
  openMax : Nat
  deriving DecidableEq, Repr

/-- One action entry of eight bytes (10 Table 10-8): `kind` is byte 0, `arg` byte 1, `hi` the u16 of bytes 2 and 3,
`lo` the u16 of bytes 4 and 5, `b6` and `b7` the last two bytes. -/
structure ActionWire where
  kind : Nat
  arg : Nat
  hi : Nat
  lo : Nat
  b6 : Nat
  b7 : Nat
  deriving DecidableEq, Repr

/-- A CUE payload (10 Table 10-7); the count byte is the length of `actions`. -/
structure CueWire where
  segment : Nat
  start : Nat
  stop : Nat
  level : Nat
  everyPass : Bool
  notify : Bool
  actions : List ActionWire
  deriving DecidableEq, Repr

/-- A CLIP payload (10 Table 10-9). -/
structure ClipWire where
  addr : Nat
  length : Nat
  gain : Nat
  loop : Option (Nat × Nat)
  deriving DecidableEq, Repr

/-- A PLAY payload (10 Table 10-11): `flags` bit 0 loop, bit 1 exit-fade; `buses` bit 0 FRONT, bit 1 REAR. -/
structure PlayWire where
  clip : Nat
  buses : Nat
  gain : Nat
  flags : Nat
  level : Nat
  deriving DecidableEq, Repr

/-- A well-formed guide sensor word: signed offset in mm and quality 0 to 15 (02 R23). -/
structure GuideWord where
  offset : Int
  quality : Nat
  deriving DecidableEq, Repr

/-- The inputs of one seat at a seat sample: the levels of LOCK_A and LOCK_B (high: true) and the position (03 R43). -/
structure SeatReading where
  lockA : Bool
  lockB : Bool
  position : Nat
  deriving DecidableEq, Repr

end Sys2Proof.Machine

namespace Sys2Proof

open Machine

/-- The commands, one constructor per row of spec/opcode_table.json, in the table's order. -/
inductive Instr where
  | guidanceSample (encoder : Int) (current : Nat)
  | odometerPulse (forward : Bool)
  | markerRead (code : Nat)
  | guideWord (word : Option GuideWord)
  | seatSample (readings : List SeatReading) (relaHigh relbHigh : Bool)
  | holdComplete
  | permitExpiry
  | releasePulseEnd (seat : Nat)
  | estopInputCheck (high : Bool)
  | linkExpiry
  | supplyReading (count : Nat)
  | dwellExpiry
  | effectTick
  | effectPhaseEnd (line : Nat)
  | beaconTxComplete
  | flashGrant
  | verifyBurstComplete
  | refillComplete
  | flashReadComplete
  | flashReadDeadline
  | hostStepComplete
  | flashUnitTimeout
  | outputSample
  | fadeMasterTick
  | voiceFadeEnd (voice : Nat)
  | powerReset (encoder : Int)
  | pinReset (encoder : Int)
  | resetEnd
  | frameOverrun
  | fetch (clocked : Nat)
  | putSegment (key : Nat) (w : SegmentWire)
  | amendSegment (key : Nat) (presence : Nat) (w : SegmentWire)
  | retireSegment (key : Nat)
  | getSegment (key : Nat)
  | listSegment (key : Nat)
  | putAuthority (key : Nat) (w : AuthorityWire)
  | amendAuthority (key : Nat) (presence : Nat) (w : AuthorityWire)
  | retireAuthority (key : Nat)
  | getAuthority (key : Nat)
  | listAuthority (key : Nat)
  | putSeat (key : Nat) (w : SeatWire)
  | amendSeat (key : Nat) (presence : Nat) (w : SeatWire)
  | getSeat (key : Nat)
  | listSeat (key : Nat)
  | putCue (key : Nat) (w : CueWire)
  | amendCue (key : Nat) (presence : Nat) (w : CueWire)
  | retireCue (key : Nat)
  | retireCueForce (key : Nat)
  | getCue (key : Nat)
  | listCue (key : Nat)
  | putClip (key : Nat) (w : ClipWire)
  | amendClip (key : Nat) (presence : Nat) (w : ClipWire)
  | retireClip (key : Nat)
  | getClip (key : Nat)
  | listClip (key : Nat)
  | putSource (key : Nat) (level : Nat)
  | amendSource (key : Nat) (presence : Nat) (level : Nat)
  | getSource (key : Nat)
  | listSource (key : Nat)
  | putSettings (key : Nat) (words : List Nat)
  | amendSettings (key : Nat) (presence : Nat) (words : List Nat)
  | getSettings (key : Nat)
  | listSettings (key : Nat)
  | getVoice (key : Nat)
  | listVoice (key : Nat)
  | getLine (key : Nat)
  | listLine (key : Nat)
  | enable (key : Nat)
  | park (key : Nat)
  | place (key : Nat) (segment : Nat) (position : Nat)
  | start (key : Nat)
  | stop (key : Nat)
  | estop (key : Nat)
  | resume (key : Nat)
  | skipDwell (key : Nat)
  | yaw (key : Nat) (target : Int)
  | release (key : Nat) (mask : Nat)
  | releaseImmediate (key : Nat) (mask : Nat)
  | seatClear (key : Nat)
  | rearm (key : Nat)
  | rearmAll (key : Nat)
  | disarm (key : Nat)
  | play (key : Nat) (w : PlayWire)
  | hush (key : Nat)
  | hushAll (key : Nat)
  | master (key : Nat) (gain : Nat)
  | flashRead (key : Nat) (addr : Nat) (len : Nat)
  | flashProgram (key : Nat) (addr : Nat) (data : List Byte)
  | flashErase (key : Nat) (addr : Nat) (sectors : Nat)
  | noticeSetup (key : Nat) (base : Nat) (mask : Nat)
  | noticeTake (key : Nat)
  | status (key : Nat)
  | softReset (key : Nat)
  | frameCheckFailure (transfer : List Byte)
  deriving DecidableEq, Repr

end Sys2Proof
end

