-- ==== Sys2Proof/Machine/State.lean ====
section
/-! DEFINITION. The state of the block as plain data, one record per unit of 00 Table 0-1, and the state right after a
reset. INVENTORY.md lists every field with the rule that names it. -/

namespace Sys2Proof.Machine

/-! ### Enumerations of 10 Table 10-3 -/

/-- Motion states (04 Table 4-3). -/
inductive Motion where
  | parked | stopped | running | dwell | safeStop | eStop
  deriving DecidableEq, Repr

/-- Stop reasons, in the order of 04 Table 4-5. -/
inductive StopReason where
  | estopInput | hostEstop | seatFault | overspeed | authorityOverrun | guideLost
  | hostStop | position | linkLost | yawFollow
  deriving DecidableEq, Repr

/-- Segment states (01 R1), derived. -/
inductive SegState where
  | free | loaded | locked | active
  deriving DecidableEq, Repr

/-- Why a seat entered FAULT (03 Table 3-1). -/
inductive FaultReason where
  | opened | disagree
  deriving DecidableEq, Repr

/-- Seat states (03 Table 3-1). `count` and `recovery` are 0, the fault reason absent and the release timer 0 in the
states that do not carry them. `releasing` carries the moment its pulse ends (log 5). -/
inductive SeatState where
  | disabled
  | unlatched
  | latching (count : Nat)
  | verified
  | suspect (count recovery : Nat)
  | fault (reason : FaultReason)
  | releasing (until_ : Nat)
  deriving DecidableEq, Repr

/-- Cue states (05 R92). -/
inductive CueState where
  | disarmed | armed | active | spent
  deriving DecidableEq, Repr

/-- Why a clip is BAD (06 Table 6-1). -/
inductive BadReason where
  | header | length | crc | flashTimeout
  deriving DecidableEq, Repr

/-- Clip states (06 R121); BAD carries its reason. -/
inductive ClipState where
  | queued | verifying | ready
  | bad (reason : BadReason)
  deriving DecidableEq, Repr

/-- Voice states (07 R142). -/
inductive VoiceState where
  | idle | playing | fading
  deriving DecidableEq, Repr

/-- Who started a voice (07 Table 7-2). -/
inductive Owner where
  | nobody
  | cue (id : Nat)
  | request
  | stopCall
  deriving DecidableEq, Repr

/-- Effect phases (05 Table 5-6). -/
inductive EffectPhase where
  | on | off | ended
  deriving DecidableEq, Repr

/-- Deferred host flash operations (06 Table 6-8). -/
inductive HostOpKind where
  | none | program | erase
  deriving DecidableEq, Repr

/-- Results of a deferred host flash operation (06 Table 6-8). -/
inductive HostResult where
  | none | running | done | timeout
  deriving DecidableEq, Repr

/-- Reset factors (09 R184). -/
inductive ResetCause where
  | power | pin | soft
  deriving DecidableEq, Repr

/-- Flash operations named by a FLASH notice (10 Table 10-12). -/
inductive FlashOp where
  | program | erase | read
  | refill (voice : Nat)
  deriving DecidableEq, Repr

/-- Release outcomes named by a RELEASE notice (03 R53 to R56). -/
inductive ReleaseOutcome where
  | done | denied | expired | withdrawn
  deriving DecidableEq, Repr

/-- The occurrences that blocks raise at NTU, with their detail (08 Table 8-2, 10 Table 10-12). -/
inductive Notice where
  | estop (reason : StopReason)
  | seat (index : Nat) (state : SeatState)
  | motion (state : Motion)
  | extended
  | held
  | mismatch (segment s code : Nat)
  | missed (segment count : Nat)
  | clamp (segment s : Nat)
  | cueFired (id : Nat)
  | cueSkipped (id : Nat) (action : Option Nat)
  | cueConflict (id output : Nat)
  | voiceEnded (voice : Nat) (owner : Owner)
  | voicePreempted (voice : Nat) (owner : Owner)
  | voiceUnderrun (voice : Nat) (owner : Owner)
  | voiceRefused (clip : Nat) (noVoice : Bool)
  | clipReady (id : Nat)
  | clipBad (id : Nat) (reason : BadReason)
  | flashDone (op : FlashOp)
  | flashTimeout (op : FlashOp)
  | release (outcome : ReleaseOutcome)
  | supply (low : Bool)
  | badCrc
  | overrun
  deriving DecidableEq, Repr

/-- Status codes (09 Table 9-2). -/
inductive Status where
  | ok | accepted | badCrc | badKind | badClass | badLength | badField | notFound | full | locked | inUse | notReady
  | badState | busy | denied | notOnRoute | looped | tooFar | reasonsActive | noResponse
  deriving DecidableEq, Repr

/-! ### Records -/

/-- A keyed table: absent keys are not listed, keys strictly rise. -/
abbrev Table (α : Type) := List (Nat × α)

/-- The settings record (09 R178, 10 Table 10-10), in the order of its rows. -/
structure Settings where
  vmax : Nat
  aAcc : Nat
  aService : Nat
  overspeedTol : Nat
  standstill : Nat
  crawl : Nat
  deltaMax : Nat
  slew : Nat
  pitch : Nat
  rejector : Nat
  yawRate : Nat
  yawMin : Int
  yawMax : Int
  linkTimeout : Nat
  qualityMin : Nat
  loadThreshold : Nat
  loadHysteresis : Nat
  loadCeiling : Nat
  supplyThreshold : Nat
  supplyHysteresis : Nat
  supplyCeiling : Nat
  voiceSlew : Nat
  stopClip : Option Nat
  permitWindow : Nat
  releasePulse : Nat
  masterGain : Nat
  deriving DecidableEq, Repr

/-- A floor marker of a segment (01 Table 1-1). -/
structure Marker where
  code : Nat
  offset : Nat
  tolerance : Nat
  deriving DecidableEq, Repr

/-- A segment record (01 Table 1-1); its state is derived (R1). -/
structure Segment where
  length : Nat
  ceiling : Nat
  kff : Int
  kp : Nat
  kd : Nat
  next : Option Nat
  alt : Option Nat
  takeAlt : Bool
  station : Bool
  marker : Option Marker
  deriving DecidableEq, Repr

/-- The authority record (01 Table 1-2). -/
structure Authority where
  segment : Nat
  offset : Nat
  deriving DecidableEq, Repr

/-- Route and position unit (01 Table 1-4). `missCounted` says that the miss of this pass of the active segment has been
counted (01 R20; log 20). -/
structure Pos where
  segments : Table Segment
  authority : Option Authority
  active : Option Nat
  s : Nat
  sPrev : Nat
  residue : Int
  lastPulse : Option Nat
  markerSeen : Bool
  missCount : Nat
  missCounted : Bool
  path : List Nat
  deriving DecidableEq, Repr

/-- The most recent well-formed guide reading (02 R23). -/
structure Reading where
  offset : Int
  quality : Nat
  arrival : Nat
  deriving DecidableEq, Repr

/-- Guidance unit (02 Table 2-1). -/
structure Gdu where
  reading : Option Reading
  ePrev : Int
  invalid : Nat
  delta : Int
  yawCmd : Int
  yawTarget : Int
  recovering : Bool
  followCount : Nat
  deriving DecidableEq, Repr

/-- The dwell of MSV (04 R84, R85): RAMPING with its recorded time in ms, HOLDING until a moment (log 5). -/
inductive Dwell where
  | ramping (ms : Nat)
  | holding (until_ : Nat)
  deriving DecidableEq, Repr

/-- Motion supervisor (04 Table 4-1). `window` is oldest first. -/
structure Msv where
  motion : Motion
  reasons : List StopReason
  vCmd : Nat
  window : List Int
  overspeed : Nat
  dwell : Option Dwell
  held : Bool
  estopLevel : Option Bool
  estopAsserted : Bool
  linkExpiry : Option Nat
  supplyLow : Bool
  supplyRun : Nat
  deriving DecidableEq, Repr

/-- A seat record (03 Table 3-1). -/
structure Seat where
  enabled : Bool
  polarityA : Bool
  polarityB : Bool
  lockMin : Nat
  lockMax : Nat
  openMax : Nat
  state : SeatState
  deriving DecidableEq, Repr

/-- The release permit (03 Table 3-4): seat mask (bit n names seat n) and the moment it expires (log 5). -/
structure Permit where
  mask : Nat
  expiry : Nat
  deriving DecidableEq, Repr

/-- The contact hold (03 R52); TIMING carries its hold start. -/
inductive Hold where
  | idle
  | timing (since : Nat)
  | held
  deriving DecidableEq, Repr

/-- The levels a seat sample found (03 R43, R52): the seats' readings and the release contacts. -/
structure SeatLevels where
  readings : List SeatReading
  relaHigh : Bool
  relbHigh : Bool
  deriving DecidableEq, Repr

/-- Restraint monitor (03 Tables 3-1 and 3-4). `sampled` holds what the last seat sample found (log 3). -/
structure Rsm where
  seats : List Seat
  permit : Option Permit
  hold : Hold
  sampled : SeatLevels
  deriving DecidableEq, Repr

/-- The speaker buses a voice or PLAY action names. -/
structure Buses where
  front : Bool
  rear : Bool
  deriving DecidableEq, Repr

/-- A cue's actions as stored (05 Table 5-2). -/
inductive Action where
  | play (clip : Nat) (buses : Buses) (gain : Nat) (loop exitFade : Bool)
  | effect (line onMs offMs count : Nat) (timed : Bool)
  | beacon (code : Nat)
  | yaw (target : Int)
  | dwell (ms : Nat)
  | slow (speed : Nat)
  deriving DecidableEq, Repr

/-- A cue record (05 Table 5-1) with its SLOW contribution (R108). -/
structure Cue where
  segment : Nat
  start : Nat
  stop : Nat
  level : Nat
  everyPass : Bool
  notify : Bool
  actions : List Action
  state : CueState
  conflict : Bool
  skipped : Bool
  slow : Option Nat
  deriving DecidableEq, Repr

/-- A held effect line's entry (05 Table 5-6). -/
structure LineHold where
  holder : Nat
  level : Nat
  timed : Bool
  onMs : Nat
  offMs : Nat
  remaining : Nat
  phase : EffectPhase
  timer : Nat
  deriving DecidableEq, Repr

/-- The holder of the turntable (05 Table 5-6). -/
structure TurnHold where
  holder : Nat
  level : Nat
  deriving DecidableEq, Repr

/-- Cue engine (05). `lines` holds the twelve effect lines' entries; `beaconEnd` is the end of the burst under way. -/
structure CueUnit where
  cues : Table Cue
  lines : List (Option LineHold)
  turntable : Option TurnHold
  beacon : List Nat
  beaconEnd : Option Nat
  evaluated : Option Nat
  deriving DecidableEq, Repr

/-- A clip record (06 Table 6-1). -/
structure Clip where
  addr : Nat
  length : Nat
  gain : Nat
  loop : Option (Nat × Nat)
  state : ClipState
  deriving DecidableEq, Repr

/-- The verification (06 Table 6-4): the verifying clip or none, bytes done, the running CRC and the header CRC. -/
structure Verify where
  clip : Option Nat
  done : Nat
  crc : Crc32
  headerCrc : Crc32
  deriving DecidableEq, Repr

/-- One unit of flash work (06 R132). `live` is clear once its data is to be discarded (R129, R134, R140). -/
inductive Work where
  | refill (voice addr count : Nat) (live : Bool)
  | verify (addr count : Nat) (live : Bool)
  | hostRead (addr len : Nat)
  | program (addr : Nat) (data : List Byte)
  | erase (addr : Nat)
  deriving DecidableEq, Repr

/-- A grant under way: its unit of work and the moment it began (06 R131). -/
structure Grant where
  work : Work
  began : Nat
  deriving DecidableEq, Repr

/-- The host flash operation slot (06 Table 6-8) with the bytes a program carries. -/
structure Slot where
  op : HostOpKind
  first : Nat
  last : Nat
  done : Nat
  total : Nat
  result : HostResult
  failed : Option Nat
  data : List Byte
  deriving DecidableEq, Repr

/-- A FLASH_READ that has been taken and not yet answered (06 R135). -/
structure HostRead where
  key : Nat
  addr : Nat
  len : Nat
  deadline : Nat
  deriving DecidableEq, Repr

/-- The external flash: (address, byte) pairs, addresses strictly rising, no entry FFh (log 6). -/
abbrev Memory := List Host.Cell

/-- Clip store and flash port (06 Tables 6-1, 6-4, 6-6, 6-8). `lastHigh` is 0 to 5 for voice0 to voice5 and 6 for LOW. -/
structure Flp where
  clips : Table Clip
  queue : List Nat
  verifying : Verify
  grant : Option Grant
  lastHigh : Nat
  lowPrefersHost : Bool
  slot : Slot
  read : Option HostRead
  flash : Memory
  deriving DecidableEq, Repr

/-- A refill request: first sample and count (06 R134, 07 R147). -/
structure Refill where
  first : Nat
  count : Nat
  deriving DecidableEq, Repr

/-- A voice (07 Table 7-2). -/
structure Voice where
  state : VoiceState
  clip : Option Nat
  position : Nat
  fetch : Nat
  loop : Bool
  buses : Buses
  target : Nat
  gv : Nat
  level : Nat
  owner : Owner
  stamp : Nat
  exitFade : Bool
  buffer : List Int
  primed : Bool
  underrun : Bool
  refill : Option Refill
  deriving DecidableEq, Repr

/-- Sound unit (07 Tables 7-2, 7-6). -/
structure Snd where
  voices : List Voice
  startCounter : Nat
  m : Nat
  loadShare : Bool
  loadRun : Nat
  clipFront : Bool
  clipRear : Bool
  deriving DecidableEq, Repr

/-- A notice source (08 Table 8-1). -/
structure Source where
  level : Nat
  pending : Bool
  count : Nat
  detail : Option Notice
  deriving DecidableEq, Repr

/-- Notice unit (08 Table 8-1). `sources` holds sources 1 to 12 in order. -/
structure Ntu where
  sources : List Source
  base : Option Nat
  mask : Nat
  released : Bool
  deriving DecidableEq, Repr

/-- A response frame (10 Table 10-1), its CRC computed when it is clocked out. -/
structure Response where
  status : Status
  kind : Nat
  key : Nat
  clamped : Bool
  estopCaused : Bool
  overrun : Bool
  payload : List Byte
  deriving DecidableEq, Repr

/-- Request port (09 Table 9-1). `spiOut` is what the last transfer drove on SPI data out from its second byte on, 00h
beyond its end (09 R172, R174; log 17). -/
structure Port where
  building : Bool
  held : Option Response
  overrun : Bool
  lastLink : Nat
  cause : ResetCause
  spiOut : List Byte
  deriving DecidableEq, Repr

/-- Lines that hold what was last written to them, and the last yaw encoder reading (00 Table 0-2, log 11). -/
structure Lines where
  steer : Int
  yaw : Int
  front : Int
  rear : Int
  encoder : Int
  deriving DecidableEq, Repr

/-- The whole block. `now` (microseconds) and `free` are the model's own (logs 1 and 8); `pending` is the queue of
commands, first in first out. -/
structure State where
  now : Nat
  free : Nat
  inReset : Bool
  settings : Settings
  pos : Pos
  gdu : Gdu
  msv : Msv
  rsm : Rsm
  cue : CueUnit
  flp : Flp
  snd : Snd
  ntu : Ntu
  port : Port
  lines : Lines
  pending : List Instr
  deriving DecidableEq, Repr

/-! ### Reset values (POWER) -/

/-- The reset values of Tables 1-5, 2-2, 3-5, 4-2 and 7-1. -/
def Settings.reset : Settings where
  vmax := 1500
  aAcc := 400
  aService := 800
  overspeedTol := 150
  standstill := 300
  crawl := 300
  deltaMax := 3000
  slew := 60
  pitch := 1000
  rejector := 50
  yawRate := 3
  yawMin := -1800
  yawMax := 1800
  linkTimeout := 250
  qualityMin := 4
  loadThreshold := 3000
  loadHysteresis := 300
  loadCeiling := 160
  supplyThreshold := 2600
  supplyHysteresis := 100
  supplyCeiling := 128
  voiceSlew := 8
  stopClip := none
  permitWindow := 10000
  releasePulse := 800
  masterGain := 200

/-- A seat after a POWER or PIN reset (03 R60). -/
def Seat.reset : Seat where
  enabled := false
  polarityA := false
  polarityB := false
  lockMin := 0
  lockMax := 0
  openMax := 0
  state := .disabled

/-- A voice with the reset values of 07 Table 7-2. -/
def Voice.reset : Voice where
  state := .idle
  clip := none
  position := 0
  fetch := 0
  loop := false
  buses := ⟨false, false⟩
  target := 0
  gv := 0
  level := 0
  owner := .nobody
  stamp := 0
  exitFade := false
  buffer := []
  primed := false
  underrun := false
  refill := none

/-- A notice source cleared, at a level (08 Table 8-1). -/
def Source.cleared (level : Nat) : Source where
  level := level
  pending := false
  count := 0
  detail := none

/-- No verification: the reset values of 06 Table 6-4. One that has ended or been abandoned leaves them too (log 30). -/
def Verify.idle : Verify where
  clip := none
  done := 0
  crc := 0xFFFFFFFF
  headerCrc := 0

/-- The slot after a POWER or PIN reset (06 Table 6-8). -/
def Slot.reset : Slot where
  op := .none
  first := 0
  last := 0
  done := 0
  total := 0
  result := .none
  failed := none
  data := []

/-- POS after a POWER or PIN reset (01 R21). -/
def Pos.reset : Pos where
  segments := []
  authority := none
  active := none
  s := 0
  sPrev := 0
  residue := 0
  lastPulse := none
  markerSeen := false
  missCount := 0
  missCounted := false
  path := []

/-- GDU after a POWER or PIN reset that read `yaw` (already clamped) from the encoder (02 R37). -/
def Gdu.reset (yaw : Int) : Gdu where
  reading := none
  ePrev := 0
  invalid := 0
  delta := 0
  yawCmd := yaw
  yawTarget := yaw
  recovering := false
  followCount := 0

/-- MSV after a POWER or PIN reset at `now`: the link expiry is the link timeout after it (04 R90). -/
def Msv.reset (now : Nat) : Msv where
  motion := .parked
  reasons := []
  vCmd := 0
  window := [0, 0, 0, 0]
  overspeed := 0
  dwell := none
  held := false
  estopLevel := none
  estopAsserted := false
  linkExpiry := some (now + Settings.reset.linkTimeout * Config.usPerMs)
  supplyLow := false
  supplyRun := 0

/-- RSM after a POWER or PIN reset (03 R60); no seat sample has been made (log 3). -/
def Rsm.reset : Rsm where
  seats := List.replicate 8 Seat.reset
  permit := none
  hold := .idle
  sampled := ⟨[], true, true⟩

/-- CUE after a POWER or PIN reset (05 R119). -/
def CueUnit.reset : CueUnit where
  cues := []
  lines := List.replicate 12 none
  turntable := none
  beacon := []
  beaconEnd := none
  evaluated := none

/-- FLP after a POWER or PIN reset, over the flash contents, which survive (06 R139). -/
def Flp.reset (flash : Memory) : Flp where
  clips := []
  queue := []
  verifying := Verify.idle
  grant := none
  lastHigh := 6
  lowPrefersHost := false
  slot := Slot.reset
  read := none
  flash := flash

/-- SND after a POWER or PIN reset (07 R160). -/
def Snd.reset : Snd where
  voices := List.replicate 6 Voice.reset
  startCounter := 0
  m := 0
  loadShare := false
  loadRun := 0
  clipFront := false
  clipRear := false

/-- NTU after a POWER or PIN reset (08 R170). -/
def Ntu.reset : Ntu where
  sources := Source.cleared 7 :: List.replicate 11 (Source.cleared 0)
  base := none
  mask := 0
  released := false

/-- RQP after a reset of factor `cause` that ended at `now` (09 R181). -/
def Port.reset (cause : ResetCause) (now : Nat) : Port where
  building := false
  held := none
  overrun := false
  lastLink := now
  cause := cause
  spiOut := []

/-- The lines after a POWER or PIN reset that read `encoder` (02 R37, 07 R160; logs 11 and 13). -/
def Lines.reset (encoder : Int) : Lines where
  steer := 0
  yaw := encoder
  front := 0
  rear := 0
  encoder := encoder

/-- The machine right after a POWER reset has ended (09 R181), at moment 0, with the encoder at 0 and an erased flash
(DESIGN CHOICE, logs 1, 6, 12, 13: the spec gives no such values). -/
def State.reset : State where
  now := 0
  free := 0
  inReset := false
  settings := Settings.reset
  pos := Pos.reset
  gdu := Gdu.reset 0
  msv := Msv.reset 0
  rsm := Rsm.reset
  cue := CueUnit.reset
  flp := Flp.reset []
  snd := Snd.reset
  ntu := Ntu.reset
  port := Port.reset .power 0
  lines := Lines.reset 0
  pending := []

/-! ### Why a step can stop -/

/-- Faults. -/
inductive Fault where
  /-- Raised by the completion of a flash unit (VERIFY_BURST_COMPLETE, REFILL_COMPLETE, FLASH_READ_COMPLETE,
  HOST_STEP_COMPLETE) whose bytes do not all lie within the 16 MiB of the flash: the spec gives the flash no such
  address. Safe: the checks of R122, R135, R136 and R137 keep every run from such a unit (log 16). -/
  | flashAddress (addr : Nat)
  deriving DecidableEq, Repr

/-- Refusals. -/
inductive Refusal where
  /-- Raised by `exec` for a command that has no meaning yet. Safe: the machine stops. No arm answers it now. -/
  | notModelled (mnemonic : String)
  deriving DecidableEq, Repr

/-! ### Setters: one per unit, so that updates have one spelling -/

def State.setNow (s : State) (v : Nat) : State := { s with now := v }
def State.setFree (s : State) (v : Nat) : State := { s with free := v }
def State.setInReset (s : State) (v : Bool) : State := { s with inReset := v }
def State.setSettings (s : State) (v : Settings) : State := { s with settings := v }
def State.setPos (s : State) (v : Pos) : State := { s with pos := v }
def State.setGdu (s : State) (v : Gdu) : State := { s with gdu := v }
def State.setMsv (s : State) (v : Msv) : State := { s with msv := v }
def State.setRsm (s : State) (v : Rsm) : State := { s with rsm := v }
def State.setCue (s : State) (v : CueUnit) : State := { s with cue := v }
def State.setFlp (s : State) (v : Flp) : State := { s with flp := v }
def State.setSnd (s : State) (v : Snd) : State := { s with snd := v }
def State.setNtu (s : State) (v : Ntu) : State := { s with ntu := v }
def State.setPort (s : State) (v : Port) : State := { s with port := v }
def State.setLines (s : State) (v : Lines) : State := { s with lines := v }
def State.setPending (s : State) (v : List Instr) : State := { s with pending := v }

end Sys2Proof.Machine
end

