-- ==== Sys2Proof/Machine/Ops.lean ====
section
/-! DEFINITION. The operations several commands share: keyed tables, the flash memory, exact arithmetic, CRCs, notices
(08 §8.1), voices (07 §7.2 to §7.5), effect lines (05 §5.4) and the stop-reason set with the entries to SAFE_STOP and
E_STOP (04 §4.2). -/

namespace Sys2Proof.Machine

/-! ### Keyed tables -/

/-- The entry under `k`, if present. -/
def Table.get {α : Type} : Table α → Nat → Option α
  | [], _ => none
  | (j, v) :: t, k => if j = k then some v else Table.get t k

/-- The table with `v` under `k`, keys still strictly rising. -/
def Table.put {α : Type} (k : Nat) (v : α) : Table α → Table α
  | [] => [(k, v)]
  | (j, w) :: t => if k < j then (k, v) :: (j, w) :: t else if k = j then (k, v) :: t else (j, w) :: Table.put k v t

/-- The table without `k`. -/
def Table.del {α : Type} (k : Nat) (t : Table α) : Table α := t.filter (fun p => p.1 ≠ k)

/-- The table with `f` applied to the entry under `k`, if present. -/
def Table.update {α : Type} (k : Nat) (f : α → α) (t : Table α) : Table α :=
  t.map (fun p => if p.1 = k then (p.1, f p.2) else p)

/-- The keys present, ascending. -/
def Table.keys {α : Type} (t : Table α) : List Nat := t.map (·.1)

/-- The canonical form: keys strictly rise. -/
abbrev Table.wf {α : Type} (t : Table α) : Prop := t.Pairwise (fun a b => a.1 < b.1)

/-! ### The external flash (06 §6.2; log 6) -/

/-- What a byte nothing has written reads as: an erased byte reads FFh (06 R137; log 6). -/
def Memory.blank : Byte := 0xFF

/-- One byte of flash. -/
def Memory.read : Memory → Nat → Byte
  | [], _ => Memory.blank
  | (j, b) :: m, a => if j = a then b else Memory.read m a

/-- The cells with `b` at `a` put in its place. -/
def Memory.insert (a : Nat) (b : Byte) : Memory → Memory
  | [] => [(a, b)]
  | (j, c) :: m => if a < j then (a, b) :: (j, c) :: m else if a = j then (a, b) :: m else (j, c) :: Memory.insert a b m

/-- The flash with `b` at `a`, in the canonical form: an FFh is not listed. -/
def Memory.write (m : Memory) (a : Nat) (b : Byte) : Memory :=
  if b = Memory.blank then m.filter (fun c => c.1 ≠ a) else Memory.insert a b m

/-- The `n` bytes of flash from `a`. -/
def Memory.readRange (m : Memory) (a n : Nat) : List Byte := (List.range n).map (fun i => Memory.read m (a + i))

/-- A page program of `data` from `a`: a programmed bit can only change from 1 to 0 (06 R136; log 15). -/
def Memory.program (m : Memory) (a : Nat) : List Byte → Memory
  | [] => m
  | b :: bs => Memory.program (Memory.write m a (Memory.read m a &&& b)) (a + 1) bs

/-- A sector erase of `n` bytes from `a`: an erased byte reads FFh (06 R137). -/
def Memory.eraseRange (m : Memory) (a n : Nat) : Memory := m.filter (fun c => c.1 < a ∨ a + n ≤ c.1)

/-- The `n` bytes from `a` left as free values, taken from index `k` on (06 R139; log 7). -/
def Memory.havoc (m : Memory) (a k : Nat) : Nat → Memory
  | 0 => m
  | n + 1 => Memory.havoc (Memory.write m a (Config.freeByte k)) (a + 1) (k + 1) n

/-- The canonical form: addresses strictly rise and no entry is FFh. -/
abbrev Memory.wf (m : Memory) : Prop := m.Pairwise (fun a b => a.1 < b.1) ∧ ∀ c ∈ m, c.2 ≠ Memory.blank

/-! ### Arithmetic (00 §0.5.3) -/

/-- `n` clamped to `lo` to `hi`. -/
def clampNat (lo hi n : Nat) : Nat := max lo (min hi n)

/-- `n` clamped to `lo` to `hi`. -/
def clampInt (lo hi n : Int) : Int := max lo (min hi n)

/-- The bits of the square root of `n` from bit `k - 1` down, added to `r`. -/
def isqrtBits (n : Nat) : Nat → Nat → Nat
  | 0, r => r
  | k + 1, r => isqrtBits n k (if (r + 2 ^ k) * (r + 2 ^ k) ≤ n then r + 2 ^ k else r)

/-- isqrt(n): the largest r with r² ≤ n (00 §0.5.3). -/
def isqrt (n : Nat) : Nat := isqrtBits n (n.log2 / 2 + 1) 0

/-- The least of a list, none when it is empty. -/
def leastOf : List Nat → Option Nat
  | [] => none
  | x :: xs => some (xs.foldl min x)

/-- `x` moved toward `target` by at most `rate` (02 R27, R33). -/
def stepToward (x target : Int) (rate : Nat) : Int :=
  if target - x > rate then x + rate else if x - target > rate then x - rate else target

/-- Whole milliseconds left until `deadline`, rounded up (log 5). -/
def msLeft (now deadline : Nat) : Nat := (deadline - now + 999) / 1000

/-! ### CRCs -/

/-- One byte into the reflected CRC-32, polynomial EDB88320h, least significant bit first (06 §6.2). -/
def crc32Byte (crc : Crc32) (b : Byte) : Crc32 :=
  (List.range 8).foldl (fun c _ => if c.getLsbD 0 then (c >>> 1) ^^^ 0xEDB88320#32 else c >>> 1) (crc ^^^ b.zeroExtend 32)

/-- The bytes into the running CRC-32. -/
def crc32 (crc : Crc32) (bs : List Byte) : Crc32 := bs.foldl crc32Byte crc

/-- One byte into the CRC-16, polynomial 1021h, not reflected (09 R175, 10 Table 10-1). -/
def crc16Byte (crc : Crc16) (b : Byte) : Crc16 :=
  (List.range 8).foldl (fun c _ => if c.getMsbD 0 then (c <<< 1) ^^^ 0x1021#16 else c <<< 1)
    (crc ^^^ (b.zeroExtend 16 <<< 8))

/-- The CRC-16 of a frame's bytes, initial value FFFFh. -/
def crc16 (bs : List Byte) : Crc16 := bs.foldl crc16Byte 0xFFFF

/-! ### Time -/

/-- One microsecond passes (log 1). -/
def State.tick (s : State) : State := s.setNow (s.now + 1)

/-- The moment `ms` milliseconds from now. -/
def State.after (s : State) (ms : Nat) : Nat := s.now + ms * Config.usPerMs

/-! ### Notices (08 §8.1) -/

/-- The source a notice is raised against (08 Table 8-2). -/
def Notice.source : Notice → Nat
  | .estop _ => 1
  | .seat _ _ => 2
  | .motion _ => 3
  | .extended | .held => 4
  | .mismatch _ _ _ | .missed _ _ | .clamp _ _ => 5
  | .cueFired _ | .cueSkipped _ _ | .cueConflict _ _ => 6
  | .voiceEnded _ _ | .voicePreempted _ _ | .voiceUnderrun _ _ | .voiceRefused _ _ => 7
  | .clipReady _ | .clipBad _ _ => 8
  | .flashDone _ | .flashTimeout _ => 9
  | .release _ => 10
  | .supply _ => 11
  | .badCrc | .overrun => 12

/-- What one occurrence does to its source (08 R163). -/
def Source.record (n : Notice) (src : Source) : Source :=
  if src.level = 0 then src
  else { src with pending := true, count := min 255 (src.count + 1), detail := some (src.detail.getD n) }

/-- Raise a notice at NTU (08 R163). The NOTICE line is a function of NTU's state (R165), so it follows. -/
def State.raise (n : Notice) (s : State) : State :=
  s.setNtu { s.ntu with sources := s.ntu.sources.modify (n.source - 1) (Source.record n) }

/-! ### Voices (07) -/

/-- Voice `i`. -/
def State.voice (s : State) (i : Nat) : Voice := s.snd.voices.getD i Voice.reset

/-- Voice `i` replaced. -/
def State.setVoice (i : Nat) (v : Voice) (s : State) : State :=
  s.setSnd { s.snd with voices := s.snd.voices.set i v }

/-- A voice is sounding when it is PLAYING or FADING (07 §7.1). -/
def Voice.sounding (v : Voice) : Bool := v.state ≠ .idle

/-- A voice plays a clip when it sounds and its clip id names it (06 §6.1). -/
def Voice.plays (id : Nat) (v : Voice) : Bool := v.sounding && v.clip == some id

/-- Some voice plays clip `id` (06 §6.1). -/
def State.clipPlayed (s : State) (id : Nat) : Bool := s.snd.voices.any (Voice.plays id)

/-- The unit under way, if it is a refill of voice `i`, is no longer to be delivered (06 R134). -/
def Work.dropRefill (i : Nat) : Work → Work
  | .refill v a n live => .refill v a n (live && v ≠ i)
  | w => w

/-- Withdraw voice `i`'s refill request; a read of it under way runs on and is discarded (06 R134, 07 R142). -/
def State.withdrawRefill (i : Nat) (s : State) : State :=
  (s.setVoice i { s.voice i with refill := none }).setFlp
    { s.flp with grant := s.flp.grant.map (fun g => { g with work := g.work.dropRefill i }) }

/-- Voice `i` becomes IDLE: its request withdrawn and its buffer emptied, its other fields as they stand (07 R142). -/
def State.silenceVoice (i : Nat) (s : State) : State :=
  let t := s.withdrawRefill i
  t.setVoice i { t.voice i with state := .idle, buffer := [] }

/-- Voice `i` ends, with VOICE ENDED (07 R142). -/
def State.endVoice (i : Nat) (s : State) : State :=
  (s.silenceVoice i).raise (.voiceEnded i (s.voice i).owner)

/-- Fade a voice: a PLAYING one becomes FADING (07 R150). -/
def Voice.fade (v : Voice) : Voice := if v.state = .playing then { v with state := .fading } else v

/-- Fade every PLAYING voice that `p` names (07 R150 to R153). -/
def State.fadeVoices (p : Voice → Bool) (s : State) : State :=
  s.setSnd { s.snd with voices := s.snd.voices.map (fun v => if p v then v.fade else v) }

/-- The clip of a voice loops when the voice's loop flag is set and the clip has a loop part (07 §7.3). -/
def Voice.loops (v : Voice) (c : Clip) : Bool := v.loop && c.loop.isSome

/-- The fetch boundary (07 §7.3). -/
def Voice.boundary (v : Voice) (c : Clip) : Nat := if v.loop then (c.loop.map (·.2)).getD c.length else c.length

/-- The conditions of 07 R147 for placing a refill request. -/
def Voice.needsRefill (v : Voice) (c : Clip) : Bool :=
  v.sounding && v.refill.isNone && decide (v.buffer.length ≤ 256) && (v.loops c || decide (v.fetch ≠ c.length))

/-- The clip record of a voice. -/
def State.clipOf (s : State) (v : Voice) : Option Clip := v.clip.bind (Table.get s.flp.clips)

/-- The request of 07 R147, placed when its conditions hold. -/
def State.placeRefill (i : Nat) (s : State) : State :=
  let v := s.voice i
  match s.clipOf v with
  | none => s
  | some c =>
    if v.needsRefill c then
      s.setVoice i { v with refill := some ⟨v.fetch, min 128 (v.boundary c - v.fetch)⟩ }
    else s

/-- A claim for a voice (07 §7.2). -/
structure Claim where
  clip : Nat
  buses : Buses
  gain : Nat
  loop : Bool
  exitFade : Bool
  level : Nat
  owner : Owner
  deriving DecidableEq, Repr

/-- The first of a list that no other is before. -/
def firstLeast {α : Type} (before : α → α → Bool) : List α → Option α
  | [] => none
  | x :: xs => some (xs.foldl (fun best y => if before y best then y else best) x)

/-- The voice chosen for a claim of `level` (07 R144). -/
def chooseVoice (voices : List Voice) (level : Nat) : Option Nat :=
  let vs := voices.zipIdx
  let idle := (vs.find? (fun p => p.1.state = .idle)).map (·.2)
  let fading := (firstLeast (fun a b => decide (a.1.stamp < b.1.stamp)) (vs.filter (fun p => p.1.state = .fading))).map (·.2)
  let lower := (firstLeast (fun a b => decide (a.1.level < b.1.level ∨ (a.1.level = b.1.level ∧ a.1.stamp < b.1.stamp)))
    (vs.filter (fun p => p.1.state = .playing ∧ p.1.level < level))).map (·.2)
  idle <|> fading <|> lower

/-- The start counter after one more start; past its last value it is free (07 §7.1; log 10). -/
def State.nextStamp (s : State) : Nat :=
  if s.snd.startCounter + 1 < 2 ^ 48 then s.snd.startCounter + 1 else (Config.freeStamp s.free).toNat

/-- The notice for the voice a claim takes: PREEMPTED for a PLAYING voice, ENDED for a FADING one (07 R145). -/
def State.yieldVoice (i : Nat) (s : State) : State :=
  match (s.voice i).state with
  | .playing => s.raise (.voicePreempted i (s.voice i).owner)
  | .fading => s.raise (.voiceEnded i (s.voice i).owner)
  | .idle => s

/-- The voice as a claim for clip `c` starts it (07 R145). -/
def Voice.started (q : Claim) (c : Clip) (stamp : Nat) : Voice where
  state := .playing
  clip := some q.clip
  position := 0
  fetch := 0
  loop := q.loop
  buses := q.buses
  target := c.gain * q.gain / 256
  gv := c.gain * q.gain / 256
  level := q.level
  owner := q.owner
  stamp := stamp
  exitFade := q.exitFade
  buffer := []
  primed := false
  underrun := false
  refill := none

/-- Voice `i` is started for a claim (07 R145). -/
def State.startVoice (i : Nat) (q : Claim) (c : Clip) (s : State) : State :=
  let t := (s.yieldVoice i).withdrawRefill i
  let u := t.setVoice i (Voice.started q c t.snd.startCounter)
  let n := u.nextStamp
  let w := if t.snd.startCounter + 1 < 2 ^ 48 then u else u.setFree (u.free + 1)
  (w.setSnd { w.snd with startCounter := n }).placeRefill i

/-- The clip under `id` when it is READY (06 R121). -/
def State.readyClip (s : State) (id : Nat) : Option Clip :=
  (Table.get s.flp.clips id).filter (fun c => c.state = .ready)

/-- A claim, judged and carried out: the state and the voice, or none when the clip is not READY or no voice
qualifies (07 R143, R144). -/
def State.claimVoice (q : Claim) (s : State) : Option (State × Nat) :=
  match s.readyClip q.clip, chooseVoice s.snd.voices q.level with
  | some c, some i => some (s.startVoice i q c, i)
  | _, _ => none

/-- The stop announcement at an entry to E_STOP (07 R153). -/
def State.announceStop (s : State) : State :=
  let t := s.fadeVoices (fun v => v.level < 3)
  match t.settings.stopClip with
  | none => t
  | some id =>
    match t.readyClip id with
    | none => t.raise (.voiceRefused id false)
    | some _ =>
      match t.claimVoice ⟨id, ⟨true, true⟩, 256, false, false, 3, .stopCall⟩ with
      | some (u, _) => u
      | none => t.raise (.voiceRefused id true)

/-! ### Effect lines (05 §5.4) -/

/-- Release every effect line entry that `p` names (05 R114). -/
def State.releaseLines (p : LineHold → Bool) (s : State) : State :=
  s.setCue { s.cue with lines := s.cue.lines.map (fun e => e.filter (fun h => !p h)) }

/-- Release the TURNTABLE entry when it names cue `id`; the yaw target stays (05 R111). -/
def State.releaseTurntable (id : Nat) (s : State) : State :=
  s.setCue { s.cue with turntable := s.cue.turntable.filter (fun h => h.holder ≠ id) }

/-- Every cue record under `id` changed by `f`. -/
def State.updateCue (id : Nat) (f : Cue → Cue) (s : State) : State :=
  s.setCue { s.cue with cues := Table.update id f s.cue.cues }

/-! ### The stop-reason set (04 §4.2) -/

/-- The ten reasons in the order of 04 Table 4-5. -/
def StopReason.all : List StopReason :=
  [.estopInput, .hostEstop, .seatFault, .overspeed, .authorityOverrun, .guideLost, .hostStop, .position, .linkLost,
    .yawFollow]

/-- Category E (04 Table 4-5). -/
def StopReason.isE : StopReason → Bool
  | .estopInput | .hostEstop | .seatFault | .overspeed | .authorityOverrun | .guideLost => true
  | .hostStop | .position | .linkLost | .yawFollow => false

/-- The set with `r`, in the order of Table 4-5 and without duplicates (04 R65). -/
def insertReason (r : StopReason) (l : List StopReason) : List StopReason :=
  StopReason.all.filter (fun x => x = r || l.contains x)

/-- MSV with `r` taken out of the set; the motion state does not change (04 R65). -/
def State.removeReason (r : StopReason) (s : State) : State :=
  s.setMsv { s.msv with reasons := s.msv.reasons.filter (· ≠ r) }

/-- Steps 1 to 5 of an entry to E_STOP (04 R66): MSV's part, CUE's lines off (05 R115), the stop announcement. -/
def State.enterEStop (s : State) : State :=
  let t := s.setMsv { s.msv with motion := .eStop, vCmd := 0, dwell := none, held := false, overspeed := 0 }
  (t.releaseLines (fun _ => true)).announceStop

/-- Entry to SAFE_STOP (04 R67). -/
def State.enterSafeStop (s : State) : State :=
  s.setMsv { s.msv with motion := .safeStop, dwell := none, held := false }

/-- What joining the set does: an E reason enters E_STOP outside PARKED and E_STOP and raises ESTOP (04 R66); an S
reason enters SAFE_STOP from RUNNING and DWELL (R67), with a MOTION notice unless the request STOP added it (R64). -/
def State.reasonEffect (r : StopReason) (s : State) : State :=
  if r.isE then
    match s.msv.motion with
    | .parked | .eStop => s.raise (.estop r)
    | .stopped | .running | .dwell | .safeStop => s.enterEStop.raise (.estop r)
  else
    match s.msv.motion with
    | .running | .dwell => if r = .hostStop then s.enterSafeStop else s.enterSafeStop.raise (.motion .safeStop)
    | .parked | .stopped | .safeStop | .eStop => s

/-- Add `r` to the stop-reason set; a reason already present has no effect (04 R65 to R67). -/
def State.addReason (r : StopReason) (s : State) : State :=
  if s.msv.reasons.contains r then s
  else (s.setMsv { s.msv with reasons := insertReason r s.msv.reasons }).reasonEffect r

/-! ### Questions between units -/

/-- RSM's all-verified answer (03 R50). -/
def State.allVerified (s : State) : Bool := s.rsm.seats.all (fun t => !t.enabled || t.state = .verified)

/-- RSM's crawl answer (03 R50). -/
def State.anySuspect (s : State) : Bool :=
  s.rsm.seats.any (fun t => t.enabled && (match t.state with | .suspect _ _ => true | _ => false))

/-- RSM's fault-present answer (03 R50). -/
def State.anyFault (s : State) : Bool :=
  s.rsm.seats.any (fun t => match t.state with | .fault _ => true | _ => false)

/-- The active segment's record, with its id. -/
def State.activeSegment (s : State) : Option (Nat × Segment) :=
  s.pos.active.bind (fun a => (Table.get s.pos.segments a).map (fun g => (a, g)))

/-- There is an active segment and its station flag is set (03 R53, R58). -/
def State.atStation (s : State) : Bool := (s.activeSegment.map (fun p => p.2.station)).getD false

/-- The vehicle is at zero speed: no pulse has qualified for 500 ms (01 R13; log 22). -/
def State.zeroSpeed (s : State) : Bool :=
  match s.pos.lastPulse with
  | none => true
  | some t => decide (t + 500 * Config.usPerMs ≤ s.now)

/-- The guide reading is valid now (02 R24, R26). -/
def State.guideValid (s : State) : Bool :=
  match s.gdu.reading with
  | none => false
  | some r => decide (s.settings.qualityMin ≤ r.quality) && decide (r.offset.natAbs ≤ 200) &&
      decide (s.now ≤ r.arrival + 20 * Config.usPerMs)

/-- The master target (07 R158). -/
def State.masterTarget (s : State) : Nat :=
  let a := s.settings.masterGain
  let b := if s.snd.loadShare then min a s.settings.loadCeiling else a
  if s.msv.supplyLow then min b s.settings.supplyCeiling else b

/-- An event that lowered the master target below m sets m to it (07 R158). -/
def State.capMaster (s : State) : State := s.setSnd { s.snd with m := min s.snd.m s.masterTarget }

/-- An event that names what has not come about leaves the state as it is (log 2). -/
def notDue (s : State) : State := s

end Sys2Proof.Machine
end

