-- ==== Sys2Proof/Machine/Operands.lean ====
section
/-! DEFINITION. The operand forms: the codes and byte layouts of chapter 10, each record class's check and clamp of a PUT
payload, the overlay an AMEND makes, and the frame checks of 09 R175. -/

namespace Sys2Proof.Machine

/-! ### Bytes (10 R185: most significant byte first on the port) -/

/-- A u8. -/
def u8 (n : Nat) : List Byte := [BitVec.ofNat 8 n]

/-- A u16. -/
def u16 (n : Nat) : List Byte := [BitVec.ofNat 8 (n / 256), BitVec.ofNat 8 n]

/-- A u32. -/
def u32 (n : Nat) : List Byte := u16 (n / 65536) ++ u16 n

/-- A u48. -/
def u48 (n : Nat) : List Byte := u16 (n / 4294967296) ++ u32 n

/-- The 16-bit word of a signed value in two's complement. -/
def wordOfInt (x : Int) : Nat := (x % 65536).toNat

/-- The signed value of a 16-bit word in two's complement. -/
def intOfWord (n : Nat) : Int := if n < 32768 then n else (n : Int) - 65536

/-- An s16. -/
def s16 (x : Int) : List Byte := u16 (wordOfInt x)

/-- A flag as a bit value. -/
def bit (b : Bool) (weight : Nat) : Nat := if b then weight else 0

/-- An id field: FFh for none. -/
def idByte (o : Option Nat) : Nat := o.getD 255

/-- The number a list of bytes spells, most significant first. -/
def ofBytes (bs : List Byte) : Nat := bs.foldl (fun a b => a * 256 + b.toNat) 0

/-- The `n`-byte number at offset `i` of a payload, most significant byte first. -/
def field (bs : List Byte) (i n : Nat) : Nat := ofBytes ((bs.drop i).take n)

/-- The four bytes of a flash header field, least significant first (06 Table 6-3). -/
def le32 (bs : List Byte) (i : Nat) : Nat := ofBytes ((bs.drop i).take 4).reverse

/-- The signed 16-bit samples of flash bytes, least significant byte first (06 Table 6-3). -/
def samplesOf : List Byte → List Int
  | lo :: hi :: bs => intOfWord (hi.toNat * 256 + lo.toNat) :: samplesOf bs
  | _ => []

/-! ### Codes (10 Table 10-3, 09 Table 9-2) -/

def Motion.code : Motion → Nat
  | .parked => 0 | .stopped => 1 | .running => 2 | .dwell => 3 | .safeStop => 4 | .eStop => 5

/-- 1 to 10 in the order of 04 Table 4-5. -/
def StopReason.code : StopReason → Nat
  | .estopInput => 1 | .hostEstop => 2 | .seatFault => 3 | .overspeed => 4 | .authorityOverrun => 5
  | .guideLost => 6 | .hostStop => 7 | .position => 8 | .linkLost => 9 | .yawFollow => 10

def SegState.code : SegState → Nat
  | .free => 0 | .loaded => 1 | .locked => 2 | .active => 3

def FaultReason.code : FaultReason → Nat
  | .opened => 1 | .disagree => 2

def SeatState.code : SeatState → Nat
  | .disabled => 0 | .unlatched => 1 | .latching _ => 2 | .verified => 3 | .suspect _ _ => 4 | .fault _ => 5
  | .releasing _ => 6

/-- The fault reason code of a seat state, 0 absent. -/
def SeatState.reasonCode : SeatState → Nat
  | .fault r => r.code
  | _ => 0

/-- The good or bad count of a seat state (03 Table 3-1). -/
def SeatState.count : SeatState → Nat
  | .latching c => c
  | .suspect c _ => c
  | _ => 0

/-- The recovery count of a seat state (03 Table 3-1). -/
def SeatState.recovery : SeatState → Nat
  | .suspect _ r => r
  | _ => 0

/-- The release timer of a seat state in ms (03 Table 3-1; log 5). -/
def SeatState.timer (now : Nat) : SeatState → Nat
  | .releasing u => msLeft now u
  | _ => 0

def CueState.code : CueState → Nat
  | .disarmed => 0 | .armed => 1 | .active => 2 | .spent => 3

def BadReason.code : BadReason → Nat
  | .header => 1 | .length => 2 | .crc => 3 | .flashTimeout => 4

def ClipState.code : ClipState → Nat
  | .queued => 0 | .verifying => 1 | .ready => 2 | .bad _ => 3

/-- The bad reason code, 0 absent. -/
def ClipState.reasonCode : ClipState → Nat
  | .bad r => r.code
  | _ => 0

def VoiceState.code : VoiceState → Nat
  | .idle => 0 | .playing => 1 | .fading => 2

def Owner.code : Owner → Nat
  | .cue id => id | .nobody => 0xFD | .request => 0xFE | .stopCall => 0xFF

def EffectPhase.code : EffectPhase → Nat
  | .on => 0 | .off => 1 | .ended => 2

def HostOpKind.code : HostOpKind → Nat
  | .none => 0 | .program => 1 | .erase => 2

def HostResult.code : HostResult → Nat
  | .none => 0 | .running => 1 | .done => 2 | .timeout => 3

def ResetCause.code : ResetCause → Nat
  | .power => 1 | .pin => 2 | .soft => 3

def ReleaseOutcome.code : ReleaseOutcome → Nat
  | .done => 1 | .denied => 2 | .expired => 3 | .withdrawn => 4

/-- Operation and voice bytes of a FLASH notice (10 Table 10-12). -/
def FlashOp.bytes : FlashOp → List Byte
  | .program => u8 1 | .erase => u8 2 | .read => u8 3 | .refill v => u8 4 ++ u8 v

def Status.code : Status → Nat
  | .ok => 0x00 | .accepted => 0x01 | .badCrc => 0x10 | .badKind => 0x11 | .badClass => 0x12 | .badLength => 0x13
  | .badField => 0x14 | .notFound => 0x20 | .full => 0x21 | .locked => 0x22 | .inUse => 0x23 | .notReady => 0x24
  | .badState => 0x25 | .busy => 0x26 | .denied => 0x27 | .notOnRoute => 0x28 | .looped => 0x29 | .tooFar => 0x2A
  | .reasonsActive => 0x2B | .noResponse => 0x30

/-- A bus mask: bit 0 FRONT, bit 1 REAR. -/
def Buses.code (b : Buses) : Nat := bit b.front 1 + bit b.rear 2

/-- The buses a mask names; other bits are ignored (10 R185). -/
def busesOf (n : Nat) : Buses := ⟨n.testBit 0, n.testBit 1⟩

/-- A bus mask names FRONT, REAR or both. -/
def Buses.any (b : Buses) : Bool := b.front || b.rear

/-- The reason set as a u16: bit (code − 1) for each member (10 Table 10-3). -/
def reasonBits (l : List StopReason) : Nat :=
  (StopReason.all.map (fun r => bit (l.contains r) (2 ^ (r.code - 1)))).sum

/-- A reason list: a count, then one code per member in the order of Table 4-5 (10 R187). -/
def reasonList (l : List StopReason) : List Byte :=
  let l' := StopReason.all.filter (fun r => l.contains r)
  u8 l'.length ++ l'.flatMap (fun r => u8 r.code)

/-- The bytes of a detail record that 10 Table 10-12 lists. UNDERRUN carries the voice and its owner, as that table has it;
08 Table 8-2 and 07 R149 name the voice only (DEDUCED, log 34). -/
def Notice.head : Notice → List Byte
  | .estop r => u8 r.code
  | .seat i st => u8 1 ++ u8 i ++ u8 st.code ++ u8 st.reasonCode
  | .motion m => u8 1 ++ u8 m.code
  | .extended => u8 1
  | .held => u8 2
  | .mismatch g s c => u8 1 ++ u8 g ++ u16 s ++ u8 c
  | .missed g n => u8 2 ++ u8 g ++ u8 n
  | .clamp g s => u8 3 ++ u8 g ++ u16 s
  | .cueFired id => u8 1 ++ u8 id
  | .cueSkipped id a => u8 2 ++ u8 id ++ u8 (idByte a)
  | .cueConflict id o => u8 3 ++ u8 id ++ u8 o
  | .voiceEnded v o => u8 1 ++ u8 v ++ u8 o.code
  | .voicePreempted v o => u8 2 ++ u8 v ++ u8 o.code
  | .voiceUnderrun v o => u8 3 ++ u8 v ++ u8 o.code
  | .voiceRefused c nv => u8 4 ++ u8 c ++ u8 (if nv then 2 else 1)
  | .clipReady id => u8 1 ++ u8 id
  | .clipBad id r => u8 2 ++ u8 id ++ u8 r.code
  | .flashDone op => u8 1 ++ op.bytes
  | .flashTimeout op => u8 2 ++ op.bytes
  | .release o => u8 o.code
  | .supply low => u8 (if low then 1 else 2)
  | .badCrc => u8 1
  | .overrun => u8 2

/-- A detail record of eight bytes: byte 0 is 00h when it is absent (10 Table 10-12). The bytes the table lists nothing for
are 00h (DESIGN CHOICE, log 33). -/
def detailBytes (d : Option Notice) : List Byte :=
  let h := (d.map Notice.head).getD []
  h ++ List.replicate (8 - h.length) 0

/-! ### Presence words (10 R185) -/

/-- The AMEND carries none of the `rows` fields of its class (09 R177). -/
def noPresence (presence rows : Nat) : Bool := presence % 2 ^ rows = 0

/-- The carried value where the field's presence bit is set, the stored one elsewhere. -/
def pick {α : Type} (presence row : Nat) (carried stored : α) : α := if presence.testBit row then carried else stored

/-! ### SEGMENT (01 R2, 10 Table 10-4) -/

/-- An id byte as an option: FFh is none. -/
def idOf (n : Nat) : Option Nat := if n = 255 then none else some n

def Marker.toWire (m : Marker) : MarkerWire := ⟨m.code, m.offset, m.tolerance⟩

def Segment.toWire (g : Segment) : SegmentWire where
  length := g.length
  ceiling := g.ceiling
  kff := g.kff
  kp := g.kp
  kd := g.kd
  next := idByte g.next
  alt := idByte g.alt
  takeAlt := g.takeAlt
  station := g.station
  marker := g.marker.map Marker.toWire

/-- The stored record with the carried fields in place (01 R3). -/
def SegmentWire.over (w : SegmentWire) (p : Nat) (o : SegmentWire) : SegmentWire where
  length := pick p 0 w.length o.length
  ceiling := pick p 1 w.ceiling o.ceiling
  kff := pick p 2 w.kff o.kff
  kp := pick p 3 w.kp o.kp
  kd := pick p 4 w.kd o.kd
  next := pick p 5 w.next o.next
  alt := pick p 6 w.alt o.alt
  takeAlt := pick p 7 w.takeAlt o.takeAlt
  station := pick p 8 w.station o.station
  marker := pick p 9 w.marker o.marker

/-- Checks 3 to 6 of 01 R2. -/
def SegmentWire.valid (w : SegmentWire) : Bool :=
  decide (100 ≤ w.length ∧ w.length ≤ 60000) && decide (w.next = 255 ∨ w.next ≤ 127) &&
  decide (w.alt = 255 ∨ w.alt ≤ 127) &&
  (match w.marker with
   | none => true
   | some m => decide (1 ≤ m.code ∧ m.code ≤ 255 ∧ m.offset ≤ w.length))

/-- The clamped marker of 01 R2. -/
def MarkerWire.clamped (m : MarkerWire) : Marker := ⟨m.code, m.offset, clampNat 10 500 m.tolerance⟩

/-- The stored record: physical quantities clamped (01 R2). -/
def SegmentWire.clamped (set : Settings) (w : SegmentWire) : Segment where
  length := w.length
  ceiling := min set.vmax w.ceiling
  kff := clampInt (-(set.deltaMax : Int)) set.deltaMax w.kff
  kp := w.kp
  kd := w.kd
  next := idOf w.next
  alt := idOf w.alt
  takeAlt := w.takeAlt
  station := w.station
  marker := w.marker.map MarkerWire.clamped

/-- The GET layout of a segment (10 Table 10-4). -/
def Segment.bytes (g : Segment) (st : SegState) : List Byte :=
  u16 g.length ++ u16 g.ceiling ++ s16 g.kff ++ u8 g.kp ++ u8 g.kd ++ u8 (idByte g.next) ++ u8 (idByte g.alt) ++
  u8 (bit g.takeAlt 1 + bit g.station 2 + bit g.marker.isSome 4) ++
  (match g.marker with
   | some m => u8 m.code ++ u16 m.offset ++ u16 m.tolerance
   | none => [0, 0, 0, 0, 0]) ++ u8 st.code

/-! ### SEAT (03 R40, 10 Table 10-6) -/

def Seat.toWire (t : Seat) : SeatWire := ⟨t.enabled, t.polarityA, t.polarityB, t.lockMin, t.lockMax, t.openMax⟩

def SeatWire.over (w : SeatWire) (p : Nat) (o : SeatWire) : SeatWire where
  enabled := pick p 0 w.enabled o.enabled
  polarityA := pick p 1 w.polarityA o.polarityA
  polarityB := pick p 2 w.polarityB o.polarityB
  lockMin := pick p 3 w.lockMin o.lockMin
  lockMax := pick p 4 w.lockMax o.lockMax
  openMax := pick p 5 w.openMax o.openMax

/-- Check 3 of 03 R40. -/
def SeatWire.valid (w : SeatWire) : Bool :=
  decide (w.lockMin ≤ 1023 ∧ w.lockMax ≤ 1023 ∧ w.openMax ≤ 1023 ∧ w.lockMin ≤ w.lockMax)

/-- A seat with the configuration of `w` in state `st`. -/
def SeatWire.seat (w : SeatWire) (st : SeatState) : Seat :=
  ⟨w.enabled, w.polarityA, w.polarityB, w.lockMin, w.lockMax, w.openMax, st⟩

/-- The GET layout of a seat (10 Table 10-6). -/
def Seat.bytes (now : Nat) (t : Seat) : List Byte :=
  u8 (bit t.enabled 1 + bit t.polarityA 2 + bit t.polarityB 4) ++ u16 t.lockMin ++ u16 t.lockMax ++ u16 t.openMax ++
  u8 t.state.code ++ u8 t.state.count ++ u8 t.state.recovery ++ u8 t.state.reasonCode ++ u16 (t.state.timer now)

/-! ### CUE (05 R93, 10 Tables 10-7 and 10-8) -/

def Action.toWire : Action → ActionWire
  | .play c b g l x => ⟨1, c, b.code * 256, g, bit l 1 + bit x 2, 0⟩
  | .effect n on off k t => ⟨2, n, on, off, k, bit t 1⟩
  | .beacon c => ⟨3, c, 0, 0, 0, 0⟩
  | .yaw t => ⟨4, 0, wordOfInt t, 0, 0, 0⟩
  | .dwell ms => ⟨5, 0, ms, 0, 0, 0⟩
  | .slow v => ⟨6, 0, v, 0, 0, 0⟩

/-- An EFFECT time: clamped to 10 to 60000 and rounded down to a multiple of 10 (05 Table 5-2). -/
def effectTime (n : Nat) : Nat := clampNat 10 60000 n / 10 * 10

/-- An action entry checked and clamped (05 Table 5-2); none where a refusal check fails. -/
def ActionWire.parse (set : Settings) (w : ActionWire) : Option Action :=
  match w.kind with
  | 1 =>
    let b := busesOf (w.hi / 256)
    if w.arg ≤ 63 ∧ b.any = true then
      some (.play w.arg b (min 256 w.lo) (w.b6.testBit 0) (w.b6.testBit 1))
    else none
  | 2 =>
    if w.arg ≤ 11 ∧ w.b7 ≤ 1 then
      some (.effect w.arg (effectTime w.hi) (if w.lo = 0 then 0 else effectTime w.lo) w.b6 (w.b7 = 1))
    else none
  | 3 => some (.beacon w.arg)
  | 4 => some (.yaw (clampInt set.yawMin set.yawMax (intOfWord w.hi)))
  | 5 => some (.dwell (clampNat 100 60000 w.hi))
  | 6 => some (.slow (min set.vmax w.hi))
  | _ => none

/-- Storing the entry as `a` changed a value it carried (05 R93). -/
def ActionWire.changed (w : ActionWire) (a : Action) : Bool :=
  match a with
  | .play _ _ g _ _ => g ≠ w.lo
  | .effect _ on off _ _ => on ≠ w.hi ∨ off ≠ w.lo
  | .beacon _ => false
  | .yaw t => t ≠ intOfWord w.hi
  | .dwell ms => ms ≠ w.hi
  | .slow v => v ≠ w.hi

/-- The whole list parsed, none where an entry fails. -/
def parseActions (set : Settings) : List ActionWire → Option (List Action)
  | [] => some []
  | w :: ws =>
    match w.parse set, parseActions set ws with
    | some a, some as => some (a :: as)
    | _, _ => none

def Cue.toWire (c : Cue) : CueWire :=
  ⟨c.segment, c.start, c.stop, c.level, c.everyPass, c.notify, c.actions.map Action.toWire⟩

def CueWire.over (w : CueWire) (p : Nat) (o : CueWire) : CueWire where
  segment := pick p 0 w.segment o.segment
  start := pick p 1 w.start o.start
  stop := pick p 2 w.stop o.stop
  level := pick p 3 w.level o.level
  everyPass := pick p 4 w.everyPass o.everyPass
  notify := pick p 5 w.notify o.notify
  actions := pick p 6 w.actions o.actions

/-- Checks 3 to 5 of 05 R93, the kinds apart. -/
def CueWire.valid (w : CueWire) : Bool :=
  decide (w.segment ≤ 127 ∧ w.start ≤ 59999 ∧ 1 ≤ w.stop ∧ w.stop ≤ 60000 ∧ w.start < w.stop) &&
  decide (w.level ≤ 3) && decide (1 ≤ w.actions.length ∧ w.actions.length ≤ 6)

/-- The checked and clamped actions of a cue payload with whether a clamp or rounding changed one (05 R93). -/
def CueWire.parse (set : Settings) (w : CueWire) : Option (List Action × Bool) :=
  if w.valid then
    (parseActions set w.actions).map (fun as => (as, (w.actions.zip as).any (fun p => p.1.changed p.2)))
  else none

/-- The record of `w` with its actions parsed. -/
def CueWire.cue (w : CueWire) (as : List Action) (st : CueState) (conflict skipped : Bool) (slow : Option Nat) : Cue :=
  ⟨w.segment, w.start, w.stop, w.level, w.everyPass, w.notify, as, st, conflict, skipped, slow⟩

/-- The eight bytes of an action entry (10 Table 10-8). -/
def ActionWire.bytes (w : ActionWire) : List Byte :=
  u8 w.kind ++ u8 w.arg ++ u16 w.hi ++ u16 w.lo ++ u8 w.b6 ++ u8 w.b7

/-- The GET layout of a cue (10 Table 10-7). -/
def Cue.bytes (c : Cue) : List Byte :=
  u8 c.segment ++ u16 c.start ++ u16 c.stop ++ u8 c.level ++ u8 (bit c.everyPass 1 + bit c.notify 2) ++
  u8 c.actions.length ++ u8 c.state.code ++ u8 (bit c.conflict 1 + bit c.skipped 2) ++
  c.actions.flatMap (fun a => a.toWire.bytes)

/-! ### CLIP (06 R122, 10 Table 10-9) -/

def Clip.toWire (c : Clip) : ClipWire := ⟨c.addr, c.length, c.gain, c.loop⟩

def ClipWire.over (w : ClipWire) (p : Nat) (o : ClipWire) : ClipWire where
  addr := pick p 0 w.addr o.addr
  length := pick p 1 w.length o.length
  gain := pick p 2 w.gain o.gain
  loop := pick p 3 w.loop o.loop

/-- Check 3 of 06 R122, the extent by R125. -/
def ClipWire.valid (w : ClipWire) : Bool :=
  decide (w.addr % 4096 = 0 ∧ 1 ≤ w.length ∧ w.length ≤ 8388600 ∧ w.addr + 16 + 2 * w.length ≤ Config.flashSize) &&
  (match w.loop with
   | none => true
   | some (a, b) => decide (a < b ∧ b ≤ w.length))

/-- The record of `w` in state `st`, base gain clamped (06 R122). -/
def ClipWire.clip (w : ClipWire) (st : ClipState) : Clip := ⟨w.addr, w.length, min 256 w.gain, w.loop, st⟩

/-- Bytes in a clip's extent (06 R125). -/
def Clip.size (c : Clip) : Nat := 16 + 2 * c.length

/-- The clip's extent and the bytes from `first` to `last` share a byte (06 R125). -/
def Clip.overlaps (c : Clip) (first last : Nat) : Bool := decide (c.addr ≤ last ∧ first < c.addr + c.size)

/-- The GET layout of a clip, with its progress (10 Table 10-9). -/
def Clip.bytes (c : Clip) (progress : Nat) : List Byte :=
  u32 c.addr ++ u32 c.length ++ u16 c.gain ++ u8 (bit c.loop.isSome 1) ++
  (match c.loop with
   | some (a, b) => u32 a ++ u32 b
   | none => List.replicate 8 0) ++
  u8 c.state.code ++ u8 c.state.reasonCode ++ u32 progress

/-! ### SETTINGS (09 R178, 10 Table 10-10) -/

/-- The 26 words of the settings record, in the order of 10 Table 10-10. -/
def Settings.words (t : Settings) : List Nat :=
  [t.vmax, t.aAcc, t.aService, t.overspeedTol, t.standstill, t.crawl, t.deltaMax, t.slew, t.pitch, t.rejector,
   t.yawRate, wordOfInt t.yawMin, wordOfInt t.yawMax, t.linkTimeout, t.qualityMin, t.loadThreshold,
   t.loadHysteresis, t.loadCeiling, t.supplyThreshold, t.supplyHysteresis, t.supplyCeiling, t.voiceSlew,
   t.stopClip.getD 0xFFFF, t.permitWindow, t.releasePulse, t.masterGain]

/-- The words of the record with the carried ones in place (09 R178). -/
def overWords (presence : Nat) (carried stored : List Nat) : List Nat :=
  (List.range 26).map (fun i => pick presence i (carried.getD i 0) (stored.getD i 0))

/-- The record of 26 words, every field clamped to its range (09 R178; Tables 1-5, 2-2, 3-5, 4-2, 7-1). -/
def settingsOf (ws : List Nat) : Settings where
  vmax := clampNat 100 2500 (ws.getD 0 0)
  aAcc := clampNat 100 3000 (ws.getD 1 0)
  aService := clampNat 100 3000 (ws.getD 2 0)
  overspeedTol := clampNat 50 500 (ws.getD 3 0)
  standstill := clampNat 1 5000 (ws.getD 4 0)
  crawl := clampNat 0 1000 (ws.getD 5 0)
  deltaMax := clampNat 100 4500 (ws.getD 6 0)
  slew := clampNat 1 3000 (ws.getD 7 0)
  pitch := clampNat 100 10000 (ws.getD 8 0)
  rejector := clampNat 0 2000 (ws.getD 9 0)
  yawRate := clampNat 1 100 (ws.getD 10 0)
  yawMin := clampInt (-1800) 1800 (intOfWord (ws.getD 11 0))
  yawMax := clampInt (-1800) 1800 (intOfWord (ws.getD 12 0))
  linkTimeout := clampNat 50 5000 (ws.getD 13 0)
  qualityMin := clampNat 0 15 (ws.getD 14 0)
  loadThreshold := clampNat 0 4095 (ws.getD 15 0)
  loadHysteresis := clampNat 0 4095 (ws.getD 16 0)
  loadCeiling := clampNat 0 256 (ws.getD 17 0)
  supplyThreshold := clampNat 0 4095 (ws.getD 18 0)
  supplyHysteresis := clampNat 0 1000 (ws.getD 19 0)
  supplyCeiling := clampNat 0 256 (ws.getD 20 0)
  voiceSlew := clampNat 1 256 (ws.getD 21 0)
  stopClip := if ws.getD 22 0 = 0xFFFF then none else some (ws.getD 22 0)
  permitWindow := clampNat 1000 60000 (ws.getD 23 0)
  releasePulse := clampNat 100 5000 (ws.getD 24 0)
  masterGain := clampNat 0 256 (ws.getD 25 0)

/-- Check 3 of 09 R178: the stop clip is none or a clip id. -/
def stopClipOk (ws : List Nat) : Bool := decide (ws.getD 22 0 = 0xFFFF ∨ ws.getD 22 0 ≤ 63)

/-- The GET layout of the settings (10 Table 10-10). -/
def Settings.bytes (t : Settings) : List Byte := t.words.flatMap u16

/-! ### VOICE (07 R154, 10 §10.3) -/

/-- The GET layout of a voice. -/
def Voice.bytes (v : Voice) : List Byte :=
  u8 v.state.code ++ u8 (idByte v.clip) ++ u32 v.position ++ u32 v.fetch ++
  u8 (bit v.loop 1 + bit v.exitFade 2 + bit v.primed 4 + bit v.underrun 8 + bit v.refill.isSome 16) ++
  u8 v.buses.code ++ u16 v.target ++ u16 v.gv ++ u8 v.level ++ u8 v.owner.code ++ u48 v.stamp ++ u16 v.buffer.length

/-! ### List form (10 R187) -/

/-- A LIST response: a count, then key and state byte of each entry. -/
def listBytes (l : List (Nat × Nat)) : List Byte := u8 l.length ++ l.flatMap (fun p => u8 p.1 ++ u8 p.2)

/-! ### Frame checks (09 R175, 10 R186) -/

/-- What a request frame's checks find (09 R175); `badPayload` is check 5, whose code is BAD_LENGTH. -/
inductive Verdict where
  | badLength | badCrc | badKind | badClass | badPayload | pass
  deriving DecidableEq, Repr

/-- The kinds of 10 Table 10-2. -/
def knownKind (k : Nat) : Bool := decide ((1 ≤ k ∧ k ≤ 5) ∨ (0x20 ≤ k ∧ k ≤ 0x36))

/-- A record request: PUT, GET, AMEND, RETIRE or LIST. -/
def recordKind (k : Nat) : Bool := decide (1 ≤ k ∧ k ≤ 5)

/-- The classes of 10 Table 10-2. -/
def knownClass (c : Nat) : Bool := decide (1 ≤ c ∧ c ≤ 9)

/-- The kinds a class accepts (09 Table 9-3). -/
def classAccepts (c k : Nat) : Bool :=
  match c with
  | 1 | 2 | 4 | 5 => recordKind k
  | 3 | 6 | 7 => recordKind k && k ≠ 4
  | 8 | 9 => k = 2 || k = 5
  | _ => false

/-- The PUT length of a class without a varying part (10 §10.3). -/
def putLength (c : Nat) : Nat :=
  match c with
  | 1 => 16 | 2 => 3 | 3 => 7 | 5 => 19 | 6 => 1 | 7 => 52
  | _ => 0

/-- The payload length fits the kind and class (10 R186, Table 10-11). -/
def payloadFits (k c : Nat) (payload : List Byte) : Bool :=
  let n := payload.length
  match k with
  | 1 => if c = 4 then decide (8 ≤ n ∧ n = 8 + 8 * field payload 7 1) else n = putLength c
  | 3 =>
    if c = 4 then
      if (field payload 0 4).testBit 6 then decide (12 ≤ n ∧ n = 12 + 8 * field payload 11 1) else n = 12
    else n = 4 + putLength c
  | 2 | 4 | 5 => n = 0
  | 0x22 => n = 3
  | 0x28 | 0x2F => n = 2
  | 0x29 => n = 1
  | 0x2D => n = 6
  | 0x30 => n = 5
  | 0x31 => decide (5 ≤ n ∧ n ≤ 240)
  | 0x32 => n = 6
  | 0x33 => n = 2
  | _ => n = 0

/-- The payload of a frame of well-formed length. -/
def framePayload (bs : List Byte) : List Byte := (bs.drop 6).take (bs.length - 8)

/-- The frame checks, in order (09 R175). -/
def frameVerdict (bs : List Byte) : Verdict :=
  let n := field bs 4 2
  if bs.length < 8 ∨ 240 < n ∨ bs.length ≠ 8 + n then .badLength
  else if (crc16 (bs.take (6 + n))).toNat ≠ field bs (6 + n) 2 then .badCrc
  else
    let k := field bs 0 1
    let c := field bs 1 1
    if !knownKind k then .badKind
    else if recordKind k && !knownClass c then .badClass
    else if recordKind k && !classAccepts c k then .badKind
    else if !payloadFits k c (framePayload bs) then .badPayload
    else .pass

/-! ### Response frames (10 Table 10-1) -/

/-- The bytes of a response frame, its CRC last. -/
def Response.bytes (r : Response) : List Byte :=
  let body := u8 r.status.code ++ u8 r.kind ++ u8 r.key ++
    u8 (bit r.clamped 1 + bit r.estopCaused 2 + bit r.overrun 4) ++ u16 r.payload.length ++ r.payload
  body ++ u16 (crc16 body).toNat

end Sys2Proof.Machine
end

