-- ==== Sys2Proof/Decode.lean ====
section
/-! DEFINITION. What a transfer on the request port spells. No row of the opcode table has bits of its own, so
`decodeTableWord` reads no command (log 19); `decodeTransfer` reads a transfer's bytes by chapter 10, and `Instr.wf`'s
widths (WellFormed) are those of its fields. -/

namespace Sys2Proof.Machine

/-- A u8 or u16 field holds a flag bit. -/
def flagAt (bs : List Byte) (i n : Nat) : Bool := (field bs i 1).testBit n

/-- A SEGMENT payload at offset `o` (10 Table 10-4). -/
def readSegment (bs : List Byte) (o : Nat) : SegmentWire where
  length := field bs o 2
  ceiling := field bs (o + 2) 2
  kff := intOfWord (field bs (o + 4) 2)
  kp := field bs (o + 6) 1
  kd := field bs (o + 7) 1
  next := field bs (o + 8) 1
  alt := field bs (o + 9) 1
  takeAlt := flagAt bs (o + 10) 0
  station := flagAt bs (o + 10) 1
  marker := if flagAt bs (o + 10) 2 then some ⟨field bs (o + 11) 1, field bs (o + 12) 2, field bs (o + 14) 2⟩ else none

/-- An AUTHORITY payload (10 Table 10-5). -/
def readAuthority (bs : List Byte) (o : Nat) : AuthorityWire := ⟨field bs o 1, field bs (o + 1) 2⟩

/-- A SEAT payload (10 Table 10-6). -/
def readSeat (bs : List Byte) (o : Nat) : SeatWire :=
  ⟨flagAt bs o 0, flagAt bs o 1, flagAt bs o 2, field bs (o + 1) 2, field bs (o + 3) 2, field bs (o + 5) 2⟩

/-- An action entry (10 Table 10-8). -/
def readAction (bs : List Byte) (o : Nat) : ActionWire :=
  ⟨field bs o 1, field bs (o + 1) 1, field bs (o + 2) 2, field bs (o + 4) 2, field bs (o + 6) 1, field bs (o + 7) 1⟩

/-- A CUE payload with its action entries (10 Table 10-7). -/
def readCue (bs : List Byte) (o : Nat) : CueWire where
  segment := field bs o 1
  start := field bs (o + 1) 2
  stop := field bs (o + 3) 2
  level := field bs (o + 5) 1
  everyPass := flagAt bs (o + 6) 0
  notify := flagAt bs (o + 6) 1
  actions := (List.range ((bs.length - (o + 8)) / 8)).map (fun i => readAction bs (o + 8 + 8 * i))

/-- A CLIP payload (10 Table 10-9). -/
def readClip (bs : List Byte) (o : Nat) : ClipWire :=
  ⟨field bs o 4, field bs (o + 4) 4, field bs (o + 8) 2,
    if flagAt bs (o + 10) 0 then some (field bs (o + 11) 4, field bs (o + 15) 4) else none⟩

/-- The 26 words of a SETTINGS payload (10 Table 10-10). -/
def readWords (bs : List Byte) (o : Nat) : List Nat := (List.range 26).map (fun i => field bs (o + 2 * i) 2)

/-- A PLAY payload (10 Table 10-11). -/
def readPlay (bs : List Byte) : PlayWire := ⟨field bs 0 1, field bs 1 1, field bs 2 2, field bs 4 1, field bs 5 1⟩

/-- A PUT of class `c` (10 Table 10-2). -/
def readPut (c key : Nat) (p : List Byte) : Option Instr :=
  match c with
  | 1 => some (.putSegment key (readSegment p 0))
  | 2 => some (.putAuthority key (readAuthority p 0))
  | 3 => some (.putSeat key (readSeat p 0))
  | 4 => some (.putCue key (readCue p 0))
  | 5 => some (.putClip key (readClip p 0))
  | 6 => some (.putSource key (field p 0 1))
  | 7 => some (.putSettings key (readWords p 0))
  | _ => none

/-- An AMEND of class `c`: a presence word, then the PUT layout (10 R185). -/
def readAmend (c key : Nat) (p : List Byte) : Option Instr :=
  let b := field p 0 4
  match c with
  | 1 => some (.amendSegment key b (readSegment p 4))
  | 2 => some (.amendAuthority key b (readAuthority p 4))
  | 3 => some (.amendSeat key b (readSeat p 4))
  | 4 => some (.amendCue key b (readCue p 4))
  | 5 => some (.amendClip key b (readClip p 4))
  | 6 => some (.amendSource key b (field p 4 1))
  | 7 => some (.amendSettings key b (readWords p 4))
  | _ => none

/-- A GET of class `c`. -/
def readGet (c key : Nat) : Option Instr :=
  match c with
  | 1 => some (.getSegment key)
  | 2 => some (.getAuthority key)
  | 3 => some (.getSeat key)
  | 4 => some (.getCue key)
  | 5 => some (.getClip key)
  | 6 => some (.getSource key)
  | 7 => some (.getSettings key)
  | 8 => some (.getVoice key)
  | 9 => some (.getLine key)
  | _ => none

/-- A RETIRE of class `c`; `force` is flag bit 0. -/
def readRetire (c key : Nat) (force : Bool) : Option Instr :=
  match c with
  | 1 => some (.retireSegment key)
  | 2 => some (.retireAuthority key)
  | 4 => some (if force then .retireCueForce key else .retireCue key)
  | 5 => some (.retireClip key)
  | _ => none

/-- A LIST of class `c`. -/
def readList (c key : Nat) : Option Instr :=
  match c with
  | 1 => some (.listSegment key)
  | 2 => some (.listAuthority key)
  | 3 => some (.listSeat key)
  | 4 => some (.listCue key)
  | 5 => some (.listClip key)
  | 6 => some (.listSource key)
  | 7 => some (.listSettings key)
  | 8 => some (.listVoice key)
  | 9 => some (.listLine key)
  | _ => none

/-- An action of kind `k` with the frame's flags byte `f` (10 Tables 10-1, 10-2, 10-11). -/
def readActionRequest (k f key : Nat) (p : List Byte) : Option Instr :=
  match k with
  | 0x20 => some (.enable key)
  | 0x21 => some (.park key)
  | 0x22 => some (.place key (field p 0 1) (field p 1 2))
  | 0x23 => some (.start key)
  | 0x24 => some (.stop key)
  | 0x25 => some (.estop key)
  | 0x26 => some (.resume key)
  | 0x27 => some (.skipDwell key)
  | 0x28 => some (.yaw key (intOfWord (field p 0 2)))
  | 0x29 => some (if f.testBit 2 then .releaseImmediate key (field p 0 1) else .release key (field p 0 1))
  | 0x2A => some (.seatClear key)
  | 0x2B => some (if f.testBit 1 then .rearmAll key else .rearm key)
  | 0x2C => some (.disarm key)
  | 0x2D => some (.play key (readPlay p))
  | 0x2E => some (if f.testBit 1 then .hushAll key else .hush key)
  | 0x2F => some (.master key (field p 0 2))
  | 0x30 => some (.flashRead key (field p 0 4) (field p 4 1))
  | 0x31 => some (.flashProgram key (field p 0 4) (p.drop 4))
  | 0x32 => some (.flashErase key (field p 0 4) (field p 4 2))
  | 0x33 => some (.noticeSetup key (field p 0 1) (field p 1 1))
  | 0x34 => some (.noticeTake key)
  | 0x35 => some (.status key)
  | 0x36 => some (.softReset key)
  | _ => none

/-- The request of a frame that passes the frame checks. -/
def readRequest (bs : List Byte) : Option Instr :=
  let k := field bs 0 1
  let c := field bs 1 1
  let key := field bs 2 1
  let f := field bs 3 1
  let p := framePayload bs
  match k with
  | 1 => readPut c key p
  | 2 => readGet c key
  | 3 => readAmend c key p
  | 4 => readRetire c key (f.testBit 0)
  | 5 => readList c key
  | _ => readActionRequest k f key p

/-- The command a transfer stands for (09 R172, R175): none for no bytes, FETCH for a first byte 00h, the request of a
frame that passes the frame checks, and a frame check failure otherwise. -/
def decodeTransfer (bs : List Byte) : Option Instr :=
  match bs with
  | [] => none
  | b :: _ =>
    if b = 0 then some (.fetch bs.length)
    else if frameVerdict bs = .pass then readRequest bs
    else some (.frameCheckFailure bs)

end Sys2Proof.Machine

namespace Sys2Proof

/-- The command that a table word spells: none, since no row of the table gives bits (log 19). -/
def decodeTableWord (_nbits _w : Nat) : Option Instr := none

end Sys2Proof
end

