-- ==== Sys2Proof/Machine/Flags.lean ====
section
/-! DEFINITION. The levels of the lines that are functions of the state, and the flags and link effects of a request: the
taking of a frame, the response flags and the response (09 §9.1, §9.2). -/

namespace Sys2Proof.Machine

/-! ### Lines -/

/-- The speed command line carries v_cmd (04 R63). -/
def State.speedLine (s : State) : Nat := s.msv.vCmd

/-- BRAKE_RELEASE is high in RUNNING, DWELL and SAFE_STOP (04 R63). -/
def State.brakeRelease (s : State) : Bool :=
  match s.msv.motion with
  | .running | .dwell | .safeStop => true
  | .parked | .stopped | .eStop => false

/-- The solenoid of seat `i` is energised exactly while the seat is RELEASING (03 R62). -/
def State.solenoid (s : State) (i : Nat) : Bool :=
  match (s.rsm.seats.getD i Seat.reset).state with
  | .releasing _ => true
  | _ => false

/-- An effect line is driven on while its entry's phase is ON (05 R112). -/
def LineHold.driven (h : LineHold) : Bool := h.phase = .on

/-- Effect line `i` (05 R112). -/
def State.effectLine (s : State) (i : Nat) : Bool :=
  ((s.cue.lines.getD i none).map LineHold.driven).getD false

/-- The code being sent on the IR beacon output, none while it is idle (05 R116). -/
def State.beaconOut (s : State) : Option Nat := if s.cue.beaconEnd.isSome then s.cue.beacon.head? else none

/-- The NOTICE line is asserted (08 R165). -/
def Ntu.asserted (t : Ntu) : Bool :=
  t.released && t.sources.any (fun src => src.pending && (decide (t.mask < src.level) || src.level = 7))

/-- READY is high in IDLE and low in BUILDING and during a reset (09 Table 9-1, R180). -/
def State.ready (s : State) : Bool := !s.inReset && !s.port.building

/-- The number of sources pending (08 R164, R166). -/
def Ntu.pendingCount (t : Ntu) : Nat := (t.sources.filter (·.pending)).length

/-! ### Requests (09 §9.1 and §9.2) -/

/-- What the owning block answers (09 R176): refused with a code, a payload only for REASONS_ACTIVE; or taken, with the
state it leaves, the code, whether a stored value differs from the carried one, and the payload. -/
inductive Answer where
  | refuse (status : Status) (payload : List Byte)
  | take (s : State) (status : Status) (clamped : Bool) (payload : List Byte)

/-- Byte `i + 1` that the last transfer drove on SPI data out: 00h all through a request frame (09 R172, R174). -/
def State.spiByte (s : State) (i : Nat) : Byte := s.port.spiOut.getD i 0

/-- The taking of a good frame: the held response is discarded (09 R173), 00h was driven during it (R172), its arrival is
the last link activity and moves the link expiry, and LINK_LOST leaves the set (R175, 04 R88). -/
def State.hearFrame (s : State) : State :=
  ((s.setPort { s.port with held := none, lastLink := s.now, spiOut := [] }).setMsv
    { s.msv with linkExpiry := some (s.after s.settings.linkTimeout) }).removeReason .linkLost

/-- The response is built and held, the overrun flag copied into it and cleared, the port IDLE (09 R173). -/
def State.respond (kind key : Nat) (status : Status) (clamped estopCaused : Bool) (payload : List Byte) (s : State) :
    State :=
  s.setPort { s.port with
    building := false
    held := some ⟨status, kind, key, clamped, estopCaused, s.port.overrun, payload⟩
    overrun := false }

/-- A request frame arriving in BUILDING: discarded, the overrun flag set, LINK OVERRUN raised (09 R173), 00h driven during
it (R172). -/
def State.overrunFrame (s : State) : State := (s.setPort { s.port with overrun := true, spiOut := [] }).raise .overrun

/-- ESTOP_CAUSED: carrying out the request made the vehicle enter E_STOP (09 R176). -/
def entersEStop (before after : State) : Bool := before.msv.motion ≠ .eStop && after.msv.motion = .eStop

/-- A request whose frame passes the frame checks (09 R173, R175, R176): ignored during a reset (R172), discarded in
BUILDING, else answered by the owning block; a refused request leaves what the arrival of the frame left. -/
def request (kind key : Nat) (act : State → Answer) (s : State) : State :=
  if s.inReset then s
  else if s.port.building then s.overrunFrame
  else
    match act s.hearFrame with
    | .refuse st p => s.hearFrame.respond kind key st false false p
    | .take t st c p => t.respond kind key st c (entersEStop s.hearFrame t) p

/-- A refusal with an empty payload (10 R187). -/
def deny (st : Status) : Answer := .refuse st []

/-- A request taken with OK and nothing clamped. -/
def ok (s : State) (p : List Byte) : Answer := .take s .ok false p

/-- An event of the part: nothing happens while a reset holds every block (09 R180). -/
def event (f : State → State) (s : State) : State := if s.inReset then s else f s

/-- The outcome of a command. -/
abbrev Result := Host.Outcome State Fault Refusal

/-- `n` bytes whose values the spec does not state (logs 8 and 9), and the state with them used up. -/
def State.freeBytes (n : Nat) (s : State) : State × List Byte :=
  (s.setFree (s.free + n), (List.range n).map (fun i => Config.freeByte (s.free + i)))

end Sys2Proof.Machine
end

