-- ==== Sys2Proof/Machine/Cues.lean ====
section
/-! DEFINITION. The cue engine (05): actions and output claims, window evaluation, exits, and the requests on CUE. -/

namespace Sys2Proof.Machine

/-! ### Actions (05 §5.3, §5.4) -/

/-- How a claim on an output ends (05 R110): won, with the cue it was taken from, or lost to the holder. -/
inductive Settled where
  | won (from_ : Option Nat)
  | lost (holder : Nat)
  deriving DecidableEq, Repr

/-- The claim of cue `id` at `level` against the entry's holder and level (05 R110). -/
def settleClaim (id level : Nat) : Option (Nat × Nat) → Settled
  | none => .won none
  | some (h, l) => if h = id then .won none else if l < level then .won (some h) else .lost h

/-- CONFLICT on the claiming cue and the holder, with a notice for each (05 R110, R118). -/
def State.conflict (id holder output : Nat) (s : State) : State :=
  (((s.updateCue id (fun c => { c with conflict := true })).updateCue holder (fun c => { c with conflict := true })).raise
    (.cueConflict id output)).raise (.cueConflict holder output)

/-- The action at `idx` could not be carried out (05 R105). -/
def State.skipAction (id idx : Nat) (s : State) : State :=
  (s.updateCue id (fun c => { c with skipped := true })).raise (.cueSkipped id (some idx))

/-- A PLAY action (05 R106). -/
def State.runPlay (id level idx clip : Nat) (buses : Buses) (gain : Nat) (loop exitFade : Bool) (s : State) : State :=
  match s.claimVoice ⟨clip, buses, gain, loop, exitFade, level, .cue id⟩ with
  | some (t, _) => t
  | none => s.skipAction id idx

/-- An EFFECT action (05 R110, R112). Under case 2 of R110 the entry takes the cue's present level too (DESIGN CHOICE,
log 35). -/
def State.runEffect (id level idx line onMs offMs count : Nat) (timed : Bool) (s : State) : State :=
  if s.msv.motion = .parked ∨ s.msv.motion = .eStop then s.skipAction id idx
  else
    let taken := s.setCue { s.cue with lines := s.cue.lines.set line (some ⟨id, level, timed, onMs, offMs, count, .on, onMs⟩) }
    match settleClaim id level ((s.cue.lines.getD line none).map (fun h => (h.holder, h.level))) with
    | .won none => taken
    | .won (some h) => taken.conflict id h line
    | .lost h => s.conflict id h line

/-- A BEACON action (05 R109, R116). -/
def State.runBeacon (id idx code : Nat) (s : State) : State :=
  if 8 ≤ s.cue.beacon.length then s.skipAction id idx
  else s.setCue { s.cue with
    beacon := s.cue.beacon ++ [code]
    beaconEnd := some (s.cue.beaconEnd.getD (s.after 20)) }

/-- GDU stores a target, clamped to the travel range (02 R31, R32). -/
def State.storeYawTarget (target : Int) (s : State) : State :=
  s.setGdu { s.gdu with yawTarget := clampInt s.settings.yawMin s.settings.yawMax target }

/-- A YAW action (05 R110, R111). Under case 2 of R110 the entry takes the cue's present level too (DESIGN CHOICE,
log 35). -/
def State.runYaw (id level : Nat) (target : Int) (s : State) : State :=
  let taken := (s.setCue { s.cue with turntable := some ⟨id, level⟩ }).storeYawTarget target
  match settleClaim id level (s.cue.turntable.map (fun h => (h.holder, h.level))) with
  | .won none => taken
  | .won (some h) => taken.conflict id h 12
  | .lost h => s.conflict id h 12

/-- A DWELL request to MSV, none where MSV refuses it (04 R84). -/
def State.requestDwell (ms : Nat) (s : State) : Option State :=
  match s.msv.motion with
  | .running =>
    some ((s.setMsv { s.msv with motion := .dwell, dwell := some (.ramping ms), held := false }).raise (.motion .dwell))
  | .dwell =>
    let merged := match s.msv.dwell with
      | some (.ramping r) => Dwell.ramping (max r ms)
      | some (.holding u) => Dwell.holding (max u (s.after ms))
      | none => Dwell.ramping ms
    some (s.setMsv { s.msv with dwell := some merged })
  | .parked | .stopped | .safeStop | .eStop => none

/-- A DWELL action (05 R107). -/
def State.runDwell (id idx ms : Nat) (s : State) : State := (s.requestDwell ms).getD (s.skipAction id idx)

/-- A SLOW action: the least speed run since the cue fired (05 R108). -/
def State.runSlow (id speed : Nat) (s : State) : State :=
  s.updateCue id (fun c => { c with slow := some (min speed (c.slow.getD speed)) })

/-- One action of a firing cue (05 R105). -/
def State.runAction (id level idx : Nat) (a : Action) (s : State) : State :=
  match a with
  | .play c b g l x => s.runPlay id level idx c b g l x
  | .effect n on off k t => s.runEffect id level idx n on off k t
  | .beacon c => s.runBeacon id idx c
  | .yaw t => s.runYaw id level t
  | .dwell ms => s.runDwell id idx ms
  | .slow v => s.runSlow id v

/-- The actions in list order, the first at index `idx` (05 R105). -/
def State.runActions (id level : Nat) : Nat → List Action → State → State
  | _, [], s => s
  | idx, a :: as, s => State.runActions id level (idx + 1) as (s.runAction id level idx a)

/-! ### Evaluation (05 §5.2) -/

/-- The exit of a cue; `all` fades every voice it owns, as a forced retire does (05 R104, R95, 07 R152). -/
def State.exitCue (id : Nat) (all : Bool) (s : State) : State :=
  (((s.releaseLines (fun h => h.holder = id && (!h.timed || h.remaining = 0))).releaseTurntable id).fadeVoices
    (fun v => v.owner = .cue id && (all || v.exitFade))).updateCue id (fun c => { c with slow := none, state := .spent })

/-- A cue fires: ACTIVE, FIRED when notify is set, then its actions (05 R102). -/
def State.fireCue (id : Nat) (c : Cue) (s : State) : State :=
  let t := s.updateCue id (fun c => { c with state := .active, slow := none })
  State.runActions id c.level 0 c.actions (if c.notify then t.raise (.cueFired id) else t)

/-- A cue's window was jumped (05 R103). -/
def State.skipCue (id : Nat) (s : State) : State :=
  (s.updateCue id (fun c => { c with state := .spent, skipped := true })).raise (.cueSkipped id none)

/-- Step 1 of R99 for one cue of a segment that has been left (05 R100). -/
def State.leaveCue (seg id : Nat) (s : State) : State :=
  match Table.get s.cue.cues id with
  | none => s
  | some c =>
    if c.segment ≠ seg then s
    else
      let t := if c.state = .active then s.exitCue id false else s
      if c.everyPass && (c.state = .active || c.state = .spent) then t.updateCue id (fun c => { c with state := .armed })
      else t

/-- Step 2 of R99 for one cue of the active segment of length `len` (05 R101). -/
def State.endCue (seg len id : Nat) (s : State) : State :=
  match Table.get s.cue.cues id with
  | none => s
  | some c => if c.segment = seg ∧ c.state = .active ∧ min c.stop len ≤ s.pos.s then s.exitCue id false else s

/-- Step 3 of R99 for one cue of the active segment of length `len` (05 R102, R103). -/
def State.judgeCue (seg len id : Nat) (s : State) : State :=
  match Table.get s.cue.cues id with
  | none => s
  | some c =>
    if c.segment ≠ seg ∨ c.state ≠ .armed then s
    else if c.start ≤ s.pos.s ∧ s.pos.s < min c.stop len then s.fireCue id c
    else if c.start < min c.stop len ∧ min c.stop len ≤ s.pos.s ∧ s.pos.sPrev < c.start then s.skipCue id
    else s

/-- `f` for each id in turn. -/
def eachId (f : Nat → State → State) (ids : List Nat) (s : State) : State := ids.foldl (fun t id => f id t) s

/-- The evaluation that follows a position update; `moved` says that it moved the vehicle to a segment (05 R99). -/
def State.evaluate (moved : Bool) (s : State) : State :=
  match s.activeSegment with
  | none => s
  | some (a, g) =>
    let ids := Table.keys s.cue.cues
    let left := match moved, s.cue.evaluated with
      | true, some e => eachId (State.leaveCue e) ids s
      | _, _ => s
    let t := eachId (State.judgeCue a g.length) ids (eachId (State.endCue a g.length) ids left)
    t.setCue { t.cue with evaluated := some a }

/-- The SLOW cap: the least contribution among the ACTIVE cues (05 R108). -/
def State.slowCap (s : State) : Option Nat :=
  leastOf (s.cue.cues.filterMap (fun p => if p.2.state = .active then p.2.slow else none))

/-! ### Requests on CUE -/

/-- Every output holder entry that names the cue is released (05 R93, R95, R114). -/
def State.releaseCue (id : Nat) (s : State) : State := (s.releaseLines (fun h => h.holder = id)).releaseTurntable id

/-- PUT CUE (05 R93). -/
def putCue (key : Nat) (w : CueWire) (s : State) : Answer :=
  if 95 < key then deny .badField
  else if (Table.get s.cue.cues key).any (fun c => c.state = .active) then deny .locked
  else
    match w.parse s.settings with
    | none => deny .badField
    | some (as, changed) =>
      let c := w.cue as .armed false false none
      let t := s.releaseCue key
      .take (t.setCue { t.cue with cues := Table.put key c t.cue.cues }) .ok changed c.bytes

/-- AMEND CUE (05 R94, 09 R177). -/
def amendCue (key presence : Nat) (w : CueWire) (s : State) : Answer :=
  if 95 < key then deny .badField
  else
    match Table.get s.cue.cues key with
    | none => deny .notFound
    | some o =>
      if o.state = .active then deny .locked
      else if noPresence presence 7 then ok s o.bytes
      else
        let w' := w.over presence o.toWire
        match w'.parse s.settings with
        | none => deny .badField
        | some (as, changed) =>
          let c := w'.cue as o.state o.conflict o.skipped o.slow
          .take (s.setCue { s.cue with cues := Table.put key c s.cue.cues }) .ok changed c.bytes

/-- The record becomes absent. -/
def State.dropCue (key : Nat) (s : State) : State := s.setCue { s.cue with cues := Table.del key s.cue.cues }

/-- RETIRE CUE (05 R95); `force` is the FORCE flag. -/
def retireCue (key : Nat) (force : Bool) (s : State) : Answer :=
  if 95 < key then deny .badField
  else
    match Table.get s.cue.cues key with
    | none => deny .notFound
    | some c =>
      if c.state ≠ .active then ok ((s.releaseCue key).dropCue key) []
      else if force then ok (((s.exitCue key true).releaseCue key).dropCue key) []
      else deny .inUse

/-- GET CUE (05 R98). -/
def getCue (key : Nat) (s : State) : Answer :=
  if 95 < key then deny .badField
  else
    match Table.get s.cue.cues key with
    | none => deny .notFound
    | some c => ok s c.bytes

/-- REARM without ALL (05 R96). -/
def rearmCue (key : Nat) (s : State) : Answer :=
  if 95 < key then deny .badField
  else
    match Table.get s.cue.cues key with
    | none => deny .notFound
    | some c =>
      if c.state = .active then deny .inUse
      else ok (s.updateCue key (fun c => { c with state := .armed, conflict := false, skipped := false }))
        (u8 (if c.state = .armed then 0 else 1))

/-- One cue under REARM with ALL (05 R96). -/
def Cue.rearmed (c : Cue) : Cue :=
  if c.state = .active then c else { c with state := .armed, conflict := false, skipped := false }

/-- REARM with ALL (05 R96). -/
def rearmAllCues (s : State) : Answer :=
  ok (s.setCue { s.cue with cues := s.cue.cues.map (fun p => (p.1, p.2.rearmed)) })
    (u8 (s.cue.cues.filter (fun p => p.2.state = .spent || p.2.state = .disarmed)).length)

/-- DISARM (05 R97). -/
def disarmCue (key : Nat) (s : State) : Answer :=
  if 95 < key then deny .badField
  else
    match Table.get s.cue.cues key with
    | none => deny .notFound
    | some c =>
      if c.state = .active then deny .inUse
      else ok (s.updateCue key (fun c => { c with state := .disarmed })) (u8 CueState.disarmed.code)

def execPutCue (key : Nat) (w : CueWire) (s : State) : Result := .next (request 0x01 key (putCue key w) s)

def execAmendCue (key presence : Nat) (w : CueWire) (s : State) : Result :=
  .next (request 0x03 key (amendCue key presence w) s)

def execRetireCue (key : Nat) (s : State) : Result := .next (request 0x04 key (retireCue key false) s)

def execRetireCueForce (key : Nat) (s : State) : Result := .next (request 0x04 key (retireCue key true) s)

def execGetCue (key : Nat) (s : State) : Result := .next (request 0x02 key (getCue key) s)

/-- LIST CUE (05 R98). -/
def execListCue (key : Nat) (s : State) : Result :=
  .next (request 0x05 key (fun t => ok t (listBytes (t.cue.cues.map (fun p => (p.1, p.2.state.code))))) s)

def execRearm (key : Nat) (s : State) : Result := .next (request 0x2B key (rearmCue key) s)

def execRearmAll (key : Nat) (s : State) : Result := .next (request 0x2B key rearmAllCues s)

def execDisarm (key : Nat) (s : State) : Result := .next (request 0x2C key (disarmCue key) s)

end Sys2Proof.Machine
end

