-- ==== Sys2Proof/Machine/Effects.lean ====
section
/-! DEFINITION. Effect patterns, the beacon transmitter and the LINE record class (05 §5.4 to §5.6). -/

namespace Sys2Proof.Machine

/-- The pattern at its ON phase again (05 R113). -/
def LineHold.repeated (h : LineHold) : LineHold := { h with phase := .on, timer := h.onMs }

/-- What follows when the phase timer has reached 0: OFF, another cycle, ENDED, or none when a TIMED pattern's entry is
released (05 R113, R114). -/
def LineHold.phaseEnd (h : LineHold) : Option LineHold :=
  if h.phase = .on ∧ 0 < h.offMs then some { h with phase := .off, timer := h.offMs }
  else if h.remaining = 0 then some h.repeated
  else if h.remaining = 1 then
    if h.timed then none else some { h with remaining := 0, phase := .ended, timer := 0 }
  else some { h.repeated with remaining := h.remaining - 1 }

/-- One effect tick of a held line (05 R113). -/
def LineHold.tick (h : LineHold) : Option LineHold :=
  if h.phase = .ended then some h
  else if h.timer ≤ 10 then { h with timer := 0 }.phaseEnd
  else some { h with timer := h.timer - 10 }

/-- EFFECT_TICK (05 R113): every 10 ms, in every motion state. -/
def effectTick (s : State) : State :=
  s.setCue { s.cue with lines := s.cue.lines.map (fun e => e.bind LineHold.tick) }

/-- EFFECT_PHASE_END (05 R113): the phase end of a line whose timer stands at 0 (log 3). -/
def effectPhaseEnd (line : Nat) (s : State) : State :=
  match s.cue.lines.getD line none with
  | some h =>
    if h.phase ≠ .ended ∧ h.timer = 0 then s.setCue { s.cue with lines := s.cue.lines.set line h.phaseEnd }
    else notDue s
  | none => notDue s

/-- BEACON_TX_COMPLETE (05 R116): the head is removed, the next code starts at once. -/
def beaconTxComplete (s : State) : State :=
  match s.cue.beaconEnd with
  | none => notDue s
  | some u =>
    if u ≤ s.now then
      let rest := s.cue.beacon.drop 1
      s.setCue { s.cue with beacon := rest, beaconEnd := if rest = [] then none else some (s.after 20) }
    else notDue s

def execEffectTick (s : State) : Result := .next (event effectTick s)

def execEffectPhaseEnd (line : Nat) (s : State) : Result := .next (event (effectPhaseEnd line) s)

def execBeaconTxComplete (s : State) : Result := .next (event beaconTxComplete s)

/-! ### LINE (05 R117, 10 §10.3) -/

/-- The bytes of a held effect line. -/
def LineHold.bytes (h : LineHold) : List Byte :=
  u8 h.holder ++ u8 h.level ++ u8 (bit h.timed 1) ++ u16 h.onMs ++ u16 h.offMs ++ u8 h.remaining ++ u8 h.phase.code ++
  u16 h.timer ++ u8 (bit h.driven 1)

/-- GET LINE; the bytes the spec does not state for a free output are free values (log 9). -/
def getLine (key : Nat) (s : State) : Answer :=
  if 13 < key then deny .badField
  else if key ≤ 11 then
    match s.cue.lines.getD key none with
    | some h => ok s h.bytes
    | none => ok (s.freeBytes 10).1 (u8 255 ++ (s.freeBytes 10).2 ++ u8 0)
  else if key = 12 then
    let yaws := s16 s.gdu.yawTarget ++ s16 s.gdu.yawCmd ++ s16 s.lines.encoder
    match s.cue.turntable with
    | some h => ok s (u8 h.holder ++ u8 h.level ++ yaws)
    | none => ok (s.freeBytes 1).1 (u8 255 ++ (s.freeBytes 1).2 ++ yaws)
  else ok s (u8 (bit s.cue.beaconEnd.isSome 1) ++ u8 s.cue.beacon.length ++ s.cue.beacon.flatMap u8)

/-- LIST LINE: holders of keys 0 to 12, the code count of key 13. -/
def lineList (s : State) : List (Nat × Nat) :=
  (s.cue.lines.zipIdx.map (fun p => (p.2, idByte (p.1.map (·.holder))))) ++
  [(12, idByte (s.cue.turntable.map (·.holder))), (13, s.cue.beacon.length)]

def execGetLine (key : Nat) (s : State) : Result := .next (request 0x02 key (getLine key) s)

def execListLine (key : Nat) (s : State) : Result := .next (request 0x05 key (fun t => ok t (listBytes (lineList t))) s)

end Sys2Proof.Machine
end

