-- ==== Sys2Proof/Machine/Speed.lean ====
section
/-! DEFINITION. The speed stage of the guidance sample (04 §4.4, §4.5): distances, ceiling, checks, ramp, hold, dwell and
safe stop; and the authority check of R83. -/

namespace Sys2Proof.Machine

/-- The vehicle is in one of the states in which the brake is released: RUNNING, DWELL, SAFE_STOP. -/
def Motion.moving : Motion → Bool
  | .running | .dwell | .safeStop => true
  | .parked | .stopped | .eStop => false

/-- A segment's length, 0 where it is absent. -/
def State.lengthOf (s : State) (k : Nat) : Nat := ((Table.get s.pos.segments k).map (·.length)).getD 0

/-- A segment's stored ceiling, 0 where it is absent. -/
def State.ceilingOf (s : State) (k : Nat) : Nat := ((Table.get s.pos.segments k).map (·.ceiling)).getD 0

/-- The members with the distance to the start of each, the first at `d` (04 R77). -/
def distancesFrom (len : Nat → Nat) : Nat → List Nat → List (Nat × Nat)
  | _, [] => []
  | d, k :: ks => (k, d) :: distancesFrom len (d + len k) ks

/-- D_k for each path member after the active segment (04 R77). -/
def State.distances (s : State) : List (Nat × Nat) :=
  match s.pos.path with
  | [] => []
  | a :: rest => distancesFrom s.lengthOf (s.lengthOf a - s.pos.s) rest

/-- D_auth, none without an authority (04 R77). -/
def State.dAuth (s : State) : Option Nat :=
  match s.pos.authority, s.pos.active with
  | some u, some a =>
    if u.segment = a then some (u.offset - s.pos.s)
    else (Table.get s.distances u.segment).map (· + u.offset)
  | _, _ => none

/-- v_auth (04 R77). -/
def State.vAuth (s : State) : Nat :=
  match s.dAuth with
  | none => 0
  | some d => isqrt (2 * s.settings.aService * (d - s.settings.standstill))

/-- The lookahead speed of a path member (04 R78). -/
def State.lookahead (s : State) (p : Nat × Nat) : Nat :=
  isqrt (s.ceilingOf p.1 * s.ceilingOf p.1 + 2 * s.settings.aService * p.2)

/-- Crawl applies when a seat is SUSPECT or supply-low is set (04 R78). -/
def State.crawlApplies (s : State) : Bool := s.anySuspect || s.msv.supplyLow

/-- The terms of the ceiling in RUNNING (04 R78); an absent term does not take part. -/
def State.ceilingTerms (s : State) : List Nat :=
  [s.settings.vmax] ++ (s.pos.active.map s.ceilingOf).toList ++ s.distances.map s.lookahead ++ [s.vAuth] ++
  s.slowCap.toList ++ (if s.crawlApplies then [s.settings.crawl] else [])

/-- v_ceil (04 R78): the least term in RUNNING, 0 elsewhere. -/
def State.vCeil (s : State) : Nat :=
  if s.msv.motion = .running then (leastOf s.ceilingTerms).getD 0 else 0

/-- Speed gained at most in one sample (04 R80). -/
def Settings.stepUp (t : Settings) : Nat := max 1 (t.aAcc / 100)

/-- Speed lost at most in one sample (04 R80). -/
def Settings.stepDown (t : Settings) : Nat := max 1 (t.aService / 100)

/-- The measured speed, signed, in mm/s (04 R76). -/
def State.measuredSpeed (s : State) : Int := 25 * s.msv.window.sum

/-- The sample's distance into the speed window (04 R76). -/
def State.windowStep (ds : Int) (s : State) : State :=
  s.setMsv { s.msv with window := s.msv.window.drop 1 ++ [ds] }

/-- The overspeed check (04 R76). -/
def State.overspeedCheck (s : State) : State :=
  if s.msv.motion = .parked ∨ s.msv.motion = .eStop then s.setMsv { s.msv with overspeed := 0 }
  else if s.measuredSpeed > (s.msv.vCmd + s.settings.overspeedTol : Nat) then
    if 2 ≤ s.msv.overspeed then (s.setMsv { s.msv with overspeed := 0 }).addReason .overspeed
    else s.setMsv { s.msv with overspeed := s.msv.overspeed + 1 }
  else s.setMsv { s.msv with overspeed := 0 }

/-- The overrun check (04 R79) and the authority check of a request (R83): in RUNNING, DWELL and SAFE_STOP. -/
def State.overrunCheck (s : State) : State :=
  if s.msv.motion.moving && decide (s.vAuth + s.settings.overspeedTol < s.msv.vCmd) then s.addReason .authorityOverrun
  else s

/-- The ramp from `vPrev` toward `vCeil` (04 R80). -/
def rampTo (t : Settings) (vPrev vCeil : Nat) : Nat :=
  if vPrev ≤ vCeil then min vCeil (vPrev + t.stepUp) else max vCeil (vPrev - t.stepDown)

/-- The ramp of the sample (04 R80). -/
def State.ramp (s : State) : State :=
  s.setMsv { s.msv with vCmd := if s.msv.motion.moving then rampTo s.settings s.msv.vCmd s.vCeil else 0 }

/-- The held test (04 R81). -/
def State.heldTest (s : State) : State :=
  if s.msv.motion = .running ∧ s.msv.vCmd = 0 ∧ s.vAuth = 0 then
    if s.msv.held then s else (s.setMsv { s.msv with held := true }).raise .held
  else if 0 < s.msv.vCmd then s.setMsv { s.msv with held := false }
  else s

/-- The dwell and safe-stop steps (04 R85, R86). -/
def State.restStep (s : State) : State :=
  if s.msv.vCmd ≠ 0 then s
  else
    match s.msv.motion, s.msv.dwell with
    | .dwell, some (.ramping ms) => s.setMsv { s.msv with dwell := some (.holding (s.after ms)) }
    | .safeStop, _ => (s.setMsv { s.msv with motion := .stopped }).raise (.motion .stopped)
    | _, _ => s

/-- The speed stage (04 R82). -/
def State.speedStage (ds : Int) (s : State) : State :=
  ((((s.windowStep ds).overspeedCheck.overrunCheck).ramp).heldTest).restStep

end Sys2Proof.Machine
end

