-- ==== Sys2Proof/Machine/Position.lean ====
section
/-! DEFINITION. The route and position unit (01): odometer, position step, markers, and the requests on SEGMENT and
AUTHORITY and PLACE. -/

namespace Sys2Proof.Machine

/-! ### Route (01 §1.1 to §1.3) -/

/-- The derived state of a segment entry (01 R1). -/
def State.segState (s : State) (k : Nat) : SegState :=
  if (Table.get s.pos.segments k).isNone then .free
  else if s.pos.path.head? = some k then .active
  else if s.pos.path.contains k then .locked
  else .loaded

/-- A segment entry the path locks against edits (01 R2 to R4). -/
def State.onPath (s : State) (k : Nat) : Bool := s.segState k = .active || s.segState k = .locked

/-- The usable successor of a segment (01 R5): it names a present segment. -/
def successor (segs : Table Segment) (g : Segment) : Option Nat :=
  (if g.takeAlt && g.alt.isSome then g.alt else g.next).filter (fun k => (Table.get segs k).isSome)

/-- The outcome of a walk along the route chain (01 R7). -/
inductive Walk where
  | reached (path : List Nat)
  | notOnRoute
  | looped
  deriving DecidableEq, Repr

/-- The walk of 01 R7, check 5, from the members appended so far; at most `fuel` more members. -/
def walk (segs : Table Segment) (target : Nat) : Nat → List Nat → Walk
  | 0, _ => .looped
  | fuel + 1, path =>
    let last := path.getLastD 0
    if last = target then .reached path
    else
      match (Table.get segs last).bind (successor segs) with
      | none => .notOnRoute
      | some b => if path.contains b then .looped else walk segs target fuel (path ++ [b])

/-- The path of the active segment alone (01 R6). -/
def Pos.alone (p : Pos) : List Nat := p.active.toList

/-- The authority deleted, the path the active segment alone (01 R10, R15, R22). -/
def State.dropAuthority (s : State) : State := s.setPos { s.pos with authority := none, path := s.pos.alone }

/-- The check for passing the authority point (01 R15). -/
def State.checkPoint (s : State) : State :=
  match s.pos.authority with
  | none => s
  | some u =>
    if s.pos.active = some u.segment ∧ u.offset ≤ s.pos.s then s.dropAuthority.addReason .authorityOverrun else s

/-! ### The position step (01 R14 to R17, R20) -/

/-- The missed-marker check for segment `a`, `leaving` it or not: a miss is counted at most once per pass (01 R20). -/
def State.missCheck (a : Nat) (g : Segment) (leaving : Bool) (s : State) : State :=
  match g.marker with
  | none => s
  | some m =>
    if !s.pos.markerSeen && !s.pos.missCounted && decide (s.pos.sPrev ≤ m.offset + m.tolerance) &&
        (leaving || decide (m.offset + m.tolerance < s.pos.s)) then
      let n := min 2 (s.pos.missCount + 1)
      let t := (s.setPos { s.pos with missCount := n, missCounted := true }).raise (.missed a n)
      if n = 2 then t.addReason .position else t
    else s

/-- A transition from segment `a` to its usable successor `b` (01 R16). -/
def State.transition (a : Nat) (g : Segment) (b : Nat) (s : State) : State :=
  let t := (s.setPos { s.pos with s := s.pos.s - g.length }).missCheck a g true
  (t.setPos { t.pos with
    active := some b
    path := if 1 < t.pos.path.length then t.pos.path.drop 1 else [b]
    sPrev := 0
    markerSeen := false
    missCounted := false }).checkPoint

/-- The clamp at the end of segment `a` (01 R17). -/
def State.clampEnd (a : Nat) (g : Segment) (s : State) : State :=
  let t := (s.setPos { s.pos with s := g.length - 1, residue := 0 }).missCheck a g true
  (t.addReason .position).raise (.clamp a (g.length - 1))

/-- What the transitions of a position step did: the state, whether there was one. -/
structure Advanced where
  state : State
  moved : Bool

/-- Transitions while s is at or beyond the active segment's length, or the clamp (01 R14 step 5, R16, R17). `fuel` is
more than the transitions s allows. -/
def advance : Nat → Bool → State → Advanced
  | 0, moved, s => ⟨s, moved⟩
  | fuel + 1, moved, s =>
    match s.activeSegment with
    | none => ⟨s, moved⟩
    | some (a, g) =>
      if s.pos.s < g.length then ⟨s, moved⟩
      else
        match successor s.pos.segments g with
        | some b => advance fuel true (s.transition a g b)
        | none => ⟨s.clampEnd a g, moved⟩

/-- The whole millimetres of a residue, truncated toward zero (01 R14). -/
def wholeMm (residue : Int) : Int := residue.tdiv 1000

/-- Steps 1 to 3 of 01 R14. -/
def State.takeResidue (s : State) : State :=
  let q := wholeMm s.pos.residue
  let sum := (s.pos.s : Int) + q
  s.setPos { s.pos with
    sPrev := s.pos.s
    s := sum.toNat
    residue := if sum < 0 then 0 else s.pos.residue - q * 1000 }

/-- The missed-marker check of step 6 of 01 R14. -/
def State.stepCheck (s : State) : State :=
  match s.activeSegment with
  | none => s
  | some (a, g) => s.missCheck a g false

/-- The position step (01 R14) and CUE's evaluation after it: the state and the sample's Δs. -/
def State.positionStep (s : State) : State × Int :=
  match s.activeSegment with
  | none => (s, 0)
  | some _ =>
    let t := s.takeResidue.checkPoint
    let r := advance (t.pos.s + 1) false t
    (r.state.stepCheck.evaluate r.moved, wholeMm s.pos.residue)

/-! ### Odometer and markers -/

/-- ODOMETER_PULSE (01 R12). -/
def odometerPulse (forward : Bool) (s : State) : State :=
  if s.pos.active.isNone then s
  else if s.pos.lastPulse.all (fun t => t + s.settings.rejector ≤ s.now) then
    s.setPos { s.pos with
      lastPulse := some s.now
      residue := if forward then s.pos.residue + s.settings.pitch else s.pos.residue - s.settings.pitch }
  else s

/-- A marker correction (01 R18 case 3) and CUE's evaluation after it. -/
def State.correct (offset : Nat) (s : State) : State :=
  (s.setPos { s.pos with
    sPrev := s.pos.s, s := offset, residue := 0, markerSeen := true, missCount := 0 }).checkPoint.evaluate false

/-- A mismatching marker read (01 R19). -/
def State.mismatch (a code : Nat) (s : State) : State :=
  (s.addReason .position).raise (.mismatch a s.pos.s code)

/-- MARKER_READ (01 R18). -/
def markerRead (code : Nat) (s : State) : State :=
  match s.activeSegment with
  | none => s
  | some (a, g) =>
    if code = 0 then s
    else
      match g.marker with
      | none => s.mismatch a code
      | some m =>
        if m.code = code ∧ s.pos.markerSeen = true then s
        else if m.code = code ∧ s.pos.s ≤ m.offset + m.tolerance ∧ m.offset ≤ s.pos.s + m.tolerance ∧
            m.offset < g.length then s.correct m.offset
        else s.mismatch a code

def execOdometerPulse (forward : Bool) (s : State) : Result := .next (event (odometerPulse forward) s)

def execMarkerRead (code : Nat) (s : State) : Result := .next (event (markerRead code) s)

/-! ### Requests on SEGMENT (01 R2 to R4) -/

/-- The record stored under `key`. -/
def State.storeSegment (key : Nat) (g : Segment) (s : State) : State :=
  s.setPos { s.pos with segments := Table.put key g s.pos.segments }

/-- The answer that stores a checked SEGMENT payload (01 R2). -/
def State.takeSegment (key : Nat) (w : SegmentWire) (s : State) : Answer :=
  if w.valid then
    let g := w.clamped s.settings
    let t := s.storeSegment key g
    .take t .ok (g.toWire ≠ w) (g.bytes (t.segState key))
  else deny .badField

/-- PUT SEGMENT (01 R2). -/
def putSegment (key : Nat) (w : SegmentWire) (s : State) : Answer :=
  if 127 < key then deny .badField
  else if s.onPath key then deny .locked
  else s.takeSegment key w

/-- AMEND SEGMENT (01 R3, 09 R177). -/
def amendSegment (key presence : Nat) (w : SegmentWire) (s : State) : Answer :=
  if 127 < key then deny .badField
  else
    match Table.get s.pos.segments key with
    | none => deny .notFound
    | some o =>
      if s.onPath key then deny .locked
      else if noPresence presence 10 then ok s (o.bytes (s.segState key))
      else s.takeSegment key (w.over presence o.toWire)

/-- RETIRE SEGMENT (01 R4). -/
def retireSegment (key : Nat) (s : State) : Answer :=
  if 127 < key then deny .badField
  else if (Table.get s.pos.segments key).isNone then deny .notFound
  else if s.onPath key then deny .locked
  else ok (s.setPos { s.pos with segments := Table.del key s.pos.segments }) []

/-- GET SEGMENT (01 R4). -/
def getSegment (key : Nat) (s : State) : Answer :=
  if 127 < key then deny .badField
  else
    match Table.get s.pos.segments key with
    | none => deny .notFound
    | some g => ok s (g.bytes (s.segState key))

def execPutSegment (key : Nat) (w : SegmentWire) (s : State) : Result := .next (request 0x01 key (putSegment key w) s)

def execAmendSegment (key presence : Nat) (w : SegmentWire) (s : State) : Result :=
  .next (request 0x03 key (amendSegment key presence w) s)

def execRetireSegment (key : Nat) (s : State) : Result := .next (request 0x04 key (retireSegment key) s)

def execGetSegment (key : Nat) (s : State) : Result := .next (request 0x02 key (getSegment key) s)

/-- LIST SEGMENT (01 R4). -/
def execListSegment (key : Nat) (s : State) : Result :=
  .next (request 0x05 key
    (fun t => ok t (listBytes (t.pos.segments.map (fun p => (p.1, (t.segState p.1).code))))) s)

/-! ### Requests on AUTHORITY (01 R7 to R10) -/

/-- The GET layout of the authority (10 Table 10-5), empty when there is none. -/
def State.authorityBytes (s : State) : List Byte :=
  match s.pos.authority with
  | none => []
  | some u => u8 u.segment ++ u16 u.offset ++ u32 (s.dAuth.getD 0) ++ u8 s.pos.path.length ++ s.pos.path.flatMap u8

/-- The authority stored with the walked path (01 R8 steps 1 and 2). -/
def State.storeAuthority (u : Authority) (path : List Nat) (s : State) : State :=
  s.setPos { s.pos with authority := some u, path := path }

/-- EXTENDED is raised: there was no authority, or D_auth grew (01 R8 step 4). -/
def authorityGrew (before after : State) : Bool :=
  before.pos.authority.isNone || decide (before.dAuth.getD 0 < after.dAuth.getD 0)

/-- The taking of a checked authority (01 R8): stored, MSV's check (04 R83), EXTENDED. -/
def State.grantAuthority (u : Authority) (path : List Nat) (s : State) : State :=
  let stored := s.storeAuthority u path
  if authorityGrew s stored then stored.overrunCheck.raise .extended else stored.overrunCheck

/-- PUT AUTHORITY (01 R7, R8). -/
def putAuthority (key : Nat) (w : AuthorityWire) (s : State) : Answer :=
  if key ≠ 0 ∨ 127 < w.segment then deny .badField
  else
    match s.activeSegment, Table.get s.pos.segments w.segment with
    | some (a, _), some g =>
      let offset := min w.offset g.length
      if w.segment = a ∧ offset ≤ s.pos.s then deny .notOnRoute
      else
        match walk s.pos.segments w.segment 129 [a] with
        | .notOnRoute => deny .notOnRoute
        | .looped => deny .looped
        | .reached path =>
          if 32 < path.length then deny .tooFar
          else
            let t := s.grantAuthority ⟨w.segment, offset⟩ path
            .take t .ok (offset ≠ w.offset) t.authorityBytes
    | _, _ => deny .notOnRoute

/-- AMEND AUTHORITY (01 R9). -/
def amendAuthority (key presence : Nat) (w : AuthorityWire) (s : State) : Answer :=
  match s.pos.authority with
  | none => deny .notFound
  | some u =>
    if noPresence presence 2 then if key ≠ 0 then deny .badField else ok s s.authorityBytes
    else putAuthority key ⟨pick presence 0 w.segment u.segment, pick presence 1 w.offset u.offset⟩ s

/-- RETIRE AUTHORITY (01 R10, 04 R83). -/
def retireAuthority (key : Nat) (s : State) : Answer :=
  if key ≠ 0 then deny .badField
  else if s.pos.authority.isNone then deny .notFound
  else ok s.dropAuthority.overrunCheck []

/-- GET AUTHORITY (01 R10). -/
def getAuthority (key : Nat) (s : State) : Answer :=
  if key ≠ 0 then deny .badField
  else if s.pos.authority.isNone then deny .notFound
  else ok s s.authorityBytes

/-- LIST AUTHORITY (01 R10, 10 R187). -/
def listAuthority (key : Nat) (s : State) : Answer :=
  if key ≠ 0 then deny .badField
  else ok s (listBytes (s.pos.authority.toList.map (fun u => (0, u.segment))))

def execPutAuthority (key : Nat) (w : AuthorityWire) (s : State) : Result :=
  .next (request 0x01 key (putAuthority key w) s)

def execAmendAuthority (key presence : Nat) (w : AuthorityWire) (s : State) : Result :=
  .next (request 0x03 key (amendAuthority key presence w) s)

def execRetireAuthority (key : Nat) (s : State) : Result := .next (request 0x04 key (retireAuthority key) s)

def execGetAuthority (key : Nat) (s : State) : Result := .next (request 0x02 key (getAuthority key) s)

def execListAuthority (key : Nat) (s : State) : Result := .next (request 0x05 key (listAuthority key) s)

/-! ### PLACE (01 R11) -/

/-- The vehicle put at `position` on segment `g` (01 R11 steps 1 to 6), with CUE's evaluation after it. -/
def State.placeAt (g position : Nat) (s : State) : State :=
  let t := s.setPos { s.pos with
    authority := none, active := some g, path := [g], s := position, sPrev := position, residue := 0,
    markerSeen := false, missCount := 0, missCounted := false }
  let u := t.removeReason .position
  (u.setGdu { u.gdu with ePrev := 0 }).evaluate true

/-- PLACE (01 R11). -/
def placeVehicle (segment position : Nat) (s : State) : Answer :=
  if ¬(s.msv.motion = .parked ∨ s.msv.motion = .stopped) then deny .badState
  else if 127 < segment then deny .badField
  else
    match Table.get s.pos.segments segment with
    | none => deny .notFound
    | some g =>
      if s.onPath segment then deny .locked
      else if g.length ≤ position then deny .badField
      else ok (s.placeAt segment position) (u8 segment ++ u16 position)

def execPlace (key segment position : Nat) (s : State) : Result :=
  .next (request 0x22 key (placeVehicle segment position) s)

end Sys2Proof.Machine
end

