-- ==== Sys2Proof/Machine/Guidance.lean ====
section
/-! DEFINITION. The guidance unit (02) and the guidance sample (01 R14, 02, 04 §4.4, 07 R157): guide words, steering,
turntable, follow-error supervision, load-share, and the YAW request. -/

namespace Sys2Proof.Machine

/-- GUIDE_WORD (02 R23): a well-formed word replaces the last reading, a malformed one is discarded. -/
def guideWord (word : Option GuideWord) (s : State) : State :=
  match word with
  | none => s
  | some w => s.setGdu { s.gdu with reading := some ⟨w.offset, w.quality, s.now⟩ }

def execGuideWord (word : Option GuideWord) (s : State) : Result := .next (event (guideWord word) s)

/-! ### Steering (02 §2.1, §2.2) -/

/-- The offset this sample uses: the reading's when it is valid, e_prev when it is not (02 R24). -/
def State.guideOffset (s : State) : Int :=
  if s.guideValid then (s.gdu.reading.map (·.offset)).getD 0 else s.gdu.ePrev

/-- The invalid count and GUIDE_LOST (02 R25). -/
def State.judgeGuide (s : State) : State :=
  let n := if s.guideValid then 0 else min 3 (s.gdu.invalid + 1)
  let t := s.setGdu { s.gdu with invalid := n }
  if n = 3 ∧ t.msv.motion ≠ .parked then t.addReason .guideLost else t

/-- The steering law for offset `e` (02 R27). -/
def steerLaw (t : Settings) (g : Segment) (e ePrev delta : Int) : Int :=
  let corr := (g.kp * e + g.kd * (e - ePrev)).tdiv 16
  stepToward delta (clampInt (-(t.deltaMax : Int)) t.deltaMax (g.kff - corr)) t.slew

/-- δ of the sample by motion state (02 R28). -/
def State.nextDelta (e : Int) (s : State) : Int :=
  match s.msv.motion, s.activeSegment with
  | .parked, _ => 0
  | .running, some (_, g) | .dwell, some (_, g) | .safeStop, some (_, g) =>
    steerLaw s.settings g e s.gdu.ePrev s.gdu.delta
  | _, _ => s.gdu.delta

/-- The steering stage: δ written to its line, e_prev brought up to date (02 R28, R29). -/
def State.steer (e : Int) (s : State) : State :=
  let d := s.nextDelta e
  (s.setGdu { s.gdu with delta := d, ePrev := e }).setLines { s.lines with steer := d }

/-! ### Turntable (02 §2.3, §2.4) -/

/-- The yaw command may move (02 R33). -/
def State.yawMayMove (s : State) : Bool :=
  s.allVerified && (s.msv.motion ≠ .eStop && s.msv.motion ≠ .parked)

/-- The turntable stage: the command moves or is held and is written to its line (02 R33). -/
def State.moveTurntable (s : State) : State :=
  let y := if s.yawMayMove then stepToward s.gdu.yawCmd s.gdu.yawTarget s.settings.yawRate else s.gdu.yawCmd
  (s.setGdu { s.gdu with yawCmd := y }).setLines { s.lines with yaw := y }

/-- Follow-error supervision of one sample (02 R35, R36): in WATCHING an out-of-bound sample counts, in RECOVERING an
in-bound one, any other restarts the count, and the fiftieth changes the phase and the stop-reason set. -/
def State.superviseYaw (encoder : Int) (s : State) : State :=
  let out := decide (50 < (encoder - s.gdu.yawCmd).natAbs)
  let t := s.setLines { s.lines with encoder := encoder }
  if out = s.gdu.recovering then t.setGdu { s.gdu with followCount := 0 }
  else if s.gdu.followCount + 1 < 50 then t.setGdu { s.gdu with followCount := s.gdu.followCount + 1 }
  else
    let u := t.setGdu { s.gdu with recovering := !s.gdu.recovering, followCount := 0 }
    if s.gdu.recovering then u.removeReason .yawFollow else u.addReason .yawFollow

/-- GDU's part of the guidance sample (02): judgement, steering, turntable, supervision, in that order. -/
def State.guide (encoder : Int) (s : State) : State :=
  (((s.judgeGuide).steer s.guideOffset).moveTurntable).superviseYaw encoder

/-! ### Load-share (07 R157, R158) -/

/-- The release level: the load threshold minus the hysteresis, or 0 (07 R157). -/
def Settings.releaseLevel (t : Settings) : Nat := t.loadThreshold - t.loadHysteresis

/-- The drive current reading of a guidance sample (07 R157). -/
def State.readLoad (current : Nat) (s : State) : State :=
  if s.snd.loadShare then
    if current < s.settings.releaseLevel then
      if s.snd.loadRun + 1 < 10 then s.setSnd { s.snd with loadRun := s.snd.loadRun + 1 }
      else s.setSnd { s.snd with loadShare := false, loadRun := 0 }
    else s.setSnd { s.snd with loadRun := 0 }
  else
    if s.settings.loadThreshold < current then
      if s.snd.loadRun + 1 < 3 then s.setSnd { s.snd with loadRun := s.snd.loadRun + 1 }
      else (s.setSnd { s.snd with loadShare := true, loadRun := 0 }).capMaster
    else s.setSnd { s.snd with loadRun := 0 }

/-- GUIDANCE_SAMPLE (01 R14, 02 R24 to R39, 04 R76 to R86, 07 R157): position step and cue evaluation, guidance, speed
stage, load-share reading. -/
def guidanceSample (encoder : Int) (current : Nat) (s : State) : State :=
  let p := s.positionStep
  ((p.1.guide encoder).speedStage p.2).readLoad current

def execGuidanceSample (encoder : Int) (current : Nat) (s : State) : Result :=
  .next (event (guidanceSample encoder current) s)

/-! ### The YAW request (02 R32) -/

/-- YAW (02 R32). -/
def hostYaw (target : Int) (s : State) : Answer :=
  if s.msv.motion = .stopped ∨ s.msv.motion = .parked then
    let t := (s.storeYawTarget target).setCue { s.cue with turntable := none }
    .take t .ok (t.gdu.yawTarget ≠ target) (s16 t.gdu.yawTarget)
  else deny .badState

def execYaw (key : Nat) (target : Int) (s : State) : Result := .next (request 0x28 key (hostYaw target) s)

end Sys2Proof.Machine
end

