-- ==== Sys2Proof/Machine/Motion.lean ====
section
/-! DEFINITION. The motion supervisor's requests (04 §4.3) and its events apart from the guidance sample: E-stop input,
link expiry, supply reading, dwell expiry. -/

namespace Sys2Proof.Machine

/-! ### Requests (04 R69 to R75) -/

/-- The first E reason of the set in the order of Table 4-5 (04 R69). -/
def firstE (l : List StopReason) : Option StopReason := StopReason.all.find? (fun r => r.isE && l.contains r)

/-- The payload of a motion request: the motion state after it (10 Table 10-11). -/
def State.motionBytes (s : State) : List Byte := u8 s.msv.motion.code

/-- ENABLE (04 R69). -/
def enableVehicle (s : State) : Answer :=
  if s.msv.motion ≠ .parked then deny .badState
  else
    let t := match firstE s.msv.reasons with
      | none => s.setMsv { s.msv with motion := .stopped }
      | some r => s.enterEStop.raise (.estop r)
    ok t t.motionBytes

/-- An outstanding permit is withdrawn with its notice (03 R56). -/
def State.withdrawPermit (s : State) : State :=
  if s.rsm.permit.isSome then (s.setRsm { s.rsm with permit := none }).raise (.release .withdrawn) else s

/-- PARK (04 R70, R76, 02 R28, 03 R56). -/
def parkVehicle (s : State) : Answer :=
  if s.msv.motion = .stopped ∨ s.msv.motion = .eStop then
    let t := ((s.setMsv { s.msv with motion := .parked, held := false, overspeed := 0 }).setGdu { s.gdu with delta := 0 }).withdrawPermit
    ok t t.motionBytes
  else deny .badState

/-- The reasons that bar START: every one but HOST_STOP (04 R71). -/
def barringStart (l : List StopReason) : List StopReason := l.filter (· ≠ .hostStop)

/-- START (04 R71). -/
def startVehicle (s : State) : Answer :=
  if s.msv.motion ≠ .stopped then deny .badState
  else if barringStart s.msv.reasons ≠ [] then .refuse .reasonsActive (reasonList (barringStart s.msv.reasons))
  else if s.pos.authority.isNone then deny .notReady
  else if !s.allVerified then deny .notReady
  else
    let t := s.removeReason .hostStop
    let u := (t.setMsv { t.msv with motion := .running, held := false, overspeed := 0 }).withdrawPermit
    ok u u.motionBytes

/-- STOP (04 R72). -/
def stopVehicle (s : State) : Answer :=
  if s.msv.motion = .parked then deny .badState
  else ok (s.addReason .hostStop) (s.addReason .hostStop).motionBytes

/-- ESTOP (04 R73). -/
def estopVehicle (s : State) : Answer := ok (s.addReason .hostEstop) (s.addReason .hostEstop).motionBytes

/-- The condition of an E reason remains (04 Table 4-5); zero speed has been established where it is the condition. -/
def State.conditionRemains (s : State) : StopReason → Bool
  | .estopInput => s.msv.estopAsserted
  | .seatFault => s.anyFault
  | .guideLost => !s.guideValid
  | .hostEstop | .overspeed | .authorityOverrun | .hostStop | .position | .linkLost | .yawFollow => false

/-- RESUME (04 R74). -/
def resumeVehicle (s : State) : Answer :=
  if s.msv.motion ≠ .eStop then deny .badState
  else if !s.zeroSpeed then deny .notReady
  else
    let remaining := s.msv.reasons.filter s.conditionRemains
    if remaining ≠ [] then .refuse .reasonsActive (reasonList remaining)
    else
      let t := s.setMsv { s.msv with motion := .stopped, held := false, reasons := s.msv.reasons.filter (fun r => !r.isE) }
      ok t (t.motionBytes ++ reasonList t.msv.reasons)

/-- SKIP_DWELL (04 R75). -/
def skipDwell (s : State) : Answer :=
  if s.msv.motion ≠ .dwell then deny .badState
  else
    let t := s.setMsv { s.msv with motion := .running, dwell := none, held := false }
    ok t t.motionBytes

def execEnable (key : Nat) (s : State) : Result := .next (request 0x20 key enableVehicle s)

def execPark (key : Nat) (s : State) : Result := .next (request 0x21 key parkVehicle s)

def execStart (key : Nat) (s : State) : Result := .next (request 0x23 key startVehicle s)

def execStop (key : Nat) (s : State) : Result := .next (request 0x24 key stopVehicle s)

def execEstop (key : Nat) (s : State) : Result := .next (request 0x25 key estopVehicle s)

def execResume (key : Nat) (s : State) : Result := .next (request 0x26 key resumeVehicle s)

def execSkipDwell (key : Nat) (s : State) : Result := .next (request 0x27 key skipDwell s)

/-! ### Events -/

/-- The E-stop input state after a check that reads `high`, the level before it `prev` (04 R87). -/
def qualifyEstop (asserted : Bool) (prev : Option Bool) (high : Bool) : Bool :=
  if prev = some high then !high else asserted

/-- ESTOP_INPUT_CHECK (04 R87). -/
def estopInputCheck (high : Bool) (s : State) : State :=
  let a := qualifyEstop s.msv.estopAsserted s.msv.estopLevel high
  let t := s.setMsv { s.msv with estopAsserted := a, estopLevel := some high }
  if a then t.addReason .estopInput else t

/-- LINK_EXPIRY (04 R88): once per silence, at the link expiry. -/
def linkExpiry (s : State) : State :=
  match s.msv.linkExpiry with
  | none => notDue s
  | some t =>
    if t ≤ s.now then
      let u := s.setMsv { s.msv with linkExpiry := none }
      if u.msv.motion.moving then u.addReason .linkLost else u
    else notDue s

/-- SUPPLY_READING (04 R89, 07 R158). -/
def supplyReading (count : Nat) (s : State) : State :=
  if s.msv.supplyLow then
    if s.settings.supplyThreshold + s.settings.supplyHysteresis < count then
      if s.msv.supplyRun + 1 < 4 then s.setMsv { s.msv with supplyRun := s.msv.supplyRun + 1 }
      else (s.setMsv { s.msv with supplyLow := false, supplyRun := 0 }).raise (.supply false)
    else s.setMsv { s.msv with supplyRun := 0 }
  else
    if count < s.settings.supplyThreshold then
      if s.msv.supplyRun + 1 < 4 then s.setMsv { s.msv with supplyRun := s.msv.supplyRun + 1 }
      else ((s.setMsv { s.msv with supplyLow := true, supplyRun := 0 }).capMaster).raise (.supply true)
    else s.setMsv { s.msv with supplyRun := 0 }

/-- DWELL_EXPIRY (04 R85). -/
def dwellExpiry (s : State) : State :=
  match s.msv.motion, s.msv.dwell with
  | .dwell, some (.holding u) =>
    if u ≤ s.now then
      (s.setMsv { s.msv with motion := .running, dwell := none, held := false }).raise (.motion .running)
    else notDue s
  | _, _ => notDue s

def execEstopInputCheck (high : Bool) (s : State) : Result := .next (event (estopInputCheck high) s)

def execLinkExpiry (s : State) : Result := .next (event linkExpiry s)

def execSupplyReading (count : Nat) (s : State) : Result := .next (event (supplyReading count) s)

def execDwellExpiry (s : State) : Result := .next (event dwellExpiry s)

end Sys2Proof.Machine
end

