-- ==== Sys2Proof/Machine/Seats.lean ====
section
/-! DEFINITION. The restraint monitor (03): the seat sample and its state machine, the contact hold, the release protocol
and the requests on SEAT. -/

namespace Sys2Proof.Machine

/-! ### The seat sample (03 §3.2) -/

/-- The kinds of a reading (03 R44). -/
inductive ReadingKind where
  | good | opened | disagree
  deriving DecidableEq, Repr

/-- A switch line reads locked (03 R43). -/
def readsLocked (high polarity : Bool) : Bool := high != polarity

/-- The kind of a reading, by the first case that applies (03 R44). -/
def Seat.classify (t : Seat) (r : SeatReading) : ReadingKind :=
  let a := readsLocked r.lockA t.polarityA
  let b := readsLocked r.lockB t.polarityB
  if a && b && decide (t.lockMin ≤ r.position ∧ r.position ≤ t.lockMax) then .good
  else if !a && !b && decide (r.position < t.openMax) then .opened
  else .disagree

/-- The seat state machine (03 Table 3-2, R45 to R47). -/
def SeatState.next : SeatState → ReadingKind → SeatState
  | .unlatched, .good => .latching 1
  | .unlatched, _ => .unlatched
  | .latching c, .good => if c + 1 < 4 then .latching (c + 1) else .verified
  | .latching _, _ => .unlatched
  | .verified, .good => .verified
  | .verified, .disagree => .suspect 1 0
  | .verified, .opened => .fault .opened
  | .suspect c r, .good => if r + 1 < 2 then .suspect c (r + 1) else .verified
  | .suspect c _, .disagree => if c + 1 < 3 then .suspect (c + 1) 0 else .fault .disagree
  | .suspect _ _, .opened => .fault .opened
  | .disabled, _ => .disabled
  | .fault f, _ => .fault f
  | .releasing u, _ => .releasing u

/-- Two seat states of the same name, whatever they count (03 R49). -/
def SeatState.sameName (a b : SeatState) : Bool := a.code = b.code

/-- Seat `i`. -/
def State.seat (s : State) (i : Nat) : Seat := s.rsm.seats.getD i Seat.reset

/-- Seat `i` in state `st`. -/
def State.setSeatState (i : Nat) (st : SeatState) (s : State) : State :=
  s.setRsm { s.rsm with seats := s.rsm.seats.modify i (fun t => { t with state := st }) }

/-- Seat `i` at a seat sample: its new state, SEAT_FAULT at an entry to FAULT (03 R48), a SEAT notice on a change
(R49). -/
def State.sampleSeat (i : Nat) (r : SeatReading) (s : State) : State :=
  let old := (s.seat i).state
  let st := old.next ((s.seat i).classify r)
  let t := s.setSeatState i st
  if st.sameName old then t
  else
    match st with
    | .fault _ => (t.addReason .seatFault).raise (.seat i st)
    | _ => t.raise (.seat i st)

/-- The seats in ascending index from `i`, each with its reading (03 R43). -/
def State.sampleSeats : Nat → List SeatReading → State → State
  | _, [], s => s
  | i, r :: rs, s => State.sampleSeats (i + 1) rs (s.sampleSeat i r)

/-! ### Release (03 §3.4) -/

/-- The permit's mask names seat `i`. -/
def names (mask i : Nat) : Bool := mask.testBit i

/-- Every enabled seat of the mask goes to RELEASING with its pulse from now (03 R54 steps 1 to 3, R59). -/
def State.releaseSeats (mask : Nat) (s : State) : State :=
  s.setRsm { s.rsm with
    seats := s.rsm.seats.zipIdx.map (fun p =>
      if names mask p.2 && p.1.enabled then { p.1 with state := .releasing (s.after s.settings.releasePulse) } else p.1) }

/-- The seats of the mask that a release moves to RELEASING from another state, ascending (03 R54 step 5). -/
def State.newlyReleased (mask : Nat) (s : State) : List Nat :=
  (s.rsm.seats.zipIdx.filter (fun p => names mask p.2 && p.1.enabled && !p.1.state.sameName (.releasing 0))).map (·.2)

/-- A release fires (03 R54). -/
def State.fireRelease (mask : Nat) (s : State) : State :=
  let t := (s.releaseSeats mask).setRsm { (s.releaseSeats mask).rsm with permit := none }
  ((s.newlyReleased mask).foldl (fun u i => u.raise (.seat i (t.seat i).state)) t).raise (.release .done)

/-- The decision at the completion of a hold, the phase HELD (03 R52, R53). -/
def State.completeHold (s : State) : State :=
  let t := s.setRsm { s.rsm with hold := .held }
  match t.rsm.permit with
  | some p =>
    if (t.msv.motion = .stopped ∨ t.msv.motion = .eStop) ∧ t.atStation = true then t.fireRelease p.mask
    else t.raise (.release .denied)
  | none => t.raise (.release .denied)

/-- A hold that began at `since` has lasted 2000 ms (03 R52). -/
def State.holdDue (since : Nat) (s : State) : Bool := decide (since + 2000 * Config.usPerMs ≤ s.now)

/-- The contact hold at a seat sample; `closed` when both contacts are (03 R52). -/
def State.updateHold (closed : Bool) (s : State) : State :=
  if closed then
    match s.rsm.hold with
    | .idle => s.setRsm { s.rsm with hold := .timing s.now }
    | .timing since => if s.holdDue since then s.completeHold else s
    | .held => s
  else s.setRsm { s.rsm with hold := .idle }

/-- A seat sample that found the levels `v`: the seats, then the contact hold; a contact is closed when its line reads low
(03 R43, R52). -/
def State.takeLevels (v : SeatLevels) (s : State) : State :=
  ((s.setRsm { s.rsm with sampled := v }).sampleSeats 0 v.readings).updateHold (!v.relaHigh && !v.relbHigh)

/-- SEAT_SAMPLE (03 R43). -/
def seatSample (readings : List SeatReading) (relaHigh relbHigh : Bool) (s : State) : State :=
  s.takeLevels ⟨readings, relaHigh, relbHigh⟩

/-- HOLD_COMPLETE (03 R52, R53): the seat sample, 2000 ms past a hold's start, that finds every line as the sample before it
did, both contacts closed (log 3). -/
def holdComplete (s : State) : State :=
  match s.rsm.hold with
  | .timing since => if s.holdDue since then s.takeLevels s.rsm.sampled else notDue s
  | .idle | .held => notDue s

/-- PERMIT_EXPIRY (03 R55). -/
def permitExpiry (s : State) : State :=
  match s.rsm.permit with
  | some p =>
    if p.expiry ≤ s.now then (s.setRsm { s.rsm with permit := none }).raise (.release .expired) else notDue s
  | none => notDue s

/-- RELEASE_PULSE_END (03 R57). -/
def releasePulseEnd (i : Nat) (s : State) : State :=
  match (s.seat i).state with
  | .releasing u => if u ≤ s.now then (s.setSeatState i .unlatched).raise (.seat i .unlatched) else notDue s
  | _ => notDue s

def execSeatSample (readings : List SeatReading) (relaHigh relbHigh : Bool) (s : State) : Result :=
  .next (event (seatSample readings relaHigh relbHigh) s)

def execHoldComplete (s : State) : Result := .next (event holdComplete s)

def execPermitExpiry (s : State) : Result := .next (event permitExpiry s)

def execReleasePulseEnd (seat : Nat) (s : State) : Result := .next (event (releasePulseEnd seat) s)

/-! ### Requests (03 R40 to R42, R51, R58, R59) -/

/-- The motion state is PARKED or STOPPED. -/
def State.atRest (s : State) : Bool := s.msv.motion = .parked || s.msv.motion = .stopped

/-- Seat `i` replaced. -/
def State.setSeat (i : Nat) (t : Seat) (s : State) : State :=
  s.setRsm { s.rsm with seats := s.rsm.seats.set i t }

/-- A seat in FAULT is BAD_STATE, a RELEASING one BUSY (03 R40 checks 4 and 5). -/
def SeatState.editBar : SeatState → Option Status
  | .fault _ => some .badState
  | .releasing _ => some .busy
  | _ => none

/-- The answer that stores seat `i`. -/
def State.takeSeat (i : Nat) (t : Seat) (s : State) : Answer := ok (s.setSeat i t) (t.bytes s.now)

/-- PUT SEAT (03 R40). -/
def putSeat (key : Nat) (w : SeatWire) (s : State) : Answer :=
  if !s.atRest then deny .locked
  else if 7 < key ∨ w.valid = false then deny .badField
  else
    match (s.seat key).state.editBar with
    | some st => deny st
    | none => s.takeSeat key (w.seat (if w.enabled then .unlatched else .disabled))

/-- The state after a taken AMEND SEAT (03 R41): `o` the stored configuration, `w` the amended one. -/
def amendedSeatState (o w : SeatWire) (st : SeatState) : SeatState :=
  if !w.enabled then .disabled
  else if !o.enabled then .unlatched
  else if { w with enabled := o.enabled } = o then st
  else .unlatched

/-- AMEND SEAT (03 R41). -/
def amendSeat (key presence : Nat) (w : SeatWire) (s : State) : Answer :=
  if !s.atRest then deny .locked
  else if 7 < key then deny .badField
  else
    let t := s.seat key
    match t.state.editBar with
    | some st => deny st
    | none =>
      if noPresence presence 6 then ok s (t.bytes s.now)
      else
        let w' := w.over presence t.toWire
        if w'.valid then s.takeSeat key (w'.seat (amendedSeatState t.toWire w' t.state)) else deny .badField

/-- GET SEAT (03 R42). -/
def getSeat (key : Nat) (s : State) : Answer :=
  if 7 < key then deny .badField else ok s ((s.seat key).bytes s.now)

/-- SEAT_CLEAR (03 R51). -/
def seatClear (key : Nat) (s : State) : Answer :=
  if !s.atRest then deny .badState
  else if 7 < key then deny .badField
  else
    match (s.seat key).state with
    | .fault _ => ok (s.setSeatState key .unlatched) (u8 SeatState.unlatched.code)
    | _ => deny .badState

/-- RELEASE without IMMEDIATE (03 R58). -/
def releasePermit (mask : Nat) (s : State) : Answer :=
  if mask % 256 = 0 then deny .badField
  else if s.msv.motion ≠ .stopped then deny .denied
  else if !s.atStation then deny .denied
  else
    ok (s.setRsm { s.rsm with permit := some ⟨mask % 256, s.after s.settings.permitWindow⟩ })
      (u8 mask ++ u16 s.settings.permitWindow)

/-- The mask of the enabled seats that `mask` names (03 R59). -/
def State.releasedMask (mask : Nat) (s : State) : Nat :=
  (s.rsm.seats.zipIdx.map (fun p => bit (names mask p.2 && p.1.enabled) (2 ^ p.2))).sum

/-- RELEASE with IMMEDIATE (03 R59). -/
def releaseImmediate (mask : Nat) (s : State) : Answer :=
  if mask % 256 = 0 then deny .badField
  else if s.msv.motion ≠ .parked then deny .badState
  else ok (s.releaseSeats mask) (u8 (s.releasedMask mask) ++ u16 0)

def execPutSeat (key : Nat) (w : SeatWire) (s : State) : Result := .next (request 0x01 key (putSeat key w) s)

def execAmendSeat (key presence : Nat) (w : SeatWire) (s : State) : Result :=
  .next (request 0x03 key (amendSeat key presence w) s)

def execGetSeat (key : Nat) (s : State) : Result := .next (request 0x02 key (getSeat key) s)

/-- LIST SEAT (03 R42). -/
def execListSeat (key : Nat) (s : State) : Result :=
  .next (request 0x05 key (fun t => ok t (listBytes (t.rsm.seats.zipIdx.map (fun p => (p.2, p.1.state.code))))) s)

def execSeatClear (key : Nat) (s : State) : Result := .next (request 0x2A key (seatClear key) s)

def execRelease (key mask : Nat) (s : State) : Result := .next (request 0x29 key (releasePermit mask) s)

def execReleaseImmediate (key mask : Nat) (s : State) : Result := .next (request 0x29 key (releaseImmediate mask) s)

end Sys2Proof.Machine
end

