-- ==== Sys2Proof/Machine/Clips.lean ====
section
/-! DEFINITION. The clip table and the verification queue's membership: the requests on CLIP (06 §6.1). -/

namespace Sys2Proof.Machine

/-- A host program or erase is outstanding (06 §6.5). -/
def Slot.outstanding (t : Slot) : Bool := t.result = .running

/-- The clip's extent shares a byte with the range of an outstanding host operation (06 R122 check 4). -/
def State.underHostOp (c : Clip) (s : State) : Bool :=
  s.flp.slot.outstanding && c.overlaps s.flp.slot.first s.flp.slot.last

/-- The unit under way, if it is a verification burst, has its bytes discarded at its completion (06 R129). -/
def Work.dropVerify : Work → Work
  | .verify a n _ => .verify a n false
  | w => w

/-- A verification of clip `id` in progress is abandoned (06 R129). -/
def State.abandonVerify (id : Nat) (s : State) : State :=
  if s.flp.verifying.clip = some id then
    s.setFlp { s.flp with
      verifying := Verify.idle
      grant := s.flp.grant.map (fun g => { g with work := g.work.dropVerify }) }
  else s

/-- Clip `id` leaves the queue and any verification of it is abandoned (06 R122, R124). -/
def State.unqueue (id : Nat) (s : State) : State :=
  let t := s.abandonVerify id
  t.setFlp { t.flp with queue := t.flp.queue.filter (· ≠ id) }

/-- The record stored as QUEUED at the tail of the queue (06 R122). -/
def State.queueClip (id : Nat) (c : Clip) (s : State) : State :=
  let t := s.unqueue id
  t.setFlp { t.flp with
    clips := Table.put id { c with state := .queued } t.flp.clips
    queue := t.flp.queue ++ [id] }

/-- The progress field of GET CLIP (10 Table 10-9): bytes done, the place in the queue from 1, or 0. -/
def State.clipProgress (id : Nat) (c : Clip) (s : State) : Nat :=
  match c.state with
  | .verifying => s.flp.verifying.done
  | .queued => s.flp.queue.idxOf id + 1
  | .ready | .bad _ => 0

/-- The GET payload of clip `id`. -/
def State.clipBytes (id : Nat) (c : Clip) (s : State) : List Byte := c.bytes (s.clipProgress id c)

/-- The answer that queues clip `id`; `clamped` when the base gain was. -/
def State.takeQueued (id : Nat) (c : Clip) (clamped : Bool) (s : State) : Answer :=
  .take (s.queueClip id c) .ok clamped ((s.queueClip id c).clipBytes id { c with state := .queued })

/-- PUT CLIP (06 R122). -/
def putClip (key : Nat) (w : ClipWire) (s : State) : Answer :=
  if 63 < key then deny .badField
  else if s.clipPlayed key then deny .inUse
  else if w.valid = false then deny .badField
  else if s.underHostOp (w.clip .queued) then deny .busy
  else s.takeQueued key (w.clip .queued) (256 < w.gain)

/-- AMEND CLIP (06 R123, 09 R177). -/
def amendClip (key presence : Nat) (w : ClipWire) (s : State) : Answer :=
  if 63 < key then deny .badField
  else
    match Table.get s.flp.clips key with
    | none => deny .notFound
    | some o =>
      if s.clipPlayed key then deny .inUse
      else if noPresence presence 4 then ok s (s.clipBytes key o)
      else
        let w' := w.over presence o.toWire
        let c := w'.clip o.state
        if w'.valid = false then deny .badField
        else if c.addr = o.addr ∧ c.length = o.length then
          .take (s.setFlp { s.flp with clips := Table.put key c s.flp.clips }) .ok (256 < w'.gain) (s.clipBytes key c)
        else if s.underHostOp c then deny .busy
        else s.takeQueued key c (256 < w'.gain)

/-- RETIRE CLIP (06 R124). -/
def retireClip (key : Nat) (s : State) : Answer :=
  if 63 < key then deny .badField
  else if (Table.get s.flp.clips key).isNone then deny .notFound
  else if s.clipPlayed key then deny .inUse
  else
    let t := s.unqueue key
    ok (t.setFlp { t.flp with clips := Table.del key t.flp.clips }) []

/-- GET CLIP (06 R124). -/
def getClip (key : Nat) (s : State) : Answer :=
  if 63 < key then deny .badField
  else
    match Table.get s.flp.clips key with
    | none => deny .notFound
    | some c => ok s (s.clipBytes key c)

def execPutClip (key : Nat) (w : ClipWire) (s : State) : Result := .next (request 0x01 key (putClip key w) s)

def execAmendClip (key presence : Nat) (w : ClipWire) (s : State) : Result :=
  .next (request 0x03 key (amendClip key presence w) s)

def execRetireClip (key : Nat) (s : State) : Result := .next (request 0x04 key (retireClip key) s)

def execGetClip (key : Nat) (s : State) : Result := .next (request 0x02 key (getClip key) s)

/-- LIST CLIP (06 R124). -/
def execListClip (key : Nat) (s : State) : Result :=
  .next (request 0x05 key (fun t => ok t (listBytes (t.flp.clips.map (fun p => (p.1, p.2.state.code))))) s)

end Sys2Proof.Machine
end

