-- ==== Sys2Proof/Machine/Flash.lean ====
section
/-! DEFINITION. The flash port (06 §6.3 to §6.5): the arbiter, the units of work and their ends, and the host's flash
requests. -/

namespace Sys2Proof.Machine

/-! ### The arbiter (06 §6.4) -/

/-- VERIFY has work (06 R126). -/
def Flp.verifyAsks (f : Flp) : Bool := f.verifying.clip.isSome || !f.queue.isEmpty

/-- HOSTOP asks (06 R130). -/
def Flp.hostAsks (f : Flp) : Bool := f.read.isSome || (f.slot.outstanding && decide (f.slot.done < f.slot.total))

/-- Member `m` of the high ring asks: voice0 to voice5, then LOW as 6 (06 R130). -/
def State.asks (s : State) (m : Nat) : Bool :=
  if m < 6 then (s.voice m).refill.isSome else s.flp.verifyAsks || s.flp.hostAsks

/-- The members in search order, from the one after the last high grant (06 R131). -/
def searchOrder (last : Nat) : List Nat := (List.range 7).map (fun i => (last + 1 + i) % 7)

/-- The member the search finds (06 R131). -/
def State.nextMember (s : State) : Option Nat := (searchOrder s.flp.lastHigh).find? s.asks

/-- The low group's grant goes to HOSTOP: it is preferred and asks, or VERIFY does not ask (06 R131). -/
def Flp.lowToHost (f : Flp) : Bool := if f.lowPrefersHost then f.hostAsks else !f.verifyAsks

/-- The unit for voice `i` (06 R134). -/
def State.refillUnit (i : Nat) (s : State) : Option Work :=
  (s.voice i).refill.bind (fun r => (s.clipOf (s.voice i)).map (fun c => .refill i (c.addr + 16 + 2 * r.first) r.count true))

/-- The next burst of the clip being verified (06 R126). -/
def State.verifyUnit (s : State) : Option Work :=
  s.flp.verifying.clip.bind (fun id => (Table.get s.flp.clips id).map (fun c =>
    .verify (c.addr + s.flp.verifying.done) (min 256 (c.size - s.flp.verifying.done)) true))

/-- The first byte of program step `k` (06 R136). -/
def Slot.stepFirst (t : Slot) (k : Nat) : Nat := max t.first ((t.first / 256 + k) * 256)

/-- The last byte of program step `k` (06 R136). -/
def Slot.stepLast (t : Slot) (k : Nat) : Nat := min t.last ((t.first / 256 + k) * 256 + 255)

/-- The unit for HOSTOP: a waiting FLASH_READ, else the next step (06 R130, R136, R137). -/
def Flp.hostUnit (f : Flp) : Option Work :=
  match f.read with
  | some r => some (.hostRead r.addr r.len)
  | none =>
    match f.slot.op with
    | .program =>
      let a := f.slot.stepFirst f.slot.done
      some (.program a ((f.slot.data.drop (a - f.slot.first)).take (f.slot.stepLast f.slot.done + 1 - a)))
    | .erase => some (.erase (f.slot.first + 4096 * f.slot.done))
    | .none => none

/-- VERIFY takes the head of the queue when no clip is VERIFYING (06 R126). -/
def State.beginVerify (s : State) : State :=
  match s.flp.verifying.clip, s.flp.queue with
  | none, id :: rest =>
    s.setFlp { s.flp with
      clips := Table.update id (fun c => { c with state := .verifying }) s.flp.clips
      queue := rest
      verifying := { Verify.idle with clip := some id } }
  | _, _ => s

/-- The port granted for a unit. -/
def State.grantUnit (w : Option Work) (s : State) : State :=
  s.setFlp { s.flp with grant := w.map (fun w => ⟨w, s.now⟩) }

/-- The grant to member `m` (06 R131). -/
def State.grantMember (m : Nat) (s : State) : State :=
  let t := s.setFlp { s.flp with lastHigh := m }
  if m < 6 then t.grantUnit (t.refillUnit m)
  else if s.flp.lowToHost then
    let u := t.setFlp { t.flp with lowPrefersHost := false }
    u.grantUnit u.flp.hostUnit
  else
    let u := (t.setFlp { t.flp with lowPrefersHost := true }).beginVerify
    u.grantUnit u.verifyUnit

/-- FLASH_GRANT (06 R131): with the port FREE and a member asking. -/
def flashGrant (s : State) : State :=
  if s.flp.grant.isSome then notDue s
  else
    match s.nextMember with
    | some m => s.grantMember m
    | none => notDue s

def execFlashGrant (s : State) : Result := .next (event flashGrant s)

/-! ### Ends of units -/

/-- The first byte of a unit. -/
def Work.addr : Work → Nat
  | .refill _ a _ _ | .verify a _ _ | .hostRead a _ | .program a _ | .erase a => a

/-- The number of bytes of a unit (06 R132). -/
def Work.size : Work → Nat
  | .refill _ _ n _ => 2 * n
  | .verify _ n _ => n
  | .hostRead _ n => n
  | .program _ d => d.length
  | .erase _ => 4096

/-- The unit's bytes lie within the flash. -/
def Work.inFlash (w : Work) : Bool := decide (w.addr + w.size ≤ Config.flashSize)

/-- The bytes of flash that a read unit carries. -/
def State.unitBytes (w : Work) (s : State) : List Byte := Memory.readRange s.flp.flash w.addr w.size

/-- The port is FREE (06 R132). -/
def State.freePort (s : State) : State := s.setFlp { s.flp with grant := none }

/-- The completion of the unit under way when `mine` names it, with the port FREE before `f` acts on it; a unit whose
bytes do not exist faults (log 16). -/
def completion (mine : Work → Bool) (f : Work → State → State) (s : State) : Result :=
  if s.inReset then .next s
  else
    match s.flp.grant with
    | none => .next (notDue s)
    | some g =>
      if mine g.work then
        if g.work.inFlash then .next (f g.work s.freePort) else .fault (.flashAddress g.work.addr)
      else .next (notDue s)

/-- Clip `id` in state `st`. -/
def State.setClipState (id : Nat) (st : ClipState) (s : State) : State :=
  s.setFlp { s.flp with clips := Table.update id (fun c => { c with state := st }) s.flp.clips }

/-- The end of a verification BAD (06 R127, R128). -/
def State.verifyBad (id : Nat) (r : BadReason) (s : State) : State :=
  let t := s.setClipState id (.bad r)
  (t.setFlp { t.flp with verifying := Verify.idle }).raise (.clipBad id r)

/-- The end of a verification READY (06 R128). -/
def State.verifyReady (id : Nat) (s : State) : State :=
  let t := s.setClipState id .ready
  (t.setFlp { t.flp with verifying := Verify.idle }).raise (.clipReady id)

/-- The verification of clip `id` after a burst: ended when the whole extent of `size` bytes is done, else kept (06 R128). -/
def State.verifyDone (size id : Nat) (v : Verify) (s : State) : State :=
  if v.done < size then s.setFlp { s.flp with verifying := v }
  else if ~~~v.crc = v.headerCrc then s.verifyReady id
  else s.verifyBad id .crc

/-- The tag "IVCL" (06 Table 6-3). -/
def clipTag : List Byte := [0x49, 0x56, 0x43, 0x4C]

/-- The bytes of a burst checked: the header in the first one (06 R127), then the CRC (06 R128). -/
def State.verifyBytes (bs : List Byte) (s : State) : State :=
  let v := s.flp.verifying
  match v.clip with
  | none => s
  | some id =>
    match Table.get s.flp.clips id with
    | none => s
    | some c =>
      if v.done = 0 then
        if bs.take 4 ≠ clipTag then s.verifyBad id .header
        else if le32 bs 4 ≠ c.length then s.verifyBad id .length
        else s.verifyDone c.size id ⟨some id, bs.length, crc32 v.crc (bs.drop 16), BitVec.ofNat 32 (le32 bs 8)⟩
      else s.verifyDone c.size id { v with done := v.done + bs.length, crc := crc32 v.crc bs }

/-- The end of a verification burst; one of an abandoned verification is discarded (06 R129). -/
def verifyBurst (w : Work) (s : State) : State :=
  match w with
  | .verify _ _ true => s.verifyBytes (s.unitBytes w)
  | _ => s

def Work.isVerify : Work → Bool
  | .verify _ _ _ => true
  | _ => false

/-- VERIFY_BURST_COMPLETE (06 R127 to R129). -/
def execVerifyBurstComplete (s : State) : Result := completion Work.isVerify verifyBurst s

/-- The fetch position after `n` more samples (07 R148 step 2). -/
def Voice.fetched (v : Voice) (c : Clip) (n : Nat) : Nat :=
  match v.loop, c.loop with
  | true, some (a, b) => if v.fetch + n = b then a else v.fetch + n
  | _, _ => v.fetch + n

/-- The samples handed to voice `i` (07 R148). -/
def State.deliver (i : Nat) (xs : List Int) (s : State) : State :=
  match s.clipOf (s.voice i) with
  | none => s
  | some c =>
    (s.setVoice i { s.voice i with
      buffer := (s.voice i).buffer ++ xs
      fetch := (s.voice i).fetched c xs.length
      primed := true
      refill := none }).placeRefill i

/-- The end of a refill read; one whose request was withdrawn is discarded (06 R134). -/
def refillRead (w : Work) (s : State) : State :=
  match w with
  | .refill i _ _ true => s.deliver i (samplesOf (s.unitBytes w))
  | _ => s

def Work.isRefill : Work → Bool
  | .refill _ _ _ _ => true
  | _ => false

/-- REFILL_COMPLETE (06 R134, 07 R148). -/
def execRefillComplete (s : State) : Result := completion Work.isRefill refillRead s

/-- The response to the waiting FLASH_READ; `bs` is none on TIMEOUT (06 R135, 10 Table 10-11). -/
def State.answerRead (bs : Option (List Byte)) (s : State) : State :=
  match s.flp.read with
  | none => s
  | some r =>
    let code := if bs.isSome then HostResult.done.code else HostResult.timeout.code
    let t := (s.setFlp { s.flp with read := none }).respond 0x30 r.key .ok false false (u8 code ++ u32 r.addr ++ bs.getD [])
    if bs.isSome then t else t.raise (.flashTimeout .read)

def Work.isHostRead : Work → Bool
  | .hostRead _ _ => true
  | _ => false

/-- FLASH_READ_COMPLETE (06 R135). -/
def execFlashReadComplete (s : State) : Result :=
  completion Work.isHostRead (fun w t => t.answerRead (some (t.unitBytes w))) s

/-- FLASH_READ_DEADLINE (06 R135): a waiting read is withdrawn, one under way ended. -/
def flashReadDeadline (s : State) : State :=
  match s.flp.read with
  | none => notDue s
  | some r =>
    if r.deadline ≤ s.now then
      (if (s.flp.grant.map (fun g => g.work.isHostRead)).getD false then s.freePort else s).answerRead none
    else notDue s

def execFlashReadDeadline (s : State) : Result := .next (event flashReadDeadline s)

/-- The operation a slot's FLASH notice names. -/
def HostOpKind.flashOp : HostOpKind → FlashOp
  | .erase => .erase
  | .none | .program => .program

/-- One more step done, and the end of the operation after its last (06 R138). -/
def State.stepDone (s : State) : State :=
  let t := s.setFlp { s.flp with slot := { s.flp.slot with done := s.flp.slot.done + 1 } }
  if t.flp.slot.done < t.flp.slot.total then t
  else (t.setFlp { t.flp with slot := { t.flp.slot with result := .done } }).raise (.flashDone t.flp.slot.op.flashOp)

/-- The flash after a program or erase step (06 R136, R137). -/
def Work.written (w : Work) (m : Memory) : Memory :=
  match w with
  | .program a d => Memory.program m a d
  | .erase a => Memory.eraseRange m a 4096
  | _ => m

def Work.isStep : Work → Bool
  | .program _ _ | .erase _ => true
  | _ => false

/-- HOST_STEP_COMPLETE (06 R138). -/
def execHostStepComplete (s : State) : Result :=
  completion Work.isStep (fun w t => (t.setFlp { t.flp with flash := w.written t.flp.flash }).stepDone) s

/-- How long a unit may keep the port before it times out, in µs (06 R133; log 23). -/
def Work.limit : Work → Nat
  | .refill _ _ _ _ | .verify _ _ _ | .hostRead _ _ => 1000
  | .program _ _ => 5000
  | .erase _ => 500000

/-- The bytes of a program or erase step cut off or timed out are left free (06 R139; log 7). -/
def State.havocUnit (w : Work) (s : State) : State :=
  if w.isStep then
    (s.setFlp { s.flp with flash := Memory.havoc s.flp.flash w.addr s.free w.size }).setFree (s.free + w.size)
  else s

/-- A host operation whose step beginning at `a` timed out (06 R138). -/
def State.stepTimeout (a : Nat) (s : State) : State :=
  (s.setFlp { s.flp with slot := { s.flp.slot with result := .timeout, failed := some a } }).raise
    (.flashTimeout s.flp.slot.op.flashOp)

/-- What a unit's timeout does to its member's work (06 R133; log 24 for a withdrawn refill). -/
def State.unitTimeout (w : Work) (s : State) : State :=
  match w with
  | .refill i _ _ _ => s.raise (.flashTimeout (.refill i))
  | .verify _ _ true =>
    match s.flp.verifying.clip with
    | some id => s.verifyBad id .flashTimeout
    | none => s
  | .verify _ _ false => s
  | .hostRead _ _ => s.answerRead none
  | .program a _ | .erase a => (s.havocUnit w).stepTimeout a

/-- FLASH_UNIT_TIMEOUT (06 R133). -/
def flashUnitTimeout (s : State) : State :=
  match s.flp.grant with
  | none => notDue s
  | some g => if g.began + g.work.limit ≤ s.now then s.freePort.unitTimeout g.work else notDue s

def execFlashUnitTimeout (s : State) : Result := .next (event flashUnitTimeout s)

/-! ### Requests (06 §6.5) -/

/-- The code that refuses a FLASH_READ, if any (06 R135). -/
def State.readBar (addr len : Nat) (s : State) : Option Status :=
  if len < 1 ∨ 128 < len ∨ Config.flashSize < addr + len then some .badField
  else if s.flp.slot.outstanding then some .busy
  else none

/-- FLASH_READ (06 R135): once taken, the port stays BUILDING until the read or its deadline. -/
def flashRead (key addr len : Nat) (s : State) : State :=
  if s.inReset then s
  else if s.port.building then s.overrunFrame
  else
    let t := s.hearFrame
    match t.readBar addr len with
    | some st => t.respond 0x30 key st false false []
    | none =>
      (t.setPort { t.port with building := true }).setFlp { t.flp with read := some ⟨key, addr, len, t.now + 1800⟩ }

/-- Some clip that is QUEUED, VERIFYING or READY shares a byte with `first` to `last` (06 R136 check 2). -/
def State.liveClipIn (first last : Nat) (s : State) : Bool :=
  s.flp.clips.any (fun p => p.2.overlaps first last && (match p.2.state with | .bad _ => false | _ => true))

/-- Checks 2 to 4 of 06 R136. -/
def State.hostOpBar (first last : Nat) (s : State) : Option Status :=
  if s.liveClipIn first last then some .inUse
  else if s.flp.slot.outstanding then some .busy
  else if s.snd.voices.any Voice.sounding then some .busy
  else none

/-- A deferred operation accepted into the slot (06 R136). -/
def State.acceptOp (op : HostOpKind) (first last total : Nat) (data : List Byte) (s : State) : Answer :=
  match s.hostOpBar first last with
  | some st => deny st
  | none =>
    .take (s.setFlp { s.flp with slot := ⟨op, first, last, 0, total, .running, none, data⟩ }) .accepted false (u16 total)

/-- FLASH_PROGRAM (06 R136). -/
def flashProgram (addr : Nat) (data : List Byte) (s : State) : Answer :=
  if data.length < 1 ∨ 236 < data.length ∨ Config.flashSize < addr + data.length then deny .badField
  else
    let last := addr + data.length - 1
    s.acceptOp .program addr last (last / 256 - addr / 256 + 1) data

/-- FLASH_ERASE (06 R137). -/
def flashErase (addr sectors : Nat) (s : State) : Answer :=
  if addr % 4096 ≠ 0 ∨ sectors < 1 ∨ 4096 < sectors ∨ Config.flashSize < addr + 4096 * sectors then deny .badField
  else s.acceptOp .erase addr (addr + 4096 * sectors - 1) sectors []

def execFlashRead (key addr len : Nat) (s : State) : Result := .next (flashRead key addr len s)

def execFlashProgram (key addr : Nat) (data : List Byte) (s : State) : Result :=
  .next (request 0x31 key (flashProgram addr data) s)

def execFlashErase (key addr sectors : Nat) (s : State) : Result := .next (request 0x32 key (flashErase addr sectors) s)

end Sys2Proof.Machine
end

