-- ==== Sys2Proof/Machine/Sound.lean ====
section
/-! DEFINITION. The sound unit (07): the output sample and the mixer, the fade and master tick, and the requests PLAY,
HUSH, MASTER and those on VOICE. -/

namespace Sys2Proof.Machine

/-! ### The output sample (07 §7.3, §7.7) -/

/-- The sample a voice gives: the oldest of its buffer, 0 while that is empty (07 R146, R149). -/
def Voice.sample (v : Voice) : Int := v.buffer.headD 0

/-- The voice's part of a bus sum (07 R155 step 1). -/
def Voice.term (names : Buses → Bool) (v : Voice) : Int :=
  if v.sounding && names v.buses then v.sample * v.gv else 0

/-- Steps 1 to 3 of 07 R155: the sum scaled by the gains, floored twice, before saturation. -/
def mix (voices : List Voice) (names : Buses → Bool) (m : Nat) : Int :=
  (voices.map (Voice.term names)).sum / 256 * m / 256

/-- Step 4 of 07 R155. -/
def saturate (z : Int) : Int := clampInt (-32768) 32767 z

/-- Both bus words and clip flags of an output sample (07 R155, R156). -/
def State.writeBuses (s : State) : State :=
  let f := mix s.snd.voices Buses.front s.snd.m
  let r := mix s.snd.voices Buses.rear s.snd.m
  (s.setSnd { s.snd with
    clipFront := s.snd.clipFront || saturate f ≠ f
    clipRear := s.snd.clipRear || saturate r ≠ r }).setLines
    { s.lines with front := saturate f, rear := saturate r }

/-- The position after one more sample has been played (07 R146 case 1). -/
def Voice.played (v : Voice) (c : Clip) : Nat :=
  match v.loop, c.loop with
  | true, some (a, b) => if v.position + 1 = b then a else v.position + 1
  | _, _ => v.position + 1

/-- Voice `i` at an output sample, its sample having been mixed (07 R146, R149). -/
def State.playVoice (i : Nat) (s : State) : State :=
  let v := s.voice i
  if v.sounding then
    match v.buffer, s.clipOf v with
    | _ :: xs, some c =>
      let t := s.setVoice i { v with buffer := xs, position := v.played c, underrun := false }
      if !v.loops c && decide (v.position + 1 = c.length) then t.endVoice i else t
    | _ :: _, none => s
    | [], _ =>
      if v.primed && !v.underrun then (s.setVoice i { v with underrun := true }).raise (.voiceUnderrun i v.owner) else s
  else s

/-- The voices in ascending order. The spec gives no order for the notices of voices that end or underrun in one output
sample or one tick (DESIGN CHOICE, log 32). -/
def voiceIds : List Nat := [0, 1, 2, 3, 4, 5]

/-- OUTPUT_SAMPLE (07 R146, R147, R149, R155, R156). -/
def outputSample (s : State) : State :=
  eachId State.placeRefill voiceIds (eachId State.playVoice voiceIds s.writeBuses)

def execOutputSample (s : State) : Result := .next (event outputSample s)

/-! ### The fade and master tick (07 R150, R158) -/

/-- A FADING voice at a tick, ended when its gv reaches 0 (07 R150). -/
def State.fadeVoice (i : Nat) (s : State) : State :=
  let v := s.voice i
  if v.state = .fading then
    let g := v.gv - s.settings.voiceSlew
    let t := s.setVoice i { v with gv := g }
    if g = 0 then t.endVoice i else t
  else s

/-- m one nearer to a target above it (07 R158). -/
def State.climbMaster (s : State) : State :=
  if s.snd.m < s.masterTarget then s.setSnd { s.snd with m := s.snd.m + 1 } else s

/-- FADE_MASTER_TICK (07 R150, R158). -/
def fadeMasterTick (s : State) : State := (eachId State.fadeVoice voiceIds s).climbMaster

/-- VOICE_FADE_END (07 R150): the end of a FADING voice whose gv stands at 0 (log 3). -/
def voiceFadeEnd (i : Nat) (s : State) : State :=
  if i < 6 ∧ (s.voice i).state = .fading ∧ (s.voice i).gv = 0 then s.endVoice i else notDue s

def execFadeMasterTick (s : State) : Result := .next (event fadeMasterTick s)

def execVoiceFadeEnd (voice : Nat) (s : State) : Result := .next (event (voiceFadeEnd voice) s)

/-! ### Requests (07 R143, R151, R154, R159) -/

/-- The claim of a host PLAY, its gain clamped (07 R143). -/
def PlayWire.claim (w : PlayWire) : Claim :=
  ⟨w.clip, busesOf w.buses, min 256 w.gain, w.flags.testBit 0, w.flags.testBit 1, w.level, .request⟩

/-- PLAY (07 R143). -/
def hostPlay (w : PlayWire) (s : State) : Answer :=
  if 63 < w.clip ∨ (busesOf w.buses).any = false ∨ 3 < w.level then deny .badField
  else if (Table.get s.flp.clips w.clip).isNone then deny .notFound
  else if (s.readyClip w.clip).isNone then deny .notReady
  else
    match s.claimVoice w.claim with
    | none => deny .busy
    | some (t, i) => .take t .ok (256 < w.gain) (u8 i ++ u48 (t.voice i).stamp ++ u16 (t.voice i).gv)

/-- HUSH without ALL (07 R151). -/
def hushVoice (key : Nat) (s : State) : Answer :=
  if 5 < key then deny .badField
  else if (s.voice key).state = .idle then deny .badState
  else
    let v := (s.voice key).fade
    ok (s.setVoice key v) (u8 v.state.code ++ u16 v.gv)

/-- HUSH with ALL (07 R151). -/
def hushAll (s : State) : Answer :=
  ok (s.fadeVoices (fun _ => true)) (u8 (s.snd.voices.filter (fun v => v.state = .playing)).length)

/-- MASTER (07 R159). -/
def hostMaster (gain : Nat) (s : State) : Answer :=
  let t := (s.setSettings { s.settings with masterGain := min 256 gain }).capMaster
  .take t .ok (256 < gain) (u16 t.settings.masterGain ++ u16 t.masterTarget ++ u16 t.snd.m)

/-- GET VOICE (07 R154). -/
def getVoice (key : Nat) (s : State) : Answer :=
  if 5 < key then deny .badField else ok s (s.voice key).bytes

/-- LIST VOICE (07 R154). -/
def listVoice (s : State) : Answer := ok s (listBytes (s.snd.voices.zipIdx.map (fun p => (p.2, p.1.state.code))))

def execPlay (key : Nat) (w : PlayWire) (s : State) : Result := .next (request 0x2D key (hostPlay w) s)

def execHush (key : Nat) (s : State) : Result := .next (request 0x2E key (hushVoice key) s)

def execHushAll (key : Nat) (s : State) : Result := .next (request 0x2E key hushAll s)

def execMaster (key gain : Nat) (s : State) : Result := .next (request 0x2F key (hostMaster gain) s)

def execGetVoice (key : Nat) (s : State) : Result := .next (request 0x02 key (getVoice key) s)

def execListVoice (key : Nat) (s : State) : Result := .next (request 0x05 key listVoice s)

end Sys2Proof.Machine
end

