-- ==== Sys2Proof/Machine/Notices.lean ====
section
/-! DEFINITION. The notice unit's requests (08): SOURCE, NOTICE_SETUP and NOTICE_TAKE. -/

namespace Sys2Proof.Machine

/-- Source `n`, 1 to 12. -/
def State.source (s : State) (n : Nat) : Source := s.ntu.sources.getD (n - 1) (Source.cleared 0)

/-- Source `n` replaced. -/
def State.setSource (n : Nat) (src : Source) (s : State) : State :=
  s.setNtu { s.ntu with sources := s.ntu.sources.set (n - 1) src }

/-- The GET layout of a source (10 §10.3). -/
def Source.bytes (src : Source) : List Byte :=
  u8 src.level ++ u8 (bit src.pending 1) ++ u8 src.count ++ detailBytes src.detail

/-- Checks 1 and 2 of 08 R169. -/
def settableSource (key : Nat) : Bool := decide (2 ≤ key ∧ key ≤ 12)

/-- The answer that stores a level and clears the source (08 R169; log 21). -/
def State.takeSource (key level : Nat) (s : State) : Answer :=
  ok (s.setSource key (Source.cleared level)) (Source.cleared level).bytes

/-- PUT SOURCE (08 R169). -/
def putSource (key level : Nat) (s : State) : Answer :=
  if settableSource key = false ∨ 7 < level then deny .badField else s.takeSource key level

/-- AMEND SOURCE (08 R169). -/
def amendSource (key presence level : Nat) (s : State) : Answer :=
  if settableSource key = false then deny .badField
  else if noPresence presence 1 then ok s (s.source key).bytes
  else if 7 < level then deny .badField
  else s.takeSource key level

/-- GET SOURCE (08 R168). -/
def getSource (key : Nat) (s : State) : Answer :=
  if key < 1 ∨ 12 < key then deny .badField else ok s (s.source key).bytes

/-- The state byte of a source in a LIST response (10 R187). -/
def Source.listByte (src : Source) : Nat := src.level + bit src.pending 128

/-- LIST SOURCE (08 R168). -/
def listSource (s : State) : Answer :=
  ok s (listBytes (s.ntu.sources.zipIdx.map (fun p => (p.2 + 1, p.1.listByte))))

/-- NOTICE_SETUP (08 R164). -/
def noticeSetup (base mask : Nat) (s : State) : Answer :=
  if base < 1 ∨ 15 < base ∨ 7 < mask then deny .badField
  else
    let t := s.setNtu { s.ntu with base := some base, mask := mask, released := true }
    ok t (u8 base ++ u8 mask ++ u8 1 ++ u8 t.ntu.pendingCount)

/-- The source to hand over: the highest level, then the lowest number, with its record (08 R166). -/
def Ntu.chosen (t : Ntu) : Option (Nat × Source) :=
  (firstLeast (fun a b => decide (b.1.level < a.1.level)) (t.sources.zipIdx.filter (fun p => p.1.pending))).map
    (fun p => (p.2 + 1, p.1))

/-- The code of a NOTICE_TAKE response, base × 16 + source number (08 R166). -/
def Ntu.code (t : Ntu) (n : Nat) : Nat := t.base.getD 0 * 16 + n

/-- NOTICE_TAKE (08 R166, R167). -/
def noticeTake (s : State) : Answer :=
  match s.ntu.chosen with
  | none => ok s (u8 (s.ntu.code 0) ++ u8 0 ++ u8 0 ++ detailBytes none)
  | some (n, src) =>
    let t := s.setSource n (Source.cleared src.level)
    ok t (u8 (s.ntu.code n) ++ u8 src.count ++ u8 t.ntu.pendingCount ++ detailBytes src.detail)

def execPutSource (key level : Nat) (s : State) : Result := .next (request 0x01 key (putSource key level) s)

def execAmendSource (key presence level : Nat) (s : State) : Result :=
  .next (request 0x03 key (amendSource key presence level) s)

def execGetSource (key : Nat) (s : State) : Result := .next (request 0x02 key (getSource key) s)

def execListSource (key : Nat) (s : State) : Result := .next (request 0x05 key listSource s)

def execNoticeSetup (key base mask : Nat) (s : State) : Result := .next (request 0x33 key (noticeSetup base mask) s)

def execNoticeTake (key : Nat) (s : State) : Result := .next (request 0x34 key noticeTake s)

end Sys2Proof.Machine
end

