-- ==== Sys2Proof/Machine/Settings.lean ====
section
/-! DEFINITION. The settings record: the requests on SETTINGS and what the blocks do with changed fields (09 R178). -/

namespace Sys2Proof.Machine

/-- GDU's part: the held δ within a smaller δmax, the yaw target within changed travel limits (02 R30, R34). -/
def State.gduSettings (old : Settings) (s : State) : State :=
  let d := (s.settings.deltaMax : Int)
  s.setGdu { s.gdu with
    delta := clampInt (-d) d s.gdu.delta
    yawTarget :=
      if s.settings.yawMin = old.yawMin ∧ s.settings.yawMax = old.yawMax then s.gdu.yawTarget
      else clampInt s.settings.yawMin s.settings.yawMax s.gdu.yawTarget }

/-- MSV's part: the supply run count restarts when the threshold or hysteresis changed (04 R89). -/
def State.msvSettings (old : Settings) (s : State) : State :=
  if s.settings.supplyThreshold = old.supplyThreshold ∧ s.settings.supplyHysteresis = old.supplyHysteresis then s
  else s.setMsv { s.msv with supplyRun := 0 }

/-- SND's part: the load run count restarts when the threshold or hysteresis changed (07 R157), and m falls to a lower
target (R158). -/
def State.sndSettings (old : Settings) (s : State) : State :=
  (if s.settings.loadThreshold = old.loadThreshold ∧ s.settings.loadHysteresis = old.loadHysteresis then s
   else s.setSnd { s.snd with loadRun := 0 }).capMaster

/-- The record stored and acted on (09 R178). -/
def State.storeSettings (t : Settings) (s : State) : State :=
  (((s.setSettings t).gduSettings s.settings).msvSettings s.settings).sndSettings s.settings

/-- Checks 3 and 4 of 09 R178 and the answer that stores the words. -/
def State.takeSettings (ws : List Nat) (s : State) : Answer :=
  let t := settingsOf ws
  if stopClipOk ws = false then deny .badField
  else if t.yawMax < t.yawMin then deny .badField
  else .take (s.storeSettings t) .ok (t.words ≠ ws.take 26) t.bytes

/-- PUT SETTINGS (09 R178). -/
def putSettings (key : Nat) (words : List Nat) (s : State) : Answer :=
  if !s.atRest then deny .locked
  else if key ≠ 0 then deny .badField
  else s.takeSettings words

/-- AMEND SETTINGS (09 R177, R178). -/
def amendSettings (key presence : Nat) (words : List Nat) (s : State) : Answer :=
  if !s.atRest then deny .locked
  else if key ≠ 0 then deny .badField
  else if noPresence presence 26 then ok s s.settings.bytes
  else s.takeSettings (overWords presence words s.settings.words)

/-- GET SETTINGS (09 R177, R178). -/
def getSettings (key : Nat) (s : State) : Answer :=
  if key ≠ 0 then deny .badField else ok s s.settings.bytes

/-- LIST SETTINGS (09 R178, 10 R187). -/
def listSettings (s : State) : Answer := ok s (listBytes [(0, 0)])

def execPutSettings (key : Nat) (words : List Nat) (s : State) : Result :=
  .next (request 0x01 key (putSettings key words) s)

def execAmendSettings (key presence : Nat) (words : List Nat) (s : State) : Result :=
  .next (request 0x03 key (amendSettings key presence words) s)

def execGetSettings (key : Nat) (s : State) : Result := .next (request 0x02 key (getSettings key) s)

def execListSettings (key : Nat) (s : State) : Result := .next (request 0x05 key listSettings s)

end Sys2Proof.Machine
end

