-- ==== Sys2Proof/Machine/Ports.lean ====
section
/-! DEFINITION. The request port and the resets (09): FETCH, frames that fail their checks, overruns, STATUS, SOFT_RESET
and the POWER and PIN resets. -/

namespace Sys2Proof.Machine

/-! ### Transfers (09 §9.1) -/

/-- FRAME_OVERRUN (09 R173): a request frame that arrives in BUILDING; ignored during a reset (R172; log 4). -/
def execFrameOverrun (s : State) : Result := .next (event State.overrunFrame s)

/-- The frame that a FETCH clocks out: the held response, or NO_RESPONSE (09 R174). -/
def State.fetchFrame (s : State) : List Byte :=
  (s.port.held.getD ⟨.noResponse, 0, 0, false, false, s.port.overrun, []⟩).bytes

/-- The first `n` bytes of a list, 00h beyond its end. -/
def padTo (n : Nat) (bs : List Byte) : List Byte := bs.take n ++ List.replicate (n - bs.length) 0

/-- FETCH of `clocked` bytes, its own 00h among them (09 R174). -/
def fetchTransfer (clocked : Nat) (s : State) : State :=
  if clocked = 0 then s
  else
    let t := s.setPort { s.port with spiOut := padTo (clocked - 1) s.fetchFrame }
    if s.fetchFrame.length ≤ clocked - 1 then t.setPort { t.port with held := none } else t

def execFetch (clocked : Nat) (s : State) : Result := .next (event (fetchTransfer clocked) s)

/-- The bytes of a transfer in order, none when they are not a request frame: no bytes, or a first byte 00h (09 R172). -/
def isFrame (bs : List Byte) : Bool := bs.headD 0 ≠ 0

/-- The response to a frame that fails its checks: its kind and key bytes, or 00h (09 R175); 00h was driven during the frame
(R172). -/
def State.refuseFrame (bs : List Byte) (st : Status) (s : State) : State :=
  (s.setPort { s.port with spiOut := [] }).respond (bs.getD 0 0).toNat (bs.getD 2 0).toNat st false false []

/-- A request frame taken and refused by the first frame check that fails (09 R175). -/
def State.failFrame (bs : List Byte) (s : State) : State :=
  match frameVerdict bs with
  | .badLength => s.refuseFrame bs .badLength
  | .badCrc => (s.raise .badCrc).refuseFrame bs .badCrc
  | .badKind => s.hearFrame.refuseFrame bs .badKind
  | .badClass => s.hearFrame.refuseFrame bs .badClass
  | .badPayload => s.hearFrame.refuseFrame bs .badLength
  | .pass => notDue s

/-- FRAME_CHECK_FAILURE (09 R172, R173, R175). -/
def frameCheckFailure (bs : List Byte) (s : State) : State :=
  if !isFrame bs then notDue s
  else if s.port.building then s.overrunFrame
  else s.failFrame bs

def execFrameCheckFailure (transfer : List Byte) (s : State) : Result := .next (event (frameCheckFailure transfer) s)

/-! ### STATUS (09 R179, 10 Table 10-13) -/

/-- The s16 of the measured speed, and the state: a value outside an s16 is free (log 8). -/
def State.speedBytes (s : State) : State × List Byte :=
  let v := s.measuredSpeed
  if -32768 ≤ v ∧ v ≤ 32767 then (s, s16 v) else (s.setFree (s.free + 1), u16 (Config.freeWord s.free).toNat)

/-- The number of clips in a state (06 R141). -/
def State.clipCount (p : ClipState → Bool) (s : State) : Nat := (s.flp.clips.filter (fun e => p e.2.state)).length

def ClipState.isBad : ClipState → Bool
  | .bad _ => true
  | _ => false

/-- The STATUS payload around the measured speed (10 Table 10-13), which names no voice or holder owners (DEDUCED, log 31). -/
def State.statusBytes (s : State) (speed : List Byte) : List Byte :=
  u8 s.msv.motion.code ++
  u8 (bit s.msv.supplyLow 1 + bit s.snd.loadShare 2 + bit s.snd.clipFront 4 + bit s.snd.clipRear 8) ++
  u16 (reasonBits s.msv.reasons) ++ u16 s.msv.vCmd ++ speed ++
  u8 (idByte s.pos.active) ++ u16 s.pos.s ++ u32 (s.dAuth.getD 0xFFFFFFFF) ++
  s16 s.gdu.delta ++ s16 s.gdu.yawCmd ++ s16 s.gdu.yawTarget ++
  s.rsm.seats.flatMap (fun t => u8 t.state.code) ++ s.snd.voices.flatMap (fun v => u8 v.state.code) ++
  u16 s.snd.m ++
  u8 s.flp.queue.length ++ u8 (idByte s.flp.verifying.clip) ++ u8 (s.clipCount (fun st => st = .ready)) ++
  u8 (s.clipCount ClipState.isBad) ++
  u8 s.flp.slot.op.code ++ u32 s.flp.slot.first ++ u32 s.flp.slot.last ++ u16 s.flp.slot.done ++ u16 s.flp.slot.total ++
  u8 s.flp.slot.result.code ++ u32 (s.flp.slot.failed.getD 0xFFFFFFFF) ++
  u8 s.port.cause.code ++ u32 (min 0xFFFFFFFF ((s.now - s.port.lastLink) / 1000)) ++ u8 s.ntu.pendingCount

/-- STATUS (09 R179, 07 R156): the bus clip flags are cleared once reported. -/
def hostStatus (s : State) : Answer :=
  let t := s.speedBytes.1
  ok (t.setSnd { t.snd with clipFront := false, clipRear := false }) (s.statusBytes s.speedBytes.2)

def execStatus (key : Nat) (s : State) : Result := .next (request 0x35 key hostStatus s)

/-! ### SOFT_RESET (09 R182, R183) -/

/-- POS (01 R22). -/
def Pos.soft (p : Pos) : Pos :=
  { p with authority := none, path := p.alone, sPrev := p.s, residue := 0, missCount := 0 }

/-- GDU (02 R38). -/
def Gdu.soft (g : Gdu) : Gdu :=
  { g with ePrev := 0, invalid := 0, delta := 0, yawTarget := g.yawCmd, recovering := false, followCount := 0 }

/-- MSV (04 R91). -/
def Msv.soft (m : Msv) : Msv :=
  { m with
    motion := .parked, reasons := [], vCmd := 0, window := [0, 0, 0, 0], overspeed := 0, dwell := none, held := false }

/-- RSM (03 R61). -/
def Rsm.soft (r : Rsm) : Rsm where
  seats := r.seats.map (fun t => if t.enabled then { t with state := .unlatched } else t)
  permit := none
  hold := .idle
  sampled := r.sampled

/-- One cue (05 R120). -/
def Cue.soft (c : Cue) : Cue :=
  { c with
    state := if c.state = .disarmed then .disarmed else .armed
    conflict := false
    skipped := false
    slow := none }

/-- CUE (05 R120). -/
def CueUnit.soft (c : CueUnit) : CueUnit :=
  { c with
    cues := c.cues.map (fun p => (p.1, p.2.soft))
    lines := c.lines.map (fun _ => none)
    turntable := none
    beacon := c.beacon.take 1 }

/-- A unit under way whose data is discarded at its completion (06 R140). -/
def Work.soft : Work → Work
  | .refill v a n _ => .refill v a n false
  | .verify a n _ => .verify a n false
  | w => w

/-- FLP (06 R140). -/
def Flp.soft (f : Flp) : Flp :=
  let back := f.verifying.clip
  { f with
    clips := match back with
      | some id => Table.update id (fun c => { c with state := .queued }) f.clips
      | none => f.clips
    queue := back.toList ++ f.queue
    verifying := Verify.idle
    grant := f.grant.map (fun g => { g with work := g.work.soft })
    lastHigh := 6
    lowPrefersHost := false }

/-- SND (07 R161). -/
def Snd.soft (d : Snd) : Snd := { d with voices := List.replicate 6 Voice.reset }

/-- NTU (08 R171). -/
def Ntu.soft (t : Ntu) : Ntu := { t with sources := t.sources.map (fun src => Source.cleared src.level) }

/-- Every block's SOFT reset and the reset cause (09 R182, R183). -/
def State.softReset (s : State) : State :=
  { s with
    pos := s.pos.soft
    gdu := s.gdu.soft
    msv := s.msv.soft
    rsm := s.rsm.soft
    cue := s.cue.soft
    flp := s.flp.soft
    snd := s.snd.soft
    ntu := s.ntu.soft
    port := { s.port with cause := .soft } }

/-- SOFT_RESET (09 R182). -/
def softReset (s : State) : Answer :=
  if s.atRest then ok s.softReset (u8 ResetCause.soft.code) else deny .badState

def execSoftReset (key : Nat) (s : State) : Result := .next (request 0x36 key softReset s)

/-! ### POWER and PIN resets (09 R180, R181) -/

/-- The encoder reading within the travel of the turntable (02 R37). -/
def clampYaw (encoder : Int) : Int := clampInt (-1800) 1800 encoder

/-- A flash unit under way is cut off; the flash contents survive, but for the bytes of a cut-off step (06 R139). -/
def State.cutUnit (s : State) : State :=
  match s.flp.grant with
  | some g => s.havocUnit g.work
  | none => s

/-- Every block held at its reset values (09 R180); the clock, the flash and the queue of commands are outside the
blocks. -/
def State.hardReset (cause : ResetCause) (encoder : Int) (s : State) : State where
  now := s.now
  free := s.cutUnit.free
  inReset := true
  settings := Settings.reset
  pos := Pos.reset
  gdu := Gdu.reset (clampYaw encoder)
  msv := Msv.reset s.now
  rsm := Rsm.reset
  cue := CueUnit.reset
  flp := Flp.reset s.cutUnit.flp.flash
  snd := Snd.reset
  ntu := Ntu.reset
  port := Port.reset cause s.now
  lines := { Lines.reset (clampYaw encoder) with encoder := encoder }
  pending := s.pending

/-- The cause of a PIN reset: POWER when it holds the part within a POWER reset (09 R180; log 25). -/
def State.pinCause (s : State) : ResetCause := if s.inReset && s.port.cause = .power then .power else .pin

def execPowerReset (encoder : Int) (s : State) : Result := .next (s.hardReset .power encoder)

def execPinReset (encoder : Int) (s : State) : Result := .next (s.hardReset s.pinCause encoder)

/-- RESET_END (09 R180, R181): the last link activity is this moment, and the link expiry the link timeout after it
(04 R90). -/
def resetEnd (s : State) : State :=
  if s.inReset then
    ((s.setInReset false).setPort { s.port with lastLink := s.now }).setMsv
      { s.msv with linkExpiry := some (s.after s.settings.linkTimeout) }
  else notDue s

def execResetEnd (s : State) : Result := .next (resetEnd s)

end Sys2Proof.Machine
end

