-- ==== Sys2Proof/Machine/Dispatch.lean ====
section
/-! DEFINITION. One arm per command, each a direct call of its meaning. -/

namespace Sys2Proof.Machine

def exec (i : Instr) (s : State) : Host.Outcome State Fault Refusal :=
  match i with
  | .guidanceSample encoder current => Sys2Proof.Machine.execGuidanceSample encoder current s
  | .odometerPulse forward => Sys2Proof.Machine.execOdometerPulse forward s
  | .markerRead code => Sys2Proof.Machine.execMarkerRead code s
  | .guideWord word => Sys2Proof.Machine.execGuideWord word s
  | .seatSample readings relaHigh relbHigh => Sys2Proof.Machine.execSeatSample readings relaHigh relbHigh s
  | .holdComplete => Sys2Proof.Machine.execHoldComplete s
  | .permitExpiry => Sys2Proof.Machine.execPermitExpiry s
  | .releasePulseEnd seat => Sys2Proof.Machine.execReleasePulseEnd seat s
  | .estopInputCheck high => Sys2Proof.Machine.execEstopInputCheck high s
  | .linkExpiry => Sys2Proof.Machine.execLinkExpiry s
  | .supplyReading count => Sys2Proof.Machine.execSupplyReading count s
  | .dwellExpiry => Sys2Proof.Machine.execDwellExpiry s
  | .effectTick => Sys2Proof.Machine.execEffectTick s
  | .effectPhaseEnd line => Sys2Proof.Machine.execEffectPhaseEnd line s
  | .beaconTxComplete => Sys2Proof.Machine.execBeaconTxComplete s
  | .flashGrant => Sys2Proof.Machine.execFlashGrant s
  | .verifyBurstComplete => Sys2Proof.Machine.execVerifyBurstComplete s
  | .refillComplete => Sys2Proof.Machine.execRefillComplete s
  | .flashReadComplete => Sys2Proof.Machine.execFlashReadComplete s
  | .flashReadDeadline => Sys2Proof.Machine.execFlashReadDeadline s
  | .hostStepComplete => Sys2Proof.Machine.execHostStepComplete s
  | .flashUnitTimeout => Sys2Proof.Machine.execFlashUnitTimeout s
  | .outputSample => Sys2Proof.Machine.execOutputSample s
  | .fadeMasterTick => Sys2Proof.Machine.execFadeMasterTick s
  | .voiceFadeEnd voice => Sys2Proof.Machine.execVoiceFadeEnd voice s
  | .powerReset encoder => Sys2Proof.Machine.execPowerReset encoder s
  | .pinReset encoder => Sys2Proof.Machine.execPinReset encoder s
  | .resetEnd => Sys2Proof.Machine.execResetEnd s
  | .frameOverrun => Sys2Proof.Machine.execFrameOverrun s
  | .fetch clocked => Sys2Proof.Machine.execFetch clocked s
  | .putSegment key w => Sys2Proof.Machine.execPutSegment key w s
  | .amendSegment key presence w => Sys2Proof.Machine.execAmendSegment key presence w s
  | .retireSegment key => Sys2Proof.Machine.execRetireSegment key s
  | .getSegment key => Sys2Proof.Machine.execGetSegment key s
  | .listSegment key => Sys2Proof.Machine.execListSegment key s
  | .putAuthority key w => Sys2Proof.Machine.execPutAuthority key w s
  | .amendAuthority key presence w => Sys2Proof.Machine.execAmendAuthority key presence w s
  | .retireAuthority key => Sys2Proof.Machine.execRetireAuthority key s
  | .getAuthority key => Sys2Proof.Machine.execGetAuthority key s
  | .listAuthority key => Sys2Proof.Machine.execListAuthority key s
  | .putSeat key w => Sys2Proof.Machine.execPutSeat key w s
  | .amendSeat key presence w => Sys2Proof.Machine.execAmendSeat key presence w s
  | .getSeat key => Sys2Proof.Machine.execGetSeat key s
  | .listSeat key => Sys2Proof.Machine.execListSeat key s
  | .putCue key w => Sys2Proof.Machine.execPutCue key w s
  | .amendCue key presence w => Sys2Proof.Machine.execAmendCue key presence w s
  | .retireCue key => Sys2Proof.Machine.execRetireCue key s
  | .retireCueForce key => Sys2Proof.Machine.execRetireCueForce key s
  | .getCue key => Sys2Proof.Machine.execGetCue key s
  | .listCue key => Sys2Proof.Machine.execListCue key s
  | .putClip key w => Sys2Proof.Machine.execPutClip key w s
  | .amendClip key presence w => Sys2Proof.Machine.execAmendClip key presence w s
  | .retireClip key => Sys2Proof.Machine.execRetireClip key s
  | .getClip key => Sys2Proof.Machine.execGetClip key s
  | .listClip key => Sys2Proof.Machine.execListClip key s
  | .putSource key level => Sys2Proof.Machine.execPutSource key level s
  | .amendSource key presence level => Sys2Proof.Machine.execAmendSource key presence level s
  | .getSource key => Sys2Proof.Machine.execGetSource key s
  | .listSource key => Sys2Proof.Machine.execListSource key s
  | .putSettings key words => Sys2Proof.Machine.execPutSettings key words s
  | .amendSettings key presence words => Sys2Proof.Machine.execAmendSettings key presence words s
  | .getSettings key => Sys2Proof.Machine.execGetSettings key s
  | .listSettings key => Sys2Proof.Machine.execListSettings key s
  | .getVoice key => Sys2Proof.Machine.execGetVoice key s
  | .listVoice key => Sys2Proof.Machine.execListVoice key s
  | .getLine key => Sys2Proof.Machine.execGetLine key s
  | .listLine key => Sys2Proof.Machine.execListLine key s
  | .enable key => Sys2Proof.Machine.execEnable key s
  | .park key => Sys2Proof.Machine.execPark key s
  | .place key segment position => Sys2Proof.Machine.execPlace key segment position s
  | .start key => Sys2Proof.Machine.execStart key s
  | .stop key => Sys2Proof.Machine.execStop key s
  | .estop key => Sys2Proof.Machine.execEstop key s
  | .resume key => Sys2Proof.Machine.execResume key s
  | .skipDwell key => Sys2Proof.Machine.execSkipDwell key s
  | .yaw key target => Sys2Proof.Machine.execYaw key target s
  | .release key mask => Sys2Proof.Machine.execRelease key mask s
  | .releaseImmediate key mask => Sys2Proof.Machine.execReleaseImmediate key mask s
  | .seatClear key => Sys2Proof.Machine.execSeatClear key s
  | .rearm key => Sys2Proof.Machine.execRearm key s
  | .rearmAll key => Sys2Proof.Machine.execRearmAll key s
  | .disarm key => Sys2Proof.Machine.execDisarm key s
  | .play key w => Sys2Proof.Machine.execPlay key w s
  | .hush key => Sys2Proof.Machine.execHush key s
  | .hushAll key => Sys2Proof.Machine.execHushAll key s
  | .master key gain => Sys2Proof.Machine.execMaster key gain s
  | .flashRead key addr len => Sys2Proof.Machine.execFlashRead key addr len s
  | .flashProgram key addr data => Sys2Proof.Machine.execFlashProgram key addr data s
  | .flashErase key addr sectors => Sys2Proof.Machine.execFlashErase key addr sectors s
  | .noticeSetup key base mask => Sys2Proof.Machine.execNoticeSetup key base mask s
  | .noticeTake key => Sys2Proof.Machine.execNoticeTake key s
  | .status key => Sys2Proof.Machine.execStatus key s
  | .softReset key => Sys2Proof.Machine.execSoftReset key s
  | .frameCheckFailure transfer => Sys2Proof.Machine.execFrameCheckFailure transfer s

end Sys2Proof.Machine
end

