-- ==== Sys2Proof/WellFormed.lean ====
section
/-! DEFINITION. The widths of a command's operands: a request's fields as 10 encodes them, an event's levels and readings
as the spec gives their ranges. `exec` has a meaning outside them too; statements that need a width say so. -/

namespace Sys2Proof.Machine

/-- An unsigned field of `bits` bits. -/
def fits (bits n : Nat) : Bool := decide (n < 2 ^ bits)

/-- A signed 16-bit field. -/
def fitsS16 (x : Int) : Bool := decide (-32768 ≤ x ∧ x ≤ 32767)

def MarkerWire.wf (m : MarkerWire) : Bool := fits 8 m.code && fits 16 m.offset && fits 16 m.tolerance

def SegmentWire.wf (w : SegmentWire) : Bool :=
  fits 16 w.length && fits 16 w.ceiling && fitsS16 w.kff && fits 8 w.kp && fits 8 w.kd && fits 8 w.next && fits 8 w.alt &&
  w.marker.all MarkerWire.wf

def AuthorityWire.wf (w : AuthorityWire) : Bool := fits 8 w.segment && fits 16 w.offset

def SeatWire.wf (w : SeatWire) : Bool := fits 16 w.lockMin && fits 16 w.lockMax && fits 16 w.openMax

def ActionWire.wf (w : ActionWire) : Bool :=
  fits 8 w.kind && fits 8 w.arg && fits 16 w.hi && fits 16 w.lo && fits 8 w.b6 && fits 8 w.b7

/-- The count byte is the length of the list, at most what a payload of 240 bytes holds. -/
def CueWire.wf (w : CueWire) : Bool :=
  fits 8 w.segment && fits 16 w.start && fits 16 w.stop && fits 8 w.level && w.actions.all ActionWire.wf &&
  decide (w.actions.length ≤ 29)

def ClipWire.wf (w : ClipWire) : Bool :=
  fits 32 w.addr && fits 32 w.length && fits 16 w.gain && w.loop.all (fun p => fits 32 p.1 && fits 32 p.2)

def PlayWire.wf (w : PlayWire) : Bool :=
  fits 8 w.clip && fits 8 w.buses && fits 16 w.gain && fits 8 w.flags && fits 8 w.level

/-- A quality of 0 to 15 (02 R23). -/
def GuideWord.wf (w : GuideWord) : Bool := fits 4 w.quality

/-- A restraint position of 0 to 1023 (03 R43). -/
def SeatReading.wf (r : SeatReading) : Bool := fits 10 r.position

/-- The 26 words of a settings payload. -/
def wfWords (ws : List Nat) : Bool := decide (ws.length = 26) && ws.all (fits 16)

end Sys2Proof.Machine

namespace Sys2Proof

open Machine

/-- Every operand has the width the spec gives it. -/
def Instr.wf (i : Instr) : Bool :=
  match i with
  | .guidanceSample encoder current => fitsS16 encoder && fits 12 current
  | .odometerPulse _ => true
  | .markerRead code => fits 8 code
  | .guideWord word => word.all GuideWord.wf
  | .seatSample readings _ _ => decide (readings.length = 8) && readings.all SeatReading.wf
  | .holdComplete | .permitExpiry => true
  | .releasePulseEnd seat => decide (seat ≤ 7)
  | .estopInputCheck _ | .linkExpiry => true
  | .supplyReading count => fits 12 count
  | .dwellExpiry | .effectTick => true
  | .effectPhaseEnd line => decide (line ≤ 11)
  | .beaconTxComplete | .flashGrant | .verifyBurstComplete | .refillComplete | .flashReadComplete
  | .flashReadDeadline | .hostStepComplete | .flashUnitTimeout | .outputSample | .fadeMasterTick => true
  | .voiceFadeEnd voice => decide (voice ≤ 5)
  | .powerReset encoder | .pinReset encoder => fitsS16 encoder
  | .resetEnd | .frameOverrun => true
  | .fetch clocked => decide (1 ≤ clocked)
  | .putSegment key w => fits 8 key && w.wf
  | .amendSegment key presence w => fits 8 key && fits 32 presence && w.wf
  | .putAuthority key w => fits 8 key && w.wf
  | .amendAuthority key presence w => fits 8 key && fits 32 presence && w.wf
  | .putSeat key w => fits 8 key && w.wf
  | .amendSeat key presence w => fits 8 key && fits 32 presence && w.wf
  | .putCue key w => fits 8 key && w.wf
  | .amendCue key presence w => fits 8 key && fits 32 presence && w.wf
  | .putClip key w => fits 8 key && w.wf
  | .amendClip key presence w => fits 8 key && fits 32 presence && w.wf
  | .putSource key level => fits 8 key && fits 8 level
  | .amendSource key presence level => fits 8 key && fits 32 presence && fits 8 level
  | .putSettings key words => fits 8 key && wfWords words
  | .amendSettings key presence words => fits 8 key && fits 32 presence && wfWords words
  | .place key segment position => fits 8 key && fits 8 segment && fits 16 position
  | .yaw key target => fits 8 key && fitsS16 target
  | .release key mask | .releaseImmediate key mask => fits 8 key && fits 8 mask
  | .play key w => fits 8 key && w.wf
  | .master key gain => fits 8 key && fits 16 gain
  | .flashRead key addr len => fits 8 key && fits 32 addr && fits 8 len
  | .flashProgram key addr data => fits 8 key && fits 32 addr && decide (1 ≤ data.length ∧ data.length ≤ 236)
  | .flashErase key addr sectors => fits 8 key && fits 32 addr && fits 16 sectors
  | .noticeSetup key base mask => fits 8 key && fits 8 base && fits 8 mask
  | .retireSegment key | .getSegment key | .listSegment key | .retireAuthority key | .getAuthority key
  | .listAuthority key | .getSeat key | .listSeat key | .retireCue key | .retireCueForce key | .getCue key
  | .listCue key | .retireClip key | .getClip key | .listClip key | .getSource key | .listSource key
  | .getSettings key | .listSettings key | .getVoice key | .listVoice key | .getLine key | .listLine key
  | .enable key | .park key | .start key | .stop key | .estop key | .resume key | .skipDwell key | .seatClear key
  | .rearm key | .rearmAll key | .disarm key | .hush key | .hushAll key | .noticeTake key | .status key
  | .softReset key => fits 8 key
  | .frameCheckFailure transfer => decide (1 ≤ transfer.length)

end Sys2Proof
end

