-- ==== Sys2Proof/Safety.lean ====
section
/-! DEFINITION. What claims mean by a sound state: the shape of the tables, the motion and restraint rules, the route, the
voices and the clip store, and the notice sources. -/

namespace Sys2Proof.Machine

/-! ### Shape -/

/-- The fixed tables have their sizes, the keyed tables and the flash their canonical form, keys their ranges. -/
structure State.Shaped (s : State) : Prop where
  seats : s.rsm.seats.length = 8
  voices : s.snd.voices.length = 6
  lines : s.cue.lines.length = 12
  sources : s.ntu.sources.length = 12
  window : s.msv.window.length = 4
  segments : Table.wf s.pos.segments
  segmentKeys : ∀ p ∈ s.pos.segments, p.1 ≤ 127
  cues : Table.wf s.cue.cues
  cueKeys : ∀ p ∈ s.cue.cues, p.1 ≤ 95
  clips : Table.wf s.flp.clips
  clipKeys : ∀ p ∈ s.flp.clips, p.1 ≤ 63
  flash : Memory.wf s.flp.flash

/-! ### Motion (04) and restraints (03) -/

/-- A seat is unlocked by the part: its solenoid is energised (03 R62). -/
def SeatState.energised : SeatState → Bool
  | .releasing _ => true
  | _ => false

/-- A seat's bar is held: VERIFIED or SUSPECT (03 Table 3-1). -/
def SeatState.heldClosed : SeatState → Bool
  | .verified => true
  | .suspect _ _ => true
  | _ => false

/-- The motion states, the stop-reason set and the seats agree (03 R48, R53 to R59; 04 R63 to R71, R84). -/
structure State.MotionSafe (s : State) : Prop where
  /-- An E reason in the set means E_STOP or PARKED (04 R66). -/
  eStopped : ∀ r ∈ s.msv.reasons, r.isE = true → s.msv.motion = .eStop ∨ s.msv.motion = .parked
  /-- v_cmd is 0 in PARKED, STOPPED and E_STOP (04 R63). -/
  atRest : s.msv.motion.moving = false → s.msv.vCmd = 0
  /-- v_cmd is at most vmax (04 Table 4-1). -/
  bounded : s.msv.vCmd ≤ s.settings.vmax
  /-- The dwell is present exactly in DWELL (04 R84). -/
  dwell : s.msv.dwell.isSome = true ↔ s.msv.motion = .dwell
  /-- The held flag is set in RUNNING only (04 R81). -/
  held : s.msv.held = true → s.msv.motion = .running
  /-- A seat is DISABLED exactly while its enabled flag is clear (03 R40). -/
  disabled : ∀ t ∈ s.rsm.seats, t.enabled = false ↔ t.state = .disabled
  /-- In RUNNING, DWELL and SAFE_STOP every enabled seat is VERIFIED or SUSPECT (03 R48, 04 R71). -/
  riding : s.msv.motion.moving = true → ∀ t ∈ s.rsm.seats, t.enabled = true → t.state.heldClosed = true
  /-- A release permit stands in STOPPED and E_STOP only (03 R56, R58). -/
  permit : s.rsm.permit.isSome = true → s.msv.motion = .stopped ∨ s.msv.motion = .eStop

/-! ### Route (01) -/

/-- Each member of a path is followed by its usable successor (01 R5, R6). -/
def chained (segs : Table Segment) : List Nat → Prop
  | [] => True
  | [_] => True
  | a :: b :: rest => (Table.get segs a).bind (successor segs) = some b ∧ chained segs (b :: rest)

/-- Position, path and authority agree (01 R6, R7, R8, R15, Tables 1-1 and 1-2). -/
structure State.RouteSound (s : State) : Prop where
  lengths : ∀ p ∈ s.pos.segments, 100 ≤ p.2.length ∧ p.2.length ≤ 60000
  sorted : Table.wf s.pos.segments
  head : s.pos.path.head? = s.pos.active
  nodup : s.pos.path.Nodup
  short : s.pos.path.length ≤ 32
  here : ∀ k ∈ s.pos.path, (Table.get s.pos.segments k).isSome = true
  chain : chained s.pos.segments s.pos.path
  inside : ∀ a g, s.pos.active = some a → Table.get s.pos.segments a = some g → s.pos.s < g.length
  alone : s.pos.authority = none → s.pos.path = s.pos.alone
  within : ∀ u g, s.pos.authority = some u → Table.get s.pos.segments u.segment = some g → u.offset ≤ g.length
  last : ∀ u, s.pos.authority = some u → s.pos.path.getLast? = some u.segment
  ahead : ∀ u, s.pos.authority = some u → s.pos.active = some u.segment → s.pos.s < u.offset
  misses : s.pos.missCount ≤ 2

/-! ### Clips and voices (06, 07) -/

/-- The gain of a PLAY action, 0 for any other (05 Table 5-2). -/
def Action.gain : Action → Nat
  | .play _ _ g _ _ => g
  | _ => 0

/-- The queue, the verification and the clip states agree, a sounding voice plays a READY clip, an IDLE one holds
nothing, and m keeps to its ceilings (06 R121, R126; 07 R142, R147, R158). -/
structure State.SoundSound (s : State) : Prop where
  clipsSorted : Table.wf s.flp.clips
  voices : s.snd.voices.length = 6
  queueNodup : s.flp.queue.Nodup
  queued : ∀ id, id ∈ s.flp.queue ↔ (Table.get s.flp.clips id).map (·.state) = some .queued
  verifying : ∀ id, s.flp.verifying.clip = some id ↔ (Table.get s.flp.clips id).map (·.state) = some .verifying
  playing : ∀ v ∈ s.snd.voices, v.sounding = true → (s.clipOf v).map (·.state) = some .ready
  idle : ∀ v ∈ s.snd.voices, v.sounding = false → v.buffer = [] ∧ v.refill = none
  refill : ∀ v ∈ s.snd.voices, ∀ r, v.refill = some r → v.buffer.length ≤ 256 ∧ r.count ≤ 128
  buffer : ∀ v ∈ s.snd.voices, v.buffer.length ≤ 384
  served : ∀ g i a n, s.flp.grant = some g → g.work = .refill i a n true →
    ∃ r, (s.voice i).refill = some r ∧ n = r.count
  gains : ∀ v ∈ s.snd.voices, v.gv ≤ 256 ∧ (v.state = .playing → v.gv = v.target)
  baseGains : ∀ p ∈ s.flp.clips, p.2.gain ≤ 256
  cueGains : ∀ p ∈ s.cue.cues, ∀ a ∈ p.2.actions, a.gain ≤ 256
  master : s.snd.m ≤ s.masterTarget

/-! ### Notices (08) -/

/-- A source's record: nothing waits exactly when the count is 0 and no detail is held (08 R163, R167). -/
def Source.sound (src : Source) : Prop :=
  src.level ≤ 7 ∧ src.count ≤ 255 ∧ (src.pending = true ↔ 0 < src.count) ∧ (src.pending = true ↔ src.detail.isSome = true) ∧
  (src.pending = true → 0 < src.level)

/-- The notice unit's state keeps its ranges, and source 1 its level 7 (08 Table 8-1, R164, R169). -/
structure State.NoticesSound (s : State) : Prop where
  sources : s.ntu.sources.length = 12
  records : ∀ src ∈ s.ntu.sources, src.sound
  estop : (s.source 1).level = 7
  mask : s.ntu.mask ≤ 7
  base : ∀ b, s.ntu.base = some b → 1 ≤ b ∧ b ≤ 15
  released : s.ntu.released = true ↔ s.ntu.base.isSome = true

/-! ### What statements about one command say -/

/-- The units of the block, and the model's counter of free values. -/
inductive Block where
  | settings | pos | gdu | msv | rsm | cue | flp | snd | ntu | port | lines | free
  deriving DecidableEq, Repr

/-- The unit holds in `t` what it held in `s`. -/
def Block.same (s t : State) : Block → Prop
  | .settings => t.settings = s.settings
  | .pos => t.pos = s.pos
  | .gdu => t.gdu = s.gdu
  | .msv => t.msv = s.msv
  | .rsm => t.rsm = s.rsm
  | .cue => t.cue = s.cue
  | .flp => t.flp = s.flp
  | .snd => t.snd = s.snd
  | .ntu => t.ntu = s.ntu
  | .port => t.port = s.port
  | .lines => t.lines = s.lines
  | .free => t.free = s.free

/-- Every unit but those of `bs` is as it was; no reset has begun or ended, and clock and queue are as they were. -/
def SameBut (bs : List Block) (s t : State) : Prop :=
  t.now = s.now ∧ t.inReset = s.inReset ∧ t.pending = s.pending ∧ ∀ b : Block, b ∉ bs → b.same s t

/-- The part takes request frames: no reset holds it and the port is IDLE (09 R172, R173). -/
abbrev State.listening (s : State) : Prop := s.inReset = false ∧ s.port.building = false

/-- MSV as the arrival of a good frame leaves it (04 R88): a new link expiry, LINK_LOST out of the set. -/
def State.heard (s : State) : Msv :=
  { s.msv with
    linkExpiry := some (s.now + s.settings.linkTimeout * 1000)
    reasons := s.msv.reasons.filter (fun r => r ≠ .linkLost) }

/-- The answer to a request taken or refused at `s` (09 R172, R173, R175): the response is held, the port IDLE, the overrun
flag copied and cleared, the link activity recorded, 00h driven during the frame; of the other units only `bs` may have
changed, and MSV, when it is not one of them, only by the good frame. -/
def Answers (s t : State) (bs : List Block) (status : Status) (kind key : Nat) (clamped estopCaused : Bool)
    (payload : List Byte) : Prop :=
  t.port = { s.port with
    building := false
    held := some ⟨status, kind, key, clamped, estopCaused, s.port.overrun, payload⟩
    overrun := false
    lastLink := s.now
    spiOut := [] } ∧
  (Block.msv ∉ bs → t.msv = s.heard) ∧ SameBut (.port :: .msv :: bs) s t

/-- The record stored and what the blocks do with its changed fields: GDU, MSV's supply run, SND's load run and m. -/
def settingsStored (new : Settings) (s t : State) : Prop :=
  t.settings = new ∧
  t.gdu = { s.gdu with
    delta := max (-(new.deltaMax : Int)) (min new.deltaMax s.gdu.delta)
    yawTarget := if new.yawMin = s.settings.yawMin ∧ new.yawMax = s.settings.yawMax then s.gdu.yawTarget
      else max new.yawMin (min new.yawMax s.gdu.yawTarget) } ∧
  t.msv = { s.heard with
    supplyRun := if new.supplyThreshold = s.settings.supplyThreshold ∧ new.supplyHysteresis = s.settings.supplyHysteresis
      then s.msv.supplyRun else 0 } ∧
  t.snd = { s.snd with
    loadRun := if new.loadThreshold = s.settings.loadThreshold ∧ new.loadHysteresis = s.settings.loadHysteresis
      then s.snd.loadRun else 0
    m := min s.snd.m t.masterTarget }

/-- A step from `sPrev` to `x` on segment `g`, `leaving` it or not, passes the miss point of a marker that is `unseen`: neither
read nor counted as missed in this pass (01 R20). -/
def missPassed (g : Segment) (unseen : Bool) (sPrev x : Nat) (leaving : Bool) : Bool :=
  match g.marker with
  | none => false
  | some m =>
    unseen && decide (sPrev ≤ m.offset + m.tolerance) && (leaving || decide (m.offset + m.tolerance < x))

/-- The miss count after a miss point was `passed` or not (01 R20). -/
def countMiss (passed : Bool) (n : Nat) : Nat := if passed then min 2 (n + 1) else n

/-- Source 5 after the miss point of segment `k` was `passed` or not, at count `n` (01 R20). -/
def noteMiss (passed : Bool) (k n : Nat) (src : Source) : Source :=
  if passed then Source.record (.missed k (countMiss passed n)) src else src

/-- The place of member `m` of the high ring in a search that starts after `last` (06 R131). -/
def ringPlace (last m : Nat) : Nat := (m + 13 - last) % 7

/-- The state after a step that goes on satisfies `p`. -/
def Kept (p : State → Prop) : Prop := ∀ s t : State, p s → step s = .next t → p t

end Sys2Proof.Machine

namespace Sys2Proof

/-- The kind and key bytes of a command that is a request frame (10 Table 10-2); none for an event of the part, a FETCH
and a frame that fails its checks. -/
def Instr.frame : Instr → Option (Nat × Nat)
  | .putSegment k _ | .putAuthority k _ | .putSeat k _ | .putCue k _ | .putClip k _ | .putSource k _
  | .putSettings k _ => some (0x01, k)
  | .getSegment k | .getAuthority k | .getSeat k | .getCue k | .getClip k | .getSource k | .getSettings k
  | .getVoice k | .getLine k => some (0x02, k)
  | .amendSegment k _ _ | .amendAuthority k _ _ | .amendSeat k _ _ | .amendCue k _ _ | .amendClip k _ _
  | .amendSource k _ _ | .amendSettings k _ _ => some (0x03, k)
  | .retireSegment k | .retireAuthority k | .retireCue k | .retireCueForce k | .retireClip k => some (0x04, k)
  | .listSegment k | .listAuthority k | .listSeat k | .listCue k | .listClip k | .listSource k | .listSettings k
  | .listVoice k | .listLine k => some (0x05, k)
  | .enable k => some (0x20, k)
  | .park k => some (0x21, k)
  | .place k _ _ => some (0x22, k)
  | .start k => some (0x23, k)
  | .stop k => some (0x24, k)
  | .estop k => some (0x25, k)
  | .resume k => some (0x26, k)
  | .skipDwell k => some (0x27, k)
  | .yaw k _ => some (0x28, k)
  | .release k _ | .releaseImmediate k _ => some (0x29, k)
  | .seatClear k => some (0x2A, k)
  | .rearm k | .rearmAll k => some (0x2B, k)
  | .disarm k => some (0x2C, k)
  | .play k _ => some (0x2D, k)
  | .hush k | .hushAll k => some (0x2E, k)
  | .master k _ => some (0x2F, k)
  | .flashRead k _ _ => some (0x30, k)
  | .flashProgram k _ _ => some (0x31, k)
  | .flashErase k _ _ => some (0x32, k)
  | .noticeSetup k _ _ => some (0x33, k)
  | .noticeTake k => some (0x34, k)
  | .status k => some (0x35, k)
  | .softReset k => some (0x36, k)
  | .guidanceSample _ _ | .odometerPulse _ | .markerRead _ | .guideWord _ | .seatSample _ _ _ | .holdComplete
  | .permitExpiry | .releasePulseEnd _ | .estopInputCheck _ | .linkExpiry | .supplyReading _ | .dwellExpiry
  | .effectTick | .effectPhaseEnd _ | .beaconTxComplete | .flashGrant | .verifyBurstComplete | .refillComplete
  | .flashReadComplete | .flashReadDeadline | .hostStepComplete | .flashUnitTimeout | .outputSample
  | .fadeMasterTick | .voiceFadeEnd _ | .powerReset _ | .pinReset _ | .resetEnd | .frameOverrun | .fetch _
  | .frameCheckFailure _ => none

end Sys2Proof
end

