-- ==== Sys2Proof/Certificates/Slice0/Obligations.lean ====
section
/-! DEFINITION. The statements for the provers. A request statement says what `exec` answers for a request frame that
arrives in IDLE; `Answers` holds its response, its link effect and its frame. -/

open Sys2Proof Sys2Proof.Machine

/-! ### The step and every command -/

/-- A step runs the command at the front of the queue on the state with the queue's rest; with an empty queue a
microsecond passes (the model's choice, log 1). -/
def Obligations.StepRunsFront : Prop :=
  (∀ (c : Instr) (rest : List Instr) (s : State), step (s.setPending (c :: rest)) = exec c (s.setPending rest)) ∧
  (∀ s : State, s.pending = [] → step s = .next { s with now := s.now + 1 })

/-- No command refuses, and none faults but the completion of a flash unit whose bytes do not exist (log 16). -/
def Obligations.EveryCommandAnswers : Prop :=
  ∀ (c : Instr) (s : State), (∃ t, exec c s = .next t) ∨
    (∃ g, s.flp.grant = some g ∧ Config.flashSize < g.work.addr + g.work.size ∧
      exec c s = .fault (.flashAddress g.work.addr))

/-- A command leaves the queue and the clock as they are and never takes free values back. -/
def Obligations.CommandsKeepQueueAndClock : Prop :=
  ∀ (c : Instr) (s t : State), exec c s = .next t → t.pending = s.pending ∧ t.now = s.now ∧ s.free ≤ t.free

/-! ### Resets (09 §9.6) -/

/-- The state right after reset: the values the spec gives. -/
def Obligations.ResetValues : Prop :=
  let s := State.reset
  s.settings.words = [1500, 400, 800, 150, 300, 300, 3000, 60, 1000, 50, 3, 63736, 1800, 250, 4, 3000, 300, 160, 2600,
    100, 128, 8, 65535, 10000, 800, 200] ∧
  (s.pos.segments = [] ∧ s.pos.authority = none ∧ s.pos.active = none ∧ s.pos.path = [] ∧ s.pos.s = 0 ∧
    s.pos.sPrev = 0 ∧ s.pos.residue = 0 ∧ s.pos.lastPulse = none ∧ s.pos.markerSeen = false ∧ s.pos.missCount = 0) ∧
  (s.gdu.reading = none ∧ s.gdu.invalid = 0 ∧ s.gdu.ePrev = 0 ∧ s.gdu.delta = 0 ∧ s.gdu.yawTarget = s.gdu.yawCmd ∧
    s.gdu.recovering = false ∧ s.gdu.followCount = 0) ∧
  (s.msv.motion = .parked ∧ s.msv.reasons = [] ∧ s.msv.vCmd = 0 ∧ s.msv.window = [0, 0, 0, 0] ∧ s.msv.overspeed = 0 ∧
    s.msv.dwell = none ∧ s.msv.held = false ∧ s.msv.estopAsserted = false ∧ s.msv.estopLevel = none ∧
    s.msv.supplyLow = false ∧ s.msv.supplyRun = 0) ∧
  (s.rsm.seats = List.replicate 8 ⟨false, false, false, 0, 0, 0, .disabled⟩ ∧ s.rsm.permit = none ∧ s.rsm.hold = .idle) ∧
  (s.cue.cues = [] ∧ s.cue.lines = List.replicate 12 none ∧ s.cue.turntable = none ∧ s.cue.beacon = [] ∧
    s.cue.evaluated = none) ∧
  (s.flp.clips = [] ∧ s.flp.queue = [] ∧ s.flp.verifying = ⟨none, 0, 0xFFFFFFFF, 0⟩ ∧ s.flp.grant = none ∧ s.flp.lastHigh = 6 ∧
    s.flp.lowPrefersHost = false ∧ s.flp.slot.op = .none ∧ s.flp.slot.result = .none ∧ s.flp.read = none) ∧
  (s.snd.voices = List.replicate 6 Voice.reset ∧ s.snd.startCounter = 0 ∧ s.snd.m = 0 ∧ s.snd.loadShare = false ∧
    s.snd.loadRun = 0 ∧ s.snd.clipFront = false ∧ s.snd.clipRear = false) ∧
  (s.ntu.sources = Source.cleared 7 :: List.replicate 11 (Source.cleared 0) ∧ s.ntu.base = none ∧ s.ntu.mask = 0 ∧
    s.ntu.released = false) ∧
  (s.port.building = false ∧ s.port.held = none ∧ s.port.overrun = false)

/-- POWER_RESET and PIN_RESET hold every block at its reset values and every output at its safe level; the flash survives,
but for the bytes of a program or erase step that was cut off. -/
def Obligations.HardResetHoldsBlocks : Prop :=
  ∀ (s : State) (e : Int) (c : Instr), c = .powerReset e ∨ c = .pinReset e →
    ∃ t, exec c s = .next t ∧
      t.inReset = true ∧ t.settings = Settings.reset ∧ t.pos = Pos.reset ∧ t.gdu = Gdu.reset (max (-1800) (min 1800 e)) ∧
      t.msv = Msv.reset s.now ∧ t.rsm = Rsm.reset ∧ t.cue = CueUnit.reset ∧ t.snd = Snd.reset ∧ t.ntu = Ntu.reset ∧
      t.flp = Flp.reset t.flp.flash ∧
      t.port.held = none ∧ t.port.building = false ∧ t.port.overrun = false ∧
      (c = .powerReset e → t.port.cause = .power) ∧
      (c = .pinReset e → t.port.cause = if s.inReset = true ∧ s.port.cause = .power then .power else .pin) ∧
      t.speedLine = 0 ∧ t.brakeRelease = false ∧ (∀ i, t.solenoid i = false) ∧ (∀ i, t.effectLine i = false) ∧
      t.beaconOut = none ∧ t.lines.front = 0 ∧ t.lines.rear = 0 ∧ t.ntu.asserted = false ∧ t.ready = false ∧
      (Memory.wf s.flp.flash → ∀ a, (∀ g, s.flp.grant = some g → g.work.isStep = true →
          a < g.work.addr ∨ g.work.addr + g.work.size ≤ a) →
        Memory.read t.flp.flash a = Memory.read s.flp.flash a)

/-- While a reset holds the part every command but a hard reset and RESET_END leaves the state as it is (the model's
choice for events, log 2); RESET_END starts the part with the last link activity at this moment, the link expiry the link
timeout after it, and READY high. -/
def Obligations.ResetHoldsCommandsAndEnds : Prop :=
  ∀ s : State, s.inReset = true →
    (∀ c : Instr, (∀ e, c ≠ .powerReset e) → (∀ e, c ≠ .pinReset e) → c ≠ .resetEnd → exec c s = .next s) ∧
    (s.port.building = false → ∃ t, exec .resetEnd s = .next t ∧ t.ready = true ∧
      t = { s with
        inReset := false
        port := { s.port with lastLink := s.now }
        msv := { s.msv with linkExpiry := some (s.now + s.settings.linkTimeout * 1000) } })

/-- SOFT_RESET taken in PARKED or STOPPED: what each block keeps and clears. That the pass's counted miss is kept beside
the cleared miss count is the model's reading (log 20). -/
def Obligations.SoftResetClears : Prop :=
  ∀ (s : State) (key : Nat), s.listening → s.msv.motion = .parked ∨ s.msv.motion = .stopped →
    ∃ t, exec (.softReset key) s = .next t ∧
      t.port = { s.port with
        building := false, overrun := false, lastLink := s.now, cause := .soft, spiOut := []
        held := some ⟨.ok, 0x36, key, false, false, s.port.overrun, [3]⟩ } ∧
      SameBut [.port, .pos, .gdu, .msv, .rsm, .cue, .flp, .snd, .ntu] s t ∧
      t.pos = { s.pos with
        authority := none, path := s.pos.active.toList, sPrev := s.pos.s, residue := 0, missCount := 0 } ∧
      t.gdu = { s.gdu with
        ePrev := 0, invalid := 0, delta := 0, yawTarget := s.gdu.yawCmd, recovering := false, followCount := 0 } ∧
      t.msv = { s.heard with
        motion := .parked, reasons := [], vCmd := 0, window := [0, 0, 0, 0], overspeed := 0, dwell := none
        held := false } ∧
      t.rsm.permit = none ∧ t.rsm.hold = .idle ∧
      t.rsm.seats = s.rsm.seats.map (fun r => if r.enabled then { r with state := .unlatched } else r) ∧
      t.cue.lines = s.cue.lines.map (fun _ => none) ∧ t.cue.turntable = none ∧ t.cue.beacon = s.cue.beacon.take 1 ∧
      t.cue.beaconEnd = s.cue.beaconEnd ∧ t.cue.evaluated = s.cue.evaluated ∧
      (∀ k, Table.get t.cue.cues k = (Table.get s.cue.cues k).map (fun c =>
        { c with
          state := if c.state = .disarmed then .disarmed else .armed
          conflict := false, skipped := false, slow := none })) ∧
      t.flp.queue = s.flp.verifying.clip.toList ++ s.flp.queue ∧ t.flp.verifying.clip = none ∧
      t.flp.lastHigh = 6 ∧ t.flp.lowPrefersHost = false ∧ t.flp.slot = s.flp.slot ∧ t.flp.flash = s.flp.flash ∧
      (∀ k, Table.get t.flp.clips k = (Table.get s.flp.clips k).map (fun c =>
        if s.flp.verifying.clip = some k then { c with state := .queued } else c)) ∧
      t.snd = { s.snd with voices := List.replicate 6 Voice.reset } ∧
      t.ntu = { s.ntu with sources := s.ntu.sources.map (fun src => ⟨src.level, false, 0, none⟩) }

/-! ### The request port (09) -/

/-- Every request frame but a FLASH_READ is answered at once: the response echoes kind and key and carries the overrun
flag, which is then clear; the frame is link activity and takes LINK_LOST out of the set; 00h was driven during it. -/
def Obligations.EveryRequestAnswered : Prop :=
  ∀ (c : Instr) (s : State) (kind key : Nat), c.frame = some (kind, key) → s.listening →
    (∀ k a n, c ≠ .flashRead k a n) →
    ∃ t r, exec c s = .next t ∧ t.port.held = some r ∧ r.kind = kind ∧ r.key = key ∧ r.overrun = s.port.overrun ∧
      t.port.building = false ∧ t.port.overrun = false ∧ t.port.lastLink = s.now ∧
      t.msv.linkExpiry = some (s.now + s.settings.linkTimeout * 1000) ∧ StopReason.linkLost ∉ t.msv.reasons ∧
      ∀ i, t.spiByte i = 0

/-- A refused request changes no record, table, state or output: only the port's answer and what every good frame
does. -/
def Obligations.RefusedRequestChangesNothing : Prop :=
  ∀ (c : Instr) (s t : State) (r : Response) (kind key : Nat), c.frame = some (kind, key) → s.listening →
    exec c s = .next t → t.port.held = some r → r.status ≠ .ok → r.status ≠ .accepted →
    Answers s t [] r.status kind key false false r.payload ∧ (r.status ≠ .reasonsActive → r.payload = [])

/-- A request frame in BUILDING is discarded: the overrun flag is set and LINK OVERRUN raised, nothing else.
FRAME_CHECK_FAILURE in IDLE: the code of the first failed check, kind and key echoed; BAD_CRC raises LINK, and a frame past
the CRC check is link activity. -/
def Obligations.FailingFramesAnswered : Prop :=
  (∀ (c : Instr) (s : State), s.inReset = false →
    ((c.frame ≠ none ∨ ∃ b bs, c = .frameCheckFailure (b :: bs) ∧ b ≠ 0) ∧ s.port.building = true) ∨ c = .frameOverrun →
    ∃ t, exec c s = .next t ∧ SameBut [.port, .ntu] s t ∧ t.port = { s.port with overrun := true, spiOut := [] } ∧
      t.ntu = (s.raise .overrun).ntu) ∧
  ∀ (b : Byte) (bs : List Byte) (s : State), s.listening → b ≠ 0 →
    let kind := b.toNat
    let key := ((b :: bs).getD 2 0).toNat
    let v := frameVerdict (b :: bs)
    let u : State := { s with port := { s.port with spiOut := [] } }
    (v = .badLength → exec (.frameCheckFailure (b :: bs)) s =
      .next (u.respond kind key .badLength false false [])) ∧
    (v = .badCrc → exec (.frameCheckFailure (b :: bs)) s =
      .next ((u.raise .badCrc).respond kind key .badCrc false false [])) ∧
    (v = .badKind → ∃ t, exec (.frameCheckFailure (b :: bs)) s = .next t ∧
      Answers s t [] .badKind kind key false false []) ∧
    (v = .badClass → ∃ t, exec (.frameCheckFailure (b :: bs)) s = .next t ∧
      Answers s t [] .badClass kind key false false []) ∧
    (v = .badPayload → ∃ t, exec (.frameCheckFailure (b :: bs)) s = .next t ∧
      Answers s t [] .badLength kind key false false []) ∧
    ((b :: bs).length < 8 → v = .badLength)

/-- FETCH of `n` bytes clocks out the response from its first byte, 00h beyond its end; the response is consumed exactly
when it was clocked out whole, and NO_RESPONSE answers when none is held. -/
def Obligations.FetchClocksResponse : Prop :=
  ∀ (n : Nat) (s : State), s.inReset = false →
    ∃ t, exec (.fetch (n + 1)) s = .next t ∧ SameBut [.port] s t ∧ t.port.spiOut.length = n ∧
      (∀ r, s.port.held = some r →
        (∀ i, i < n → t.spiByte i = r.bytes.getD i 0) ∧
        (n < 8 + r.payload.length → t.port = { s.port with spiOut := t.port.spiOut }) ∧
        (8 + r.payload.length ≤ n → t.port = { s.port with held := none, spiOut := t.port.spiOut })) ∧
      (s.port.held = none → t.port = { s.port with spiOut := t.port.spiOut } ∧
        ∀ i, i < n → t.spiByte i = (Response.bytes ⟨.noResponse, 0, 0, false, false, s.port.overrun, []⟩).getD i 0)

/-- STATUS: the snapshot is answered and the bus clip flags cleared; nothing else changes. That its 65 bytes are those of
10 Table 10-13, without the voice and holder owners of which R92 speaks, is the model's reading (log 31). -/
def Obligations.StatusSnapshot : Prop :=
  ∀ (s : State) (key : Nat), s.listening → -32768 ≤ s.measuredSpeed ∧ s.measuredSpeed ≤ 32767 →
    ∃ t, exec (.status key) s = .next t ∧
      Answers s t [.snd] .ok 0x35 key false false (s.hearFrame.statusBytes (s16 s.measuredSpeed)) ∧
      t.snd = { s.snd with clipFront := false, clipRear := false } ∧
      (s.Shaped → (s.hearFrame.statusBytes (s16 s.measuredSpeed)).length = 65)

/-! ### The settings record (09 §9.4) -/

/-- PUT and AMEND SETTINGS taken at rest: the carried words, clamped, are stored, and the blocks act on the changes;
an AMEND that carries none is answered with the record and changes nothing. -/
def Obligations.SettingsRequests : Prop :=
  ∀ (s : State) (ws : List Nat) (presence : Nat), s.listening → s.msv.motion = .parked ∨ s.msv.motion = .stopped →
    ws.length = 26 →
    (stopClipOk ws = true → (settingsOf ws).yawMin ≤ (settingsOf ws).yawMax →
      ∃ t, exec (.putSettings 0 ws) s = .next t ∧
        Answers s t [.settings, .gdu, .msv, .snd] .ok 0x01 0 (decide ((settingsOf ws).words ≠ ws)) false
          (settingsOf ws).bytes ∧
        settingsStored (settingsOf ws) s t) ∧
    (presence % 2 ^ 26 = 0 → ∃ t, exec (.amendSettings 0 presence ws) s = .next t ∧
      Answers s t [] .ok 0x03 0 false false s.settings.bytes) ∧
    (let amended := overWords presence ws s.settings.words
     presence % 2 ^ 26 ≠ 0 → stopClipOk amended = true → (settingsOf amended).yawMin ≤ (settingsOf amended).yawMax →
      ∃ t, exec (.amendSettings 0 presence ws) s = .next t ∧
        Answers s t [.settings, .gdu, .msv, .snd] .ok 0x03 0 (decide ((settingsOf amended).words ≠ amended)) false
          (settingsOf amended).bytes ∧
        settingsStored (settingsOf amended) s t)

/-- No command but PUT and AMEND SETTINGS, MASTER and the POWER and PIN resets changes a setting, and MASTER changes the
host master gain only. -/
def Obligations.SettingsKept : Prop :=
  ∀ (c : Instr) (s t : State), exec c s = .next t →
    (∀ k ws, c ≠ .putSettings k ws) → (∀ k p ws, c ≠ .amendSettings k p ws) → (∀ e, c ≠ .powerReset e) →
    (∀ e, c ≠ .pinReset e) →
    t.settings = { s.settings with masterGain := t.settings.masterGain } ∧
    ((∀ k g, c ≠ .master k g) → t.settings = s.settings)

/-! ### Rules over every command -/

/-- The turntable's command moves at a guidance sample only, with every enabled seat VERIFIED, outside PARKED and E_STOP,
by at most the yaw rate; only the POWER and PIN resets set it otherwise. -/
def Obligations.TurntableMovesOnlyWhenSafe : Prop :=
  ∀ (c : Instr) (s t : State), exec c s = .next t → t.gdu.yawCmd ≠ s.gdu.yawCmd →
    (∃ e, c = .powerReset e ∨ c = .pinReset e) ∨
    ((∃ e i, c = .guidanceSample e i) ∧ s.inReset = false ∧ s.allVerified = true ∧ s.msv.motion ≠ .parked ∧
      s.msv.motion ≠ .eStop ∧ (t.gdu.yawCmd - s.gdu.yawCmd).natAbs ≤ s.settings.yawRate)

/-- The speed command rises at a guidance sample only, by at most its share of the acceleration; any other command leaves
it or sets it to 0; and a sample after which the vehicle still moves lowers it by at most its share of the service
deceleration. -/
def Obligations.SpeedChangesOnlyByRamp : Prop :=
  ∀ (c : Instr) (s t : State), exec c s = .next t →
    (t.msv.vCmd ≤ s.msv.vCmd ∨
      ((∃ e i, c = .guidanceSample e i) ∧ t.msv.vCmd ≤ s.msv.vCmd + max 1 (s.settings.aAcc / 100))) ∧
    (t.msv.vCmd = s.msv.vCmd ∨ t.msv.vCmd = 0 ∨ ∃ e i, c = .guidanceSample e i) ∧
    (t.msv.motion.moving = true → s.msv.vCmd - max 1 (s.settings.aService / 100) ≤ t.msv.vCmd)

/-- Every step keeps the motion and restraint rules: an E reason means E_STOP or PARKED, no speed without a moving state,
and every enabled seat held closed while the vehicle moves. -/
def Obligations.MotionSafeKept : Prop := Kept State.MotionSafe

/-- Every step keeps the route: path, authority and position agree, and the authority point lies ahead. -/
def Obligations.RouteSoundKept : Prop := Kept State.RouteSound

/-- Every step keeps the clip store and the voices sound: a sounding voice plays a READY clip, and m its ceilings. -/
def Obligations.VoicesSoundKept : Prop := Kept State.SoundSound

/-- Every step keeps the notice records sound, and source 1 at level 7. -/
def Obligations.NoticesSoundKept : Prop := Kept State.NoticesSound

/-- Every step keeps the sizes of the fixed tables and the canonical form of the keyed tables and the flash. -/
def Obligations.ShapeKept : Prop := Kept State.Shaped

/-- The invariants hold at reset. -/
def Obligations.ResetMeetsInvariants : Prop :=
  State.reset.Shaped ∧ State.reset.MotionSafe ∧ State.reset.RouteSound ∧ State.reset.SoundSound ∧
  State.reset.NoticesSound

/-! ### Position and guidance (01, 02) -/

/-- ODOMETER_PULSE and GUIDE_WORD: a qualified edge moves the residue by the pitch, one too soon or without an active
segment does nothing; a well-formed word replaces the reading, a malformed one is discarded. -/
def Obligations.SensorEvents : Prop :=
  ∀ (s : State) (forward : Bool) (w : GuideWord), s.inReset = false →
    (s.pos.active ≠ none → (∀ p, s.pos.lastPulse = some p → p + s.settings.rejector ≤ s.now) →
      exec (.odometerPulse forward) s = .next { s with pos := { s.pos with
        lastPulse := some s.now
        residue := s.pos.residue + (if forward then (s.settings.pitch : Int) else -(s.settings.pitch : Int)) } }) ∧
    (∀ p, s.pos.lastPulse = some p → s.now < p + s.settings.rejector → exec (.odometerPulse forward) s = .next s) ∧
    (s.pos.active = none → exec (.odometerPulse forward) s = .next s) ∧
    exec (.guideWord (some w)) s =
      .next { s with gdu := { s.gdu with reading := some ⟨w.offset, w.quality, s.now⟩ } } ∧
    exec (.guideWord none) s = .next s

/-- MARKER_READ: a correction sets s to the marker's offset; a mismatch adds POSITION, raises its notice and leaves the
position; code 0, a second read of a marker already seen and a read with nothing placed are discarded. -/
def Obligations.MarkerReads : Prop :=
  ∀ (s : State) (code : Nat), s.inReset = false →
    (s.pos.active = none → exec (.markerRead code) s = .next s) ∧
    exec (.markerRead 0) s = .next s ∧
    ∀ a g, s.activeSegment = some (a, g) → code ≠ 0 →
      (∀ m, g.marker = some m → m.code = code → s.pos.markerSeen = true → exec (.markerRead code) s = .next s) ∧
      (∀ m, g.marker = some m → m.code = code → s.pos.markerSeen = false → s.pos.s ≤ m.offset + m.tolerance →
        m.offset ≤ s.pos.s + m.tolerance → m.offset < g.length →
        ∃ t, exec (.markerRead code) s = .next t ∧ SameBut [.pos, .gdu, .msv, .cue, .flp, .snd, .ntu, .free] s t ∧
          t.pos.s = m.offset ∧ t.pos.sPrev = s.pos.s ∧ t.pos.residue = 0 ∧ t.pos.markerSeen = true ∧
          t.pos.missCount = 0 ∧ t.pos.active = some a ∧
          (s.pos.authority = none → t.pos.path = s.pos.path) ∧
          (∀ u, s.pos.authority = some u → u.segment = a → u.offset ≤ m.offset →
            t.pos.authority = none ∧ .authorityOverrun ∈ t.msv.reasons)) ∧
      ((∀ m, g.marker = some m → m.code = code → s.pos.markerSeen = false ∧ ¬(s.pos.s ≤ m.offset + m.tolerance ∧
          m.offset ≤ s.pos.s + m.tolerance ∧ m.offset < g.length)) →
        s.ntu.sources.length = 12 →
        ∃ t, exec (.markerRead code) s = .next t ∧ SameBut [.msv, .ntu] s t ∧ .position ∈ t.msv.reasons ∧
          t.source 5 = Source.record (.mismatch a s.pos.s code) (s.source 5) ∧
          (s.msv.motion.moving = true → .position ∉ s.msv.reasons → t.msv.motion = .safeStop) ∧
          (s.msv.motion.moving = false → t.msv.motion = s.msv.motion))

/-- GUIDANCE_SAMPLE writes δ and the yaw command to their lines, brings e_prev, the invalid count and the speed window up
to date, and leaves settings, seats, port and flash contents; δ and the yaw command follow the steering law and the
turntable rule unless the third invalid reading adds GUIDE_LOST, which holds both; follow-error supervision counts its
runs and adds or removes YAW_FOLLOW at the fiftieth sample; load-share counts its runs, and m falls to the master target
when it becomes ACTIVE. -/
def Obligations.GuidanceSampleActs : Prop :=
  ∀ (s : State) (encoder : Int) (current : Nat), s.inReset = false →
    let p := s.positionStep.1
    ∃ t, exec (.guidanceSample encoder current) s = .next t ∧
      SameBut [.pos, .gdu, .msv, .cue, .flp, .snd, .ntu, .lines, .free] s t ∧
      t.pos = p.pos ∧ t.gdu.ePrev = p.guideOffset ∧
      t.gdu.invalid = (if p.guideValid then 0 else min 3 (s.gdu.invalid + 1)) ∧
      t.lines = { s.lines with steer := t.gdu.delta, yaw := t.gdu.yawCmd, encoder := encoder } ∧
      t.msv.window = s.msv.window.drop 1 ++ [s.positionStep.2] ∧
      t.flp = { s.flp with grant := t.flp.grant } ∧
      (p.guideValid = true ∨ s.gdu.invalid < 2 ∨ p.msv.motion = .parked ∨ .guideLost ∈ p.msv.reasons →
        (p.msv.motion = .parked → t.gdu.delta = 0) ∧
        (p.msv.motion = .stopped ∨ p.msv.motion = .eStop → t.gdu.delta = s.gdu.delta) ∧
        (∀ a g, p.msv.motion.moving = true → p.activeSegment = some (a, g) →
          t.gdu.delta = steerLaw s.settings g p.guideOffset s.gdu.ePrev s.gdu.delta) ∧
        t.gdu.yawCmd = (if s.allVerified = true ∧ p.msv.motion ≠ .eStop ∧ p.msv.motion ≠ .parked then
          stepToward s.gdu.yawCmd p.gdu.yawTarget s.settings.yawRate else s.gdu.yawCmd)) ∧
      (p.guideValid = false → 2 ≤ s.gdu.invalid → p.msv.motion ≠ .parked → .guideLost ∈ t.msv.reasons ∧
        (.guideLost ∉ p.msv.reasons →
          t.msv.motion = .eStop ∧ t.gdu.delta = s.gdu.delta ∧ t.gdu.yawCmd = s.gdu.yawCmd)) ∧
      (let out := decide (50 < (encoder - t.gdu.yawCmd).natAbs)
       t.gdu.followCount = (if out = s.gdu.recovering ∨ 49 ≤ s.gdu.followCount then 0 else s.gdu.followCount + 1) ∧
       t.gdu.recovering = (if out ≠ s.gdu.recovering ∧ 49 ≤ s.gdu.followCount then !s.gdu.recovering
         else s.gdu.recovering) ∧
       (¬(out ≠ s.gdu.recovering ∧ 49 ≤ s.gdu.followCount) →
         (.yawFollow ∈ t.msv.reasons ↔ .yawFollow ∈ s.msv.reasons)) ∧
       (out = true → s.gdu.recovering = false → 49 ≤ s.gdu.followCount → .yawFollow ∈ t.msv.reasons ∧
         (.yawFollow ∉ s.msv.reasons → t.msv.motion ≠ .running ∧ t.msv.motion ≠ .dwell)) ∧
       (out = false → s.gdu.recovering = true → 49 ≤ s.gdu.followCount → .yawFollow ∉ t.msv.reasons)) ∧
      (s.snd.loadShare = false →
        t.snd.loadShare = decide (s.settings.loadThreshold < current ∧ 2 ≤ s.snd.loadRun) ∧
        t.snd.loadRun = if s.settings.loadThreshold < current ∧ s.snd.loadRun < 2 then s.snd.loadRun + 1 else 0) ∧
      (s.snd.loadShare = true →
        t.snd.loadShare = !decide (current < s.settings.loadThreshold - s.settings.loadHysteresis ∧ 9 ≤ s.snd.loadRun) ∧
        t.snd.loadRun = if current < s.settings.loadThreshold - s.settings.loadHysteresis ∧ s.snd.loadRun < 9 then
          s.snd.loadRun + 1 else 0) ∧
      t.snd.m = if s.snd.loadShare = false ∧ t.snd.loadShare = true then min s.snd.m t.masterTarget else s.snd.m

/-- The position step of a guidance sample: s moves by the whole millimetres of the residue, goes over to the usable
successor at the end of a segment, twice where the step is long enough, and clamps with POSITION where there is none. A
passed authority point retires the authority with AUTHORITY_OVERRUN; a passed miss point is counted once per pass (log 20)
with MISSED, and the second in a row adds POSITION. -/
def Obligations.GuidanceSampleMovesVehicle : Prop :=
  ∀ (s : State) (encoder : Int) (current a : Nat) (g : Segment), s.inReset = false → s.activeSegment = some (a, g) →
    s.ntu.sources.length = 12 →
    let q := s.pos.residue.tdiv 1000
    let x := ((s.pos.s : Int) + q).toNat
    let residue := if (s.pos.s : Int) + q < 0 then 0 else s.pos.residue - q * 1000
    let unseen := !s.pos.markerSeen && !s.pos.missCounted
    let passes (k y : Nat) : Bool := s.pos.authority.any (fun u => decide (u.segment = k ∧ u.offset ≤ y))
    let next (path : List Nat) (k : Nat) : List Nat := if 1 < path.length then path.drop 1 else [k]
    ∃ t, exec (.guidanceSample encoder current) s = .next t ∧ SameBut [.pos, .gdu, .msv, .cue, .flp, .snd, .ntu, .lines,
        .free] s t ∧
      (let overrun (passed : Bool) : Prop := passed = true → .authorityOverrun ∈ t.msv.reasons ∧
         (.authorityOverrun ∉ s.msv.reasons → s.msv.motion ≠ .parked → t.msv.motion = .eStop)
       let misses (missed : Bool) : Prop := missed = true → t.pos.missCount = 2 → .position ∈ t.msv.reasons
       (x < g.length →
         let passed := passes a x
         let missed := missPassed g unseen s.pos.s x false
         t.pos = { s.pos with
           s := x, sPrev := s.pos.s, residue := residue
           authority := if passed then none else s.pos.authority, path := if passed then [a] else s.pos.path
           missCount := countMiss missed s.pos.missCount, missCounted := s.pos.missCounted || missed } ∧
         overrun passed ∧ misses missed ∧ t.source 5 = noteMiss missed a s.pos.missCount (s.source 5)) ∧
       (successor s.pos.segments g = none → g.length ≤ x →
         let passed := passes a x
         let missed := missPassed g unseen s.pos.s x true
         t.pos = { s.pos with
           s := g.length - 1, sPrev := s.pos.s, residue := 0
           authority := if passed then none else s.pos.authority, path := if passed then [a] else s.pos.path
           missCount := countMiss missed s.pos.missCount, missCounted := s.pos.missCounted || missed } ∧
         overrun passed ∧ .position ∈ t.msv.reasons ∧
         t.source 5 = Source.record (.clamp a (g.length - 1)) (noteMiss missed a s.pos.missCount (s.source 5))) ∧
       (∀ b g', successor s.pos.segments g = some b → Table.get s.pos.segments b = some g' → g.length ≤ x →
         let y := x - g.length
         let missed := missPassed g unseen s.pos.s x true
         let n := countMiss missed s.pos.missCount
         let noted := noteMiss missed a s.pos.missCount (s.source 5)
         (y < g'.length →
           let passed := passes a x || passes b y
           let again := missPassed g' true 0 y false
           t.pos = { s.pos with
             s := y, sPrev := 0, residue := residue, markerSeen := false, active := some b
             authority := if passed then none else s.pos.authority, path := if passed then [b] else next s.pos.path b
             missCount := countMiss again n, missCounted := again } ∧
           overrun passed ∧ misses (missed || again) ∧ t.source 5 = noteMiss again b n noted) ∧
         (∀ c g'', 0 < g.length → successor s.pos.segments g' = some c → Table.get s.pos.segments c = some g'' →
           g'.length ≤ y → y - g'.length < g''.length →
           let z := y - g'.length
           let passed := passes a x || passes b y || passes c z
           let left := g'.marker.isSome
           let again := missPassed g'' true 0 z false
           t.pos = { s.pos with
             s := z, sPrev := 0, residue := residue, markerSeen := false, active := some c
             authority := if passed then none else s.pos.authority
             path := if passed then [c] else next (next s.pos.path b) c
             missCount := countMiss again (countMiss left n), missCounted := again } ∧
           overrun passed ∧ misses (missed || left || again) ∧
           t.source 5 = noteMiss again c (countMiss left n) (noteMiss left b n noted))))

/-- The speed stage of a guidance sample: in RUNNING v_cmd ramps toward the least term of the ceiling, in DWELL and
SAFE_STOP toward 0, elsewhere it is 0; the third consecutive over-speed sample adds OVERSPEED, and a v_cmd above v_auth and
the tolerance AUTHORITY_OVERRUN; at 0 a RUNNING vehicle with v_auth 0 is held, with one notice, a dwell passes to HOLDING
and SAFE_STOP to STOPPED; isqrt(n), which the terms use, is the largest r with r² ≤ n. -/
def Obligations.SpeedStageRamps : Prop :=
  (∀ n : Nat, isqrt n * isqrt n ≤ n ∧ n < (isqrt n + 1) * (isqrt n + 1)) ∧
  ∀ (s : State) (encoder : Int) (current : Nat), s.inReset = false →
    let p := s.positionStep.1
    let w := p.guide encoder
    let up := max 1 (s.settings.aAcc / 100)
    let down := max 1 (s.settings.aService / 100)
    let measured := 25 * (s.msv.window.drop 1 ++ [s.positionStep.2]).sum
    ∃ t, exec (.guidanceSample encoder current) s = .next t ∧
      (t.msv.motion = .running → ∃ c, c ∈ p.ceilingTerms ∧ (∀ x ∈ p.ceilingTerms, c ≤ x) ∧
        t.msv.vCmd = if s.msv.vCmd ≤ c then min c (s.msv.vCmd + up) else max c (s.msv.vCmd - down)) ∧
      (t.msv.motion = .dwell ∨ t.msv.motion = .safeStop → t.msv.vCmd = s.msv.vCmd - down) ∧
      (t.msv.motion.moving = false → t.msv.vCmd = 0) ∧
      (p.guideValid = true → p.msv.motion ≠ .parked → p.msv.motion ≠ .eStop →
        measured > ((s.msv.vCmd + s.settings.overspeedTol : Nat) : Int) → 2 ≤ s.msv.overspeed →
        .overspeed ∈ t.msv.reasons ∧ (.overspeed ∉ p.msv.reasons → t.msv.motion = .eStop)) ∧
      (w.msv.motion = .parked ∨ w.msv.motion = .eStop → t.msv.overspeed = 0) ∧
      (w.msv.motion ≠ .parked → t.msv.motion ≠ .eStop → s.msv.overspeed < 2 → t.msv.overspeed =
        if measured > ((s.msv.vCmd + s.settings.overspeedTol : Nat) : Int) then s.msv.overspeed + 1 else 0) ∧
      (w.msv.motion.moving = true → p.vAuth + s.settings.overspeedTol < w.msv.vCmd →
        .authorityOverrun ∉ w.msv.reasons →
        t.msv.motion = .eStop ∧ t.msv.vCmd = 0 ∧ (w.msv.overspeed < 2 → .authorityOverrun ∈ t.msv.reasons)) ∧
      (t.msv.motion = .running → s.ntu.sources.length = 12 →
        (t.msv.vCmd = 0 → p.vAuth = 0 → t.msv.held = true ∧
          t.source 4 = if s.msv.held = true then s.source 4 else Source.record .held (s.source 4)) ∧
        (t.msv.vCmd = 0 → 0 < p.vAuth → t.msv.held = s.msv.held ∧ t.source 4 = s.source 4) ∧
        (0 < t.msv.vCmd → t.msv.held = false ∧ t.source 4 = s.source 4)) ∧
      (t.msv.motion = .dwell → ∀ d, p.msv.dwell = some d →
        (∀ ms, d = .ramping ms → t.msv.vCmd = 0 → t.msv.dwell = some (.holding (s.now + ms * 1000))) ∧
        (∀ ms, d = .ramping ms → 0 < t.msv.vCmd → t.msv.dwell = some d) ∧
        (∀ u, d = .holding u → t.msv.dwell = some d)) ∧
      (w.msv.motion = .safeStop → t.msv.motion ≠ .eStop → s.ntu.sources.length = 12 →
        (s.msv.vCmd ≤ down → t.msv.motion = .stopped ∧ t.brakeRelease = false ∧
          t.source 3 = Source.record (.motion .stopped) (w.source 3)) ∧
        (down < s.msv.vCmd → t.msv.motion = .safeStop ∧ t.source 3 = w.source 3))

/-! ### Restraints (03) -/

/-- A seat in VERIFIED at a seat sample: a good reading leaves it, DISAGREE makes it SUSPECT with count 1 and recovery 0,
OPENED makes it FAULT with reason OPENED, SEAT_FAULT and, out of PARKED, E_STOP; only a release that fires in the same
sample makes it RELEASING instead. -/
def Obligations.VerifiedSeatReadings : Prop :=
  ∀ (s : State) (rs : List SeatReading) (rela relb : Bool) (i : Nat) (r : SeatReading), s.inReset = false →
    s.rsm.seats.length = 8 → rs.length = 8 → i < 8 → rs[i]? = some r → (s.seat i).state = .verified →
    ∃ t, exec (.seatSample rs rela relb) s = .next t ∧
      ((rela = true ∨ relb = true ∨ s.rsm.permit = none) ∨ (t.seat i).state.energised = false →
        ((s.seat i).classify r = .good → (t.seat i).state = .verified) ∧
        ((s.seat i).classify r = .disagree → (t.seat i).state = .suspect 1 0) ∧
        ((s.seat i).classify r = .opened → (t.seat i).state = .fault .opened)) ∧
      ((s.seat i).classify r = .opened → .seatFault ∈ t.msv.reasons ∧
        (.seatFault ∉ s.msv.reasons → s.msv.motion ≠ .parked → t.msv.motion = .eStop))

/-- SEAT_SAMPLE with a contact open: every seat takes its step of the seat state machine, row by row of Table 3-2, with a SEAT
notice for each change of state in ascending index. The hold is IDLE. A seat that enters FAULT adds SEAT_FAULT, which enters
E_STOP out of PARKED; where none does, nothing but the seats and their notices changes. -/
def Obligations.SeatSampleRunsSeats : Prop :=
  ∀ (s : State) (rs : List SeatReading) (rela relb : Bool), s.inReset = false → s.rsm.seats.length = 8 → rs.length = 8 →
    rela = true ∨ relb = true →
    ∃ t, exec (.seatSample rs rela relb) s = .next t ∧
      SameBut [.rsm, .msv, .cue, .flp, .snd, .ntu, .free] s t ∧
      t.rsm.hold = .idle ∧ t.rsm.permit = s.rsm.permit ∧ t.rsm.seats.length = 8 ∧
      (∀ i r, rs[i]? = some r →
        t.seat i = { s.seat i with state := (s.seat i).state.next ((s.seat i).classify r) } ∧
        (let kind := (s.seat i).classify r
         let old := (s.seat i).state
         let new := (t.seat i).state
         (old = .unlatched → new = if kind = .good then .latching 1 else .unlatched) ∧
         (∀ n, old = .latching n →
           new = if kind = .good then (if n + 1 < 4 then .latching (n + 1) else .verified) else .unlatched) ∧
         (old = .verified → (kind = .good → new = .verified) ∧ (kind = .disagree → new = .suspect 1 0) ∧
           (kind = .opened → new = .fault .opened)) ∧
         (∀ n m, old = .suspect n m →
           (kind = .good → new = if m + 1 < 2 then .suspect n (m + 1) else .verified) ∧
           (kind = .disagree → new = if n + 1 < 3 then .suspect (n + 1) 0 else .fault .disagree) ∧
           (kind = .opened → new = .fault .opened)) ∧
         (old = .disabled ∨ (∃ f, old = .fault f) ∨ (∃ u, old = .releasing u) → new = old))) ∧
      (s.ntu.sources.length = 12 → t.source 2 =
        ((List.range 8).filter (fun i => (t.seat i).state.code ≠ (s.seat i).state.code)).foldl
          (fun src i => Source.record (.seat i (t.seat i).state) src) (s.source 2)) ∧
      ((∃ i f, (t.seat i).state = .fault f ∧ (s.seat i).state ≠ .fault f) →
        .seatFault ∈ t.msv.reasons ∧
        (.seatFault ∉ s.msv.reasons → s.msv.motion ≠ .parked → t.msv.motion = .eStop)) ∧
      ((∀ i f, (t.seat i).state = .fault f → (s.seat i).state = .fault f) →
        SameBut [.rsm, .ntu] s t)

/-- The contact hold at a seat sample with both contacts closed: it begins, goes on below 2000 ms, completes once with
DENIED where no permit stands, and stays HELD. -/
def Obligations.ContactHold : Prop :=
  ∀ (s : State) (rs : List SeatReading), s.inReset = false →
    ∃ t, exec (.seatSample rs false false) s = .next t ∧
      (s.rsm.hold = .idle → t.rsm.hold = .timing s.now) ∧
      (∀ b, s.rsm.hold = .timing b → s.now < b + 2000000 → t.rsm.hold = .timing b) ∧
      (∀ b, s.rsm.hold = .timing b → b + 2000000 ≤ s.now → t.rsm.hold = .held ∧
        (s.rsm.permit = none → t.rsm.permit = none ∧
          (s.ntu.sources.length = 12 → t.source 10 = Source.record (.release .denied) (s.source 10)))) ∧
      (s.rsm.hold = .held → t.rsm.hold = .held)

/-- HOLD_COMPLETE, PERMIT_EXPIRY and RELEASE_PULSE_END, each when due: HOLD_COMPLETE is the seat sample that finds every line
as the sample before it did (log 3), and where that is both contacts closed, after its seats a release fires in STOPPED or
E_STOP at a station with a permit and is DENIED otherwise; an expired permit is discarded; a pulse's end opens the seat. -/
def Obligations.ReleaseEvents : Prop :=
  ∀ s : State, s.inReset = false →
    (∀ b, s.rsm.hold = .timing b → b + 2000000 ≤ s.now →
      let v := s.rsm.sampled
      let u := s.sampleSeats 0 v.readings
      exec .holdComplete s = exec (.seatSample v.readings v.relaHigh v.relbHigh) s ∧
      (v.relaHigh = false → v.relbHigh = false →
        (∀ p, s.rsm.permit = some p → u.msv.motion = .stopped ∨ u.msv.motion = .eStop → s.atStation = true →
          ∃ t, exec .holdComplete s = .next t ∧ SameBut [.rsm, .ntu] u t ∧ t.rsm.permit = none ∧ t.rsm.hold = .held ∧
            (∀ i, i < u.rsm.seats.length → t.seat i =
              if p.mask.testBit i = true ∧ (u.seat i).enabled = true then
                { u.seat i with state := .releasing (s.now + s.settings.releasePulse * 1000) } else u.seat i) ∧
            (s.ntu.sources.length = 12 → t.source 10 = Source.record (.release .done) (s.source 10))) ∧
        (s.rsm.permit = none ∨ ¬(u.msv.motion = .stopped ∨ u.msv.motion = .eStop) ∨ s.atStation = false →
          exec .holdComplete s =
            .next (State.raise (.release .denied) { u with rsm := { u.rsm with hold := .held } })))) ∧
    (∀ p, s.rsm.permit = some p → p.expiry ≤ s.now →
      exec .permitExpiry s = .next (State.raise (.release .expired) { s with rsm := { s.rsm with permit := none } })) ∧
    (∀ i u, (s.seat i).state = .releasing u → u ≤ s.now →
      ∃ t, exec (.releasePulseEnd i) s = .next t ∧ SameBut [.rsm, .ntu] s t ∧
        t.seat i = { s.seat i with state := .unlatched } ∧ t.solenoid i = false ∧ (∀ j, j ≠ i → t.seat j = s.seat j) ∧
        t.rsm.permit = s.rsm.permit ∧ t.rsm.hold = s.rsm.hold ∧ t.ntu = (s.raise (.seat i .unlatched)).ntu)

/-! ### Motion (04) -/

/-- A stop reason added to the set: an E reason enters E_STOP from STOPPED, RUNNING, DWELL and SAFE_STOP with v_cmd 0,
every effect line off, every PLAYING voice below level 3 faded, the stop announcement and an ESTOP notice, and only joins in
PARKED and E_STOP; an S reason enters SAFE_STOP from RUNNING and DWELL; a reason present changes nothing. -/
def Obligations.ReasonsAct : Prop :=
  ∀ (s : State) (r : StopReason),
    (r ∈ s.msv.reasons → s.addReason r = s) ∧
    (r ∉ s.msv.reasons →
      (∀ x, x ∈ (s.addReason r).msv.reasons ↔ x = r ∨ x ∈ s.msv.reasons) ∧
      (r.isE = true → s.msv.motion = .parked ∨ s.msv.motion = .eStop →
        SameBut [.msv, .ntu] s (s.addReason r) ∧
        (s.addReason r).msv = { s.msv with reasons := (s.addReason r).msv.reasons } ∧
        (s.addReason r).ntu = (s.raise (.estop r)).ntu) ∧
      (r.isE = true → s.msv.motion ≠ .parked → s.msv.motion ≠ .eStop →
        let t := s.addReason r
        SameBut [.msv, .cue, .flp, .snd, .ntu, .free] s t ∧
        t.msv = { s.msv with
          motion := .eStop, reasons := t.msv.reasons, vCmd := 0, dwell := none, held := false, overspeed := 0 } ∧
        t.cue = { s.cue with lines := s.cue.lines.map (fun _ => none) } ∧
        (∀ v ∈ t.snd.voices, v.state = .playing → 3 ≤ v.level) ∧
        (s.ntu.sources.length = 12 → t.source 1 = Source.record (.estop r) (s.source 1)) ∧
        (let faded := s.snd.voices.map (fun v =>
           if v.state = .playing ∧ v.level < 3 then { v with state := .fading } else v)
         let silent (n : State) : Prop :=
           t.snd = { s.snd with voices := faded } ∧ t.flp = s.flp ∧ t.free = s.free ∧ t.ntu = (n.raise (.estop r)).ntu
         (s.settings.stopClip = none → silent s) ∧
         ∀ id, s.settings.stopClip = some id →
           (s.readyClip id = none → silent (s.raise (.voiceRefused id false))) ∧
           ∀ c, s.readyClip id = some c →
             ((∀ v ∈ s.snd.voices, v.state = .playing ∧ 3 ≤ v.level) → silent (s.raise (.voiceRefused id true))) ∧
             ∀ i, chooseVoice faded 3 = some i →
               t.snd = { s.snd with
                 voices := faded.set i ⟨.playing, some id, 0, 0, false, ⟨true, true⟩, c.gain, c.gain, 3, .stopCall,
                   s.snd.startCounter, false, [], false, false,
                   if c.length = 0 then none else some ⟨0, min 128 c.length⟩⟩
                 startCounter := t.snd.startCounter } ∧
               (s.snd.startCounter + 1 < 2 ^ 48 →
                 t.snd.startCounter = s.snd.startCounter + 1 ∧ t.free = s.free) ∧
               t.flp = { s.flp with grant := t.flp.grant } ∧
               t.ntu = State.ntu (State.raise (.estop r)
                 (if (s.voice i).state = .idle then s else s.raise (.voiceEnded i (s.voice i).owner))))) ∧
      (r.isE = false → s.msv.motion = .running ∨ s.msv.motion = .dwell →
        SameBut [.msv, .ntu] s (s.addReason r) ∧
        (s.addReason r).msv = { s.msv with
          motion := .safeStop, reasons := (s.addReason r).msv.reasons, dwell := none, held := false } ∧
        (r = .hostStop → (s.addReason r).ntu = s.ntu) ∧
        (r ≠ .hostStop → (s.addReason r).ntu = (s.raise (.motion .safeStop)).ntu)) ∧
      (r.isE = false → s.msv.motion ≠ .running → s.msv.motion ≠ .dwell →
        SameBut [.msv] s (s.addReason r) ∧
        (s.addReason r).msv = { s.msv with reasons := (s.addReason r).msv.reasons }))

/-- ESTOP_INPUT_CHECK, LINK_EXPIRY, SUPPLY_READING and DWELL_EXPIRY: two equal levels qualify the input and ASSERTED adds
ESTOP_INPUT; a silent link stops a moving vehicle; four consecutive readings change supply-low; a dwell that is over
returns to RUNNING. -/
def Obligations.MotionEvents : Prop :=
  ∀ s : State, s.inReset = false →
    (∀ high : Bool, ∃ t, exec (.estopInputCheck high) s = .next t ∧
      SameBut [.msv, .cue, .flp, .snd, .ntu, .free] s t ∧ t.msv.estopLevel = some high ∧
      t.msv.estopAsserted = (if s.msv.estopLevel = some high then !high else s.msv.estopAsserted) ∧
      (t.msv.estopAsserted = true → .estopInput ∈ t.msv.reasons ∧
        (.estopInput ∉ s.msv.reasons → s.msv.motion ≠ .parked → t.msv.motion = .eStop)) ∧
      (t.msv.estopAsserted = false → SameBut [.msv] s t ∧ t.msv.reasons = s.msv.reasons ∧
        t.msv.motion = s.msv.motion)) ∧
    (∀ e, s.msv.linkExpiry = some e → e ≤ s.now →
      ∃ t, exec .linkExpiry s = .next t ∧ SameBut [.msv, .ntu] s t ∧ t.msv.linkExpiry = none ∧
        (s.msv.motion.moving = false → t.msv = { s.msv with linkExpiry := none } ∧ t.ntu = s.ntu) ∧
        (s.msv.motion.moving = true → .linkLost ∈ t.msv.reasons ∧
          (.linkLost ∉ s.msv.reasons → t.msv.motion = .safeStop))) ∧
    (∀ n : Nat,
      (s.msv.supplyLow = false → s.settings.supplyThreshold ≤ n →
        exec (.supplyReading n) s = .next { s with msv := { s.msv with supplyRun := 0 } }) ∧
      (s.msv.supplyLow = true → n ≤ s.settings.supplyThreshold + s.settings.supplyHysteresis →
        exec (.supplyReading n) s = .next { s with msv := { s.msv with supplyRun := 0 } }) ∧
      (s.msv.supplyRun < 3 →
        (s.msv.supplyLow = false ∧ n < s.settings.supplyThreshold) ∨
          (s.msv.supplyLow = true ∧ s.settings.supplyThreshold + s.settings.supplyHysteresis < n) →
        exec (.supplyReading n) s = .next { s with msv := { s.msv with supplyRun := s.msv.supplyRun + 1 } }) ∧
      (s.msv.supplyRun = 3 → s.msv.supplyLow = false → n < s.settings.supplyThreshold →
        ∃ t, exec (.supplyReading n) s = .next t ∧ SameBut [.msv, .snd, .ntu] s t ∧
          t.msv = { s.msv with supplyLow := true, supplyRun := 0 } ∧
          t.snd = { s.snd with m := min s.snd.m t.masterTarget } ∧ t.ntu = (s.raise (.supply true)).ntu) ∧
      (s.msv.supplyRun = 3 → s.msv.supplyLow = true →
        s.settings.supplyThreshold + s.settings.supplyHysteresis < n →
        exec (.supplyReading n) s = .next (State.raise (.supply false)
          { s with msv := { s.msv with supplyLow := false, supplyRun := 0 } }))) ∧
    (∀ u, s.msv.motion = .dwell → s.msv.dwell = some (.holding u) → u ≤ s.now →
      exec .dwellExpiry s = .next (State.raise (.motion .running)
        { s with msv := { s.msv with motion := .running, dwell := none, held := false } }))

/-- ENABLE, PARK, START, STOP, ESTOP, RESUME and SKIP_DWELL: taken, the motion state they leave, with the reasons they
remove or add (ENABLE with an E reason in the set enters E_STOP); refused, the status code. -/
def Obligations.MotionRequests : Prop :=
  ∀ (s : State) (key : Nat), s.listening →
    (s.msv.motion = .parked → (∀ r ∈ s.msv.reasons, r.isE = false) →
      ∃ t, exec (.enable key) s = .next t ∧ Answers s t [.msv] .ok 0x20 key false false [1] ∧
        t.msv = { s.heard with motion := .stopped }) ∧
    (s.msv.motion = .parked → (∃ r ∈ s.msv.reasons, r.isE = true) →
      ∃ t, exec (.enable key) s = .next t ∧
        Answers s t [.msv, .cue, .flp, .snd, .ntu, .free] .ok 0x20 key false true [5] ∧
        t.msv = { s.heard with motion := .eStop, vCmd := 0, dwell := none, held := false, overspeed := 0 } ∧
        t.cue = { s.cue with lines := s.cue.lines.map (fun _ => none) }) ∧
    (s.msv.motion = .stopped ∨ s.msv.motion = .eStop →
      ∃ t, exec (.park key) s = .next t ∧ Answers s t [.msv, .gdu, .rsm, .ntu] .ok 0x21 key false false [0] ∧
        t.msv = { s.heard with motion := .parked, held := false, overspeed := 0 } ∧ t.gdu = { s.gdu with delta := 0 } ∧
        t.rsm = { s.rsm with permit := none } ∧
        t.ntu = if s.rsm.permit = none then s.ntu else (s.raise (.release .withdrawn)).ntu) ∧
    (s.msv.motion = .stopped → (∀ r ∈ s.msv.reasons, r = .hostStop ∨ r = .linkLost) → s.pos.authority ≠ none →
      s.allVerified = true →
      ∃ t, exec (.start key) s = .next t ∧ Answers s t [.msv, .rsm, .ntu] .ok 0x23 key false false [2] ∧
        t.msv = { s.heard with motion := .running, reasons := [], held := false, overspeed := 0 } ∧
        t.rsm = { s.rsm with permit := none } ∧
        t.ntu = if s.rsm.permit = none then s.ntu else (s.raise (.release .withdrawn)).ntu) ∧
    (s.msv.motion ≠ .parked →
      ∃ t, exec (.stop key) s = .next t ∧
        Answers s t [.msv] .ok 0x24 key false false [BitVec.ofNat 8 t.msv.motion.code] ∧ .hostStop ∈ t.msv.reasons ∧
        (.hostStop ∉ s.msv.reasons → s.msv.motion = .running ∨ s.msv.motion = .dwell → t.msv.motion = .safeStop) ∧
        (s.msv.motion = .stopped ∨ s.msv.motion = .safeStop ∨ s.msv.motion = .eStop →
          t.msv.motion = s.msv.motion)) ∧
    (.hostEstop ∉ s.msv.reasons →
      ∃ t, exec (.estop key) s = .next t ∧
        Answers s t [.msv, .cue, .flp, .snd, .ntu, .free] .ok 0x25 key false
          (decide (s.msv.motion ≠ .parked ∧ s.msv.motion ≠ .eStop)) [BitVec.ofNat 8 t.msv.motion.code] ∧
        .hostEstop ∈ t.msv.reasons ∧ t.msv.motion = (if s.msv.motion = .parked then .parked else .eStop)) ∧
    (s.msv.motion = .eStop → s.zeroSpeed = true → (∀ r ∈ s.msv.reasons, s.conditionRemains r = false) →
      ∃ t, exec (.resume key) s = .next t ∧ t.msv.motion = .stopped ∧
        Answers s t [.msv] .ok 0x26 key false false (1 :: reasonList t.msv.reasons) ∧
        t.msv.reasons = s.heard.reasons.filter (fun r => !r.isE) ∧
        t.msv = { s.heard with motion := .stopped, held := false, reasons := t.msv.reasons }) ∧
    (s.msv.motion = .dwell →
      ∃ t, exec (.skipDwell key) s = .next t ∧ Answers s t [.msv] .ok 0x27 key false false [2] ∧
        t.msv = { s.heard with motion := .running, dwell := none, held := false }) ∧
    (∀ c kind, (c = .enable key ∧ kind = 0x20 ∧ s.msv.motion ≠ .parked) ∨
        (c = .park key ∧ kind = 0x21 ∧ s.msv.motion ≠ .stopped ∧ s.msv.motion ≠ .eStop) ∨
        (c = .start key ∧ kind = 0x23 ∧ s.msv.motion ≠ .stopped) ∨
        (c = .stop key ∧ kind = 0x24 ∧ s.msv.motion = .parked) ∨
        (c = .resume key ∧ kind = 0x26 ∧ s.msv.motion ≠ .eStop) ∨
        (c = .skipDwell key ∧ kind = 0x27 ∧ s.msv.motion ≠ .dwell) →
      ∃ t, exec c s = .next t ∧ Answers s t [] .badState kind key false false []) ∧
    (s.msv.motion = .stopped → (∀ r ∈ s.msv.reasons, r = .hostStop ∨ r = .linkLost) →
      s.pos.authority = none ∨ s.allVerified = false →
      ∃ t, exec (.start key) s = .next t ∧ Answers s t [] .notReady 0x23 key false false []) ∧
    (s.msv.motion = .stopped → (∃ r ∈ s.msv.reasons, r ≠ .hostStop ∧ r ≠ .linkLost) →
      ∃ t, exec (.start key) s = .next t ∧ Answers s t [] .reasonsActive 0x23 key false false
        (reasonList (s.msv.reasons.filter (fun r => r ≠ .hostStop ∧ r ≠ .linkLost)))) ∧
    (s.msv.motion = .eStop → s.zeroSpeed = false →
      ∃ t, exec (.resume key) s = .next t ∧ Answers s t [] .notReady 0x26 key false false []) ∧
    (s.msv.motion = .eStop → s.zeroSpeed = true → (∃ r ∈ s.msv.reasons, s.conditionRemains r = true) →
      ∃ t, exec (.resume key) s = .next t ∧ Answers s t [] .reasonsActive 0x26 key false false
        (reasonList (s.msv.reasons.filter s.conditionRemains)))

/-- PLACE and YAW taken: the vehicle stands at the stated segment and s with the authority deleted and POSITION removed;
the clamped target is stored and the turntable's holder cleared. The pass's counted miss, cleared with marker-seen, is the
model's own field (log 20). -/
def Obligations.PlaceAndYaw : Prop :=
  ∀ (s : State) (key : Nat), s.listening → s.msv.motion = .parked ∨ s.msv.motion = .stopped →
    (∀ segment position g, segment ≤ 127 → Table.get s.pos.segments segment = some g → segment ∉ s.pos.path →
      position < g.length →
      ∃ t, exec (.place key segment position) s = .next t ∧
        Answers s t [.pos, .gdu, .msv, .cue, .flp, .snd, .ntu, .free] .ok 0x22 key false false
          (u8 segment ++ u16 position) ∧
        t.pos = { s.pos with
          authority := none, active := some segment, path := [segment], s := position, sPrev := position, residue := 0
          markerSeen := false, missCount := 0, missCounted := false } ∧
        t.gdu.ePrev = 0 ∧ t.msv = { s.heard with reasons := s.heard.reasons.filter (fun r => r ≠ .position) }) ∧
    (∀ target : Int,
      ∃ t, exec (.yaw key target) s = .next t ∧
        Answers s t [.gdu, .cue] .ok 0x28 key (decide (t.gdu.yawTarget ≠ target)) false (s16 t.gdu.yawTarget) ∧
        t.gdu = { s.gdu with yawTarget := max s.settings.yawMin (min s.settings.yawMax target) } ∧
        t.cue = { s.cue with turntable := none })

/-! ### Routes and seats: requests (01, 03) -/

/-- PUT, AMEND and RETIRE SEGMENT taken: the checked record, clamped, is stored or the entry freed; the path, the position
and every other entry stay. CLAMPED of an AMEND speaks of the whole copy: set too for a stored value the AMEND did not
carry (log 18). -/
def Obligations.SegmentRequests : Prop :=
  ∀ (s : State) (key presence : Nat) (w : SegmentWire), s.listening → Table.wf s.pos.segments → key ≤ 127 →
    key ∉ s.pos.path →
    (w.valid = true →
      ∃ t, exec (.putSegment key w) s = .next t ∧
        Answers s t [.pos] .ok 0x01 key (decide ((w.clamped s.settings).toWire ≠ w)) false
          ((w.clamped s.settings).bytes .loaded) ∧
        t.pos = { s.pos with segments := t.pos.segments } ∧
        ∀ k, Table.get t.pos.segments k =
          if k = key then some (w.clamped s.settings) else Table.get s.pos.segments k) ∧
    (∀ o, Table.get s.pos.segments key = some o →
      (presence % 2 ^ 10 ≠ 0 → (w.over presence o.toWire).valid = true →
        ∃ t, exec (.amendSegment key presence w) s = .next t ∧
          Answers s t [.pos] .ok 0x03 key
            (decide (((w.over presence o.toWire).clamped s.settings).toWire ≠ w.over presence o.toWire)) false
            (((w.over presence o.toWire).clamped s.settings).bytes .loaded) ∧
          t.pos = { s.pos with segments := t.pos.segments } ∧
          ∀ k, Table.get t.pos.segments k =
            if k = key then some ((w.over presence o.toWire).clamped s.settings) else Table.get s.pos.segments k) ∧
      (presence % 2 ^ 10 = 0 → ∃ t, exec (.amendSegment key presence w) s = .next t ∧
        Answers s t [] .ok 0x03 key false false (o.bytes .loaded)) ∧
      (∃ t, exec (.retireSegment key) s = .next t ∧ Answers s t [.pos] .ok 0x04 key false false [] ∧
        t.pos = { s.pos with segments := t.pos.segments } ∧
        ∀ k, Table.get t.pos.segments k = if k = key then none else Table.get s.pos.segments k))

/-- PUT, AMEND and RETIRE AUTHORITY taken: the authority, of an AMEND the carried fields over the stored ones, and the path
walked to it are stored with EXTENDED when it grew, or deleted with the path the active segment alone; one that the speed
overruns is taken too and enters E_STOP with ESTOP_CAUSED. An AMEND that carries no field changes nothing. -/
def Obligations.AuthorityRequests : Prop :=
  ∀ s : State, s.listening →
    (∀ (segment offset a : Nat) (ga g : Segment) (path : List Nat), segment ≤ 127 →
      s.activeSegment = some (a, ga) → Table.get s.pos.segments segment = some g →
      ¬(segment = a ∧ min offset g.length ≤ s.pos.s) → walk s.pos.segments segment 129 [a] = .reached path →
      path.length ≤ 32 →
      let u : State := { s with pos := { s.pos with authority := some ⟨segment, min offset g.length⟩, path := path } }
      let clamped := decide (min offset g.length ≠ offset)
      let extended := s.pos.authority.isNone || decide (s.dAuth.getD 0 < u.dAuth.getD 0)
      let taken (c : Instr) (kind : Nat) : Prop :=
        (s.msv.motion.moving = false ∨ s.msv.vCmd ≤ u.vAuth + s.settings.overspeedTol →
          ∃ t, exec c s = .next t ∧ Answers s t [.pos, .ntu] .ok kind 0 clamped false u.authorityBytes ∧
            t.pos = u.pos ∧ t.ntu = if extended then (s.raise .extended).ntu else s.ntu) ∧
        (s.msv.motion.moving = true → u.vAuth + s.settings.overspeedTol < s.msv.vCmd →
          .authorityOverrun ∉ s.msv.reasons →
          ∃ t, exec c s = .next t ∧
            Answers s t [.pos, .msv, .cue, .flp, .snd, .ntu, .free] .ok kind 0 clamped true u.authorityBytes ∧
            t.pos = u.pos ∧ t.msv.motion = .eStop ∧ t.msv.vCmd = 0 ∧ .authorityOverrun ∈ t.msv.reasons ∧
            (s.ntu.sources.length = 12 →
              t.source 4 = if extended then Source.record .extended (s.source 4) else s.source 4))
      taken (.putAuthority 0 ⟨segment, offset⟩) 0x01 ∧
      ∀ (w : AuthorityWire) (o : Authority) (presence : Nat), s.pos.authority = some o → presence % 4 ≠ 0 →
        (if presence.testBit 0 then w.segment else o.segment) = segment →
        (if presence.testBit 1 then w.offset else o.offset) = offset →
        taken (.amendAuthority 0 presence w) 0x03) ∧
    (s.pos.authority ≠ none →
      let dropped := { s.pos with authority := none, path := s.pos.active.toList }
      (∀ (w : AuthorityWire) (presence : Nat), presence % 4 = 0 →
        ∃ t, exec (.amendAuthority 0 presence w) s = .next t ∧
          Answers s t [] .ok 0x03 0 false false s.authorityBytes) ∧
      (s.msv.motion.moving = false ∨ s.msv.vCmd ≤ s.settings.overspeedTol →
        ∃ t, exec (.retireAuthority 0) s = .next t ∧ Answers s t [.pos] .ok 0x04 0 false false [] ∧ t.pos = dropped) ∧
      (s.msv.motion.moving = true → s.settings.overspeedTol < s.msv.vCmd → .authorityOverrun ∉ s.msv.reasons →
        ∃ t, exec (.retireAuthority 0) s = .next t ∧
          Answers s t [.pos, .msv, .cue, .flp, .snd, .ntu, .free] .ok 0x04 0 false true [] ∧ t.pos = dropped ∧
          t.msv.motion = .eStop ∧ t.msv.vCmd = 0 ∧ .authorityOverrun ∈ t.msv.reasons ∧
          (s.ntu.sources.length = 12 → t.source 4 = s.source 4)))

/-- PUT and AMEND SEAT and SEAT_CLEAR taken at rest: the stored configuration and the seat's new state; the other seats,
the permit and the hold stay. -/
def Obligations.SeatRequests : Prop :=
  ∀ (s : State) (key presence : Nat) (w : SeatWire), s.listening → s.msv.motion = .parked ∨ s.msv.motion = .stopped →
    key ≤ 7 → s.rsm.seats.length = 8 →
    (w.valid = true → (∀ f, (s.seat key).state ≠ .fault f) → (s.seat key).state.energised = false →
      ∃ t, exec (.putSeat key w) s = .next t ∧
        Answers s t [.rsm] .ok 0x01 key false false ((t.seat key).bytes s.now) ∧
        t.seat key = ⟨w.enabled, w.polarityA, w.polarityB, w.lockMin, w.lockMax, w.openMax,
          if w.enabled then .unlatched else .disabled⟩ ∧
        (∀ j, j ≠ key → t.seat j = s.seat j) ∧ t.rsm.permit = s.rsm.permit ∧ t.rsm.hold = s.rsm.hold) ∧
    ((∀ f, (s.seat key).state ≠ .fault f) → (s.seat key).state.energised = false →
      (presence % 64 = 0 → ∃ t, exec (.amendSeat key presence w) s = .next t ∧
        Answers s t [] .ok 0x03 key false false ((s.seat key).bytes s.now)) ∧
      (presence % 64 ≠ 0 → (w.over presence (s.seat key).toWire).valid = true →
        ∃ t, exec (.amendSeat key presence w) s = .next t ∧
          Answers s t [.rsm] .ok 0x03 key false false ((t.seat key).bytes s.now) ∧
          (t.seat key).toWire = w.over presence (s.seat key).toWire ∧
          ((t.seat key).enabled = false → (t.seat key).state = .disabled) ∧
          ((s.seat key).enabled = false → (t.seat key).enabled = true → (t.seat key).state = .unlatched) ∧
          ((t.seat key).enabled = true → (t.seat key).toWire = (s.seat key).toWire →
            (t.seat key).state = (s.seat key).state) ∧
          ((s.seat key).enabled = true → (t.seat key).enabled = true → (t.seat key).toWire ≠ (s.seat key).toWire →
            (t.seat key).state = .unlatched) ∧
          (∀ j, j ≠ key → t.seat j = s.seat j) ∧ t.rsm.permit = s.rsm.permit ∧ t.rsm.hold = s.rsm.hold)) ∧
    (∀ f, (s.seat key).state = .fault f →
      ∃ t, exec (.seatClear key) s = .next t ∧ Answers s t [.rsm] .ok 0x2A key false false [1] ∧
        t.seat key = { s.seat key with state := .unlatched } ∧ (∀ j, j ≠ key → t.seat j = s.seat j) ∧
        t.rsm.permit = s.rsm.permit ∧ t.rsm.hold = s.rsm.hold)

/-- RELEASE taken in STOPPED at a station stores the permit; RELEASE with IMMEDIATE taken in PARKED releases every enabled
seat of its mask and no other. -/
def Obligations.ReleaseRequests : Prop :=
  ∀ (s : State) (key mask : Nat), s.listening → 1 ≤ mask → mask ≤ 255 →
    (s.msv.motion = .stopped → s.atStation = true →
      ∃ t, exec (.release key mask) s = .next t ∧
        Answers s t [.rsm] .ok 0x29 key false false (u8 mask ++ u16 s.settings.permitWindow) ∧
        t.rsm = { s.rsm with permit := some ⟨mask, s.now + s.settings.permitWindow * 1000⟩ }) ∧
    (s.msv.motion = .parked →
      ∃ t, exec (.releaseImmediate key mask) s = .next t ∧
        Answers s t [.rsm] .ok 0x29 key false false (u8 (s.releasedMask mask) ++ [0, 0]) ∧
        t.rsm.permit = s.rsm.permit ∧ t.rsm.hold = s.rsm.hold ∧
        ∀ i, i < s.rsm.seats.length → t.seat i = if mask.testBit i = true ∧ (s.seat i).enabled = true then
          { s.seat i with state := .releasing (s.now + s.settings.releasePulse * 1000) } else s.seat i)

/-! ### Cues and effects (05) -/

/-- An evaluation: a cue of a segment that has been left is re-armed or spent, an ACTIVE cue of the active segment exits at
its effective end, an ARMED one fires within its window and is skipped when it was jumped, every other keeps its state; a
left segment that is the active one again is left first and judged afresh. An exit releases what the cue held. An EFFECT
claim takes a free line, its own and one of a lower level, a YAW claim the turntable likewise with its target, and both lose
to any other with CONFLICT on both cues; under case 2 the level is recorded again (log 35). A PLAY, BEACON, DWELL or SLOW
action acts, and one that cannot be carried out is SKIPPED. -/
def Obligations.CuesAtAnEvaluation : Prop :=
  (∀ (s : State) (moved : Bool) (a k : Nat) (g : Segment) (c : Cue), s.activeSegment = some (a, g) →
    Table.wf s.cue.cues → Table.get s.cue.cues k = some c →
    let t := s.evaluate moved
    let stop := min c.stop g.length
    let left := moved = true ∧ s.cue.evaluated = some c.segment
    let leaves : CueState := if c.everyPass = true ∧ (c.state = .active ∨ c.state = .spent) then .armed
      else if c.state = .active then .spent else c.state
    SameBut [.cue, .gdu, .msv, .flp, .snd, .ntu, .free] s t ∧ t.cue.evaluated = some a ∧
    ∃ d, Table.get t.cue.cues k = some d ∧
      (let judged : Prop :=
         (c.start ≤ s.pos.s → s.pos.s < stop → d.state = .active) ∧
         (c.start < stop → stop ≤ s.pos.s → s.pos.sPrev < c.start → d.state = .spent ∧ d.skipped = true) ∧
         (¬(c.start ≤ s.pos.s ∧ s.pos.s < stop) → ¬(c.start < stop ∧ stop ≤ s.pos.s ∧ s.pos.sPrev < c.start) →
           d.state = .armed)
       (¬left → c.segment ≠ a → d.state = c.state) ∧
       (left → c.segment ≠ a → d.state = leaves) ∧
       (left → c.segment = a → (leaves = .armed → judged) ∧ (leaves ≠ .armed → d.state = leaves)) ∧
       (¬left → c.segment = a →
         (c.state = .active → d.state = if stop ≤ s.pos.s then .spent else .active) ∧
         (c.state = .armed → judged) ∧
         (c.state = .disarmed ∨ c.state = .spent → d.state = c.state)) ∧
       (c.state = .active → (left ∧ c.segment ≠ a) ∨ (¬left ∧ c.segment = a ∧ stop ≤ s.pos.s) →
         d.slow = none ∧ (∀ h, t.cue.turntable = some h → h.holder ≠ k) ∧
         (∀ (i : Nat) (h : LineHold), t.cue.lines[i]? = some (some h) → h.holder = k → h.timed = true ∧ h.remaining ≠ 0) ∧
         (∀ v ∈ t.snd.voices, v.owner = .cue k → v.exitFade = true → v.state ≠ .playing)))) ∧
  (∀ (s : State) (id level idx line on off n : Nat) (timed : Bool), s.msv.motion ≠ .parked → s.msv.motion ≠ .eStop →
    let t := s.runEffect id level idx line on off n timed
    let taken : LineHold := ⟨id, level, timed, on, off, n, .on, on⟩
    SameBut [.cue, .ntu] s t ∧
    (s.cue.lines[line]? = some none → t.cue = { s.cue with lines := s.cue.lines.set line (some taken) } ∧ t.ntu = s.ntu) ∧
    (∀ h, s.cue.lines[line]? = some (some h) →
      (h.holder = id → t.cue = { s.cue with lines := s.cue.lines.set line (some taken) } ∧ t.ntu = s.ntu) ∧
      (h.holder ≠ id →
        t.cue.lines = (if h.level < level then s.cue.lines.set line (some taken) else s.cue.lines) ∧
        (∀ k, Table.get t.cue.cues k = (Table.get s.cue.cues k).map
          (fun c => if k = id ∨ k = h.holder then { c with conflict := true } else c)) ∧
        t.ntu = ((s.raise (.cueConflict id line)).raise (.cueConflict h.holder line)).ntu))) ∧
  (∀ (s : State) (id level idx : Nat) (target : Int),
    let t := s.runAction id level idx (.yaw target)
    let stored := { s.gdu with yawTarget := max s.settings.yawMin (min s.settings.yawMax target) }
    let taken := { s.cue with turntable := some ⟨id, level⟩ }
    SameBut [.cue, .gdu, .ntu] s t ∧
    (s.cue.turntable = none → t.cue = taken ∧ t.gdu = stored ∧ t.ntu = s.ntu) ∧
    (∀ h, s.cue.turntable = some h →
      (h.holder = id → t.cue = taken ∧ t.gdu = stored ∧ t.ntu = s.ntu) ∧
      (h.holder ≠ id →
        t.gdu = (if h.level < level then stored else s.gdu) ∧
        t.cue.turntable = (if h.level < level then some ⟨id, level⟩ else some h) ∧
        (∀ k, Table.get t.cue.cues k = (Table.get s.cue.cues k).map
          (fun c => if k = id ∨ k = h.holder then { c with conflict := true } else c)) ∧
        t.ntu = ((s.raise (.cueConflict id 12)).raise (.cueConflict h.holder 12)).ntu))) ∧
  (∀ (s : State) (id level idx : Nat),
    let skipped (t : State) : Prop := SameBut [.cue, .ntu] s t ∧ t.cue = { s.cue with cues := t.cue.cues } ∧
      (∀ k, Table.get t.cue.cues k = (Table.get s.cue.cues k).map
        (fun c => if k = id then { c with skipped := true } else c)) ∧
      t.ntu = (s.raise (.cueSkipped id (some idx))).ntu
    (∀ clip buses gain loop fade,
      let t := s.runAction id level idx (.play clip buses gain loop fade)
      (∀ c i, s.readyClip clip = some c → chooseVoice s.snd.voices level = some i →
        SameBut [.flp, .snd, .ntu, .free] s t ∧ (∀ j, j ≠ i → t.voice j = s.voice j) ∧
        t.voice i = ⟨.playing, some clip, 0, 0, loop, buses, c.gain * gain / 256, c.gain * gain / 256, level, .cue id,
          s.snd.startCounter, fade, [], false, false, (t.voice i).refill⟩) ∧
      (s.readyClip clip = none ∨ chooseVoice s.snd.voices level = none → skipped t)) ∧
    (∀ line on off n timed, s.msv.motion = .parked ∨ s.msv.motion = .eStop →
      skipped (s.runAction id level idx (.effect line on off n timed))) ∧
    (∀ code,
      let t := s.runAction id level idx (.beacon code)
      (8 ≤ s.cue.beacon.length → skipped t) ∧
      (s.cue.beacon.length < 8 → SameBut [.cue] s t ∧ t.cue = { s.cue with
        beacon := s.cue.beacon ++ [code], beaconEnd := some (s.cue.beaconEnd.getD (s.now + 20000)) })) ∧
    (∀ ms,
      let t := s.runAction id level idx (.dwell ms)
      (s.msv.motion = .running → SameBut [.msv, .ntu] s t ∧ t.ntu = (s.raise (.motion .dwell)).ntu ∧
        t.msv = { s.msv with motion := .dwell, dwell := some (.ramping ms), held := false }) ∧
      (s.msv.motion = .dwell →
        (∀ m, s.msv.dwell = some (.ramping m) → SameBut [.msv] s t ∧
          t.msv = { s.msv with dwell := some (.ramping (max m ms)) }) ∧
        (∀ u, s.msv.dwell = some (.holding u) → SameBut [.msv] s t ∧
          t.msv = { s.msv with dwell := some (.holding (max u (s.now + ms * 1000))) })) ∧
      (s.msv.motion ≠ .running → s.msv.motion ≠ .dwell → skipped t)) ∧
    (∀ speed,
      let t := s.runAction id level idx (.slow speed)
      SameBut [.cue] s t ∧ t.cue = { s.cue with cues := t.cue.cues } ∧
      ∀ k, Table.get t.cue.cues k = (Table.get s.cue.cues k).map
        (fun c => if k = id then { c with slow := some (min speed (c.slow.getD speed)) } else c)))

/-- PUT, AMEND and RETIRE CUE taken, the last with and without FORCE: the record stored or freed, and the outputs the cue
held released; an AMEND that carries no field is answered with the record and changes nothing. CLAMPED of an AMEND speaks of
the whole copy: set too for a stored value the AMEND did not carry (log 18). -/
def Obligations.CueRequests : Prop :=
  ∀ (s : State) (key presence : Nat) (w : CueWire), s.listening → Table.wf s.cue.cues → key ≤ 95 →
    (∀ as changed, w.parse s.settings = some (as, changed) →
      (∀ c, Table.get s.cue.cues key = some c → c.state ≠ .active) →
      ∃ t, exec (.putCue key w) s = .next t ∧
        Answers s t [.cue] .ok 0x01 key changed false (w.cue as .armed false false none).bytes ∧
        (∀ k, Table.get t.cue.cues k =
          if k = key then some (w.cue as .armed false false none) else Table.get s.cue.cues k) ∧
        t.cue.lines = s.cue.lines.map (fun e => e.filter (fun h => decide (h.holder ≠ key))) ∧
        t.cue.turntable = s.cue.turntable.filter (fun h => h.holder ≠ key) ∧ t.cue.beacon = s.cue.beacon) ∧
    (∀ o as changed, Table.get s.cue.cues key = some o → o.state ≠ .active → presence % 2 ^ 7 ≠ 0 →
      (w.over presence o.toWire).parse s.settings = some (as, changed) →
      ∃ t, exec (.amendCue key presence w) s = .next t ∧
        Answers s t [.cue] .ok 0x03 key changed false
          ((w.over presence o.toWire).cue as o.state o.conflict o.skipped o.slow).bytes ∧
        t.cue = { s.cue with cues := t.cue.cues } ∧
        ∀ k, Table.get t.cue.cues k =
          if k = key then some ((w.over presence o.toWire).cue as o.state o.conflict o.skipped o.slow)
          else Table.get s.cue.cues k) ∧
    (∀ o, Table.get s.cue.cues key = some o → o.state ≠ .active → presence % 2 ^ 7 = 0 →
      ∃ t, exec (.amendCue key presence w) s = .next t ∧ Answers s t [] .ok 0x03 key false false o.bytes) ∧
    (∀ c, Table.get s.cue.cues key = some c →
      (c.state ≠ .active →
        ∃ t, exec (.retireCue key) s = .next t ∧ Answers s t [.cue] .ok 0x04 key false false [] ∧
          (∀ k, Table.get t.cue.cues k = if k = key then none else Table.get s.cue.cues k) ∧
          t.cue.lines = s.cue.lines.map (fun e => e.filter (fun h => decide (h.holder ≠ key))) ∧
          t.cue.turntable = s.cue.turntable.filter (fun h => h.holder ≠ key)) ∧
      (∃ t, exec (.retireCueForce key) s = .next t ∧ Answers s t [.cue, .snd] .ok 0x04 key false false [] ∧
          (∀ k, Table.get t.cue.cues k = if k = key then none else Table.get s.cue.cues k) ∧
          t.cue.lines = s.cue.lines.map (fun e => e.filter (fun h => decide (h.holder ≠ key))) ∧
          (c.state = .active → t.snd = { s.snd with voices := s.snd.voices.map (fun v =>
            if v.owner = .cue key then v.fade else v) }) ∧
          (c.state ≠ .active → t.snd = s.snd)))

/-- REARM with and without ALL and DISARM: ARMED with both flags clear, or DISARMED with the flags kept, and the refusals
of a named cue in their order; no output holder entry changes. -/
def Obligations.RearmAndDisarm : Prop :=
  ∀ (s : State) (key : Nat), s.listening →
    (∀ c kind, (c = .rearm key ∧ kind = 0x2B) ∨ (c = .disarm key ∧ kind = 0x2C) →
      (95 < key → ∃ t, exec c s = .next t ∧ Answers s t [] .badField kind key false false []) ∧
      (key ≤ 95 → Table.get s.cue.cues key = none →
        ∃ t, exec c s = .next t ∧ Answers s t [] .notFound kind key false false []) ∧
      (key ≤ 95 → (Table.get s.cue.cues key).map (·.state) = some .active →
        ∃ t, exec c s = .next t ∧ Answers s t [] .inUse kind key false false [])) ∧
    (∀ c, key ≤ 95 → Table.get s.cue.cues key = some c → c.state ≠ .active →
      (∃ t, exec (.rearm key) s = .next t ∧
        Answers s t [.cue] .ok 0x2B key false false [if c.state = .armed then 0 else 1] ∧
        t.cue = { s.cue with cues := t.cue.cues } ∧
        ∀ k, Table.get t.cue.cues k =
          if k = key then some { c with state := .armed, conflict := false, skipped := false }
          else Table.get s.cue.cues k) ∧
      (∃ t, exec (.disarm key) s = .next t ∧ Answers s t [.cue] .ok 0x2C key false false [0] ∧
        t.cue = { s.cue with cues := t.cue.cues } ∧
        ∀ k, Table.get t.cue.cues k =
          if k = key then some { c with state := .disarmed } else Table.get s.cue.cues k)) ∧
    (∃ t n, exec (.rearmAll key) s = .next t ∧ Answers s t [.cue] .ok 0x2B key false false (u8 n) ∧
      n = (s.cue.cues.filter (fun p => p.2.state = .spent || p.2.state = .disarmed)).length ∧
      t.cue = { s.cue with cues := t.cue.cues } ∧
      ∀ k, Table.get t.cue.cues k = (Table.get s.cue.cues k).map (fun c =>
        if c.state = .active then c else { c with state := .armed, conflict := false, skipped := false }))

/-- EFFECT_TICK, EFFECT_PHASE_END and BEACON_TX_COMPLETE: a running pattern's timer falls by 10, and at 0 it goes OFF,
repeats, ends, or releases its line; a free line and an ended pattern stay; a burst that is over leaves the queue and the next begins. -/
def Obligations.EffectEvents : Prop :=
  (∀ (s : State) (i : Nat) (h : LineHold), s.inReset = false → s.cue.lines[i]? = some (some h) → h.phase ≠ .ended →
    (∃ t, exec .effectTick s = .next t ∧ SameBut [.cue] s t ∧ t.cue = { s.cue with lines := t.cue.lines } ∧
      (10 < h.timer → t.cue.lines[i]? = some (some { h with timer := h.timer - 10 })) ∧
      (h.timer ≤ 10 → h.phase = .on → 0 < h.offMs →
        t.cue.lines[i]? = some (some { h with phase := .off, timer := h.offMs })) ∧
      (h.timer ≤ 10 → h.phase = .off ∨ h.offMs = 0 →
        (h.remaining = 0 → t.cue.lines[i]? = some (some { h with phase := .on, timer := h.onMs })) ∧
        (2 ≤ h.remaining → t.cue.lines[i]? =
          some (some { h with phase := .on, timer := h.onMs, remaining := h.remaining - 1 })) ∧
        (h.remaining = 1 → h.timed = true → t.cue.lines[i]? = some none) ∧
        (h.remaining = 1 → h.timed = false → t.cue.lines[i]? =
          some (some { h with phase := .ended, timer := 0, remaining := 0 })))) ∧
    (h.timer = 0 →
      ∃ t u, exec (.effectPhaseEnd i) s = .next t ∧ exec .effectTick s = .next u ∧ SameBut [.cue] s t ∧
        t.cue = { s.cue with lines := t.cue.lines } ∧ t.cue.lines[i]? = u.cue.lines[i]? ∧
        ∀ j, j ≠ i → t.cue.lines[j]? = s.cue.lines[j]?)) ∧
  (∀ (s : State) (i : Nat), s.inReset = false →
      s.cue.lines[i]? = some none ∨ (∃ h, s.cue.lines[i]? = some (some h) ∧ h.phase = .ended) →
      ∃ t, exec .effectTick s = .next t ∧ t.cue.lines[i]? = s.cue.lines[i]?) ∧
  (∀ (s : State) (b : Nat), s.inReset = false → s.cue.beaconEnd = some b → b ≤ s.now →
      exec .beaconTxComplete s = .next { s with cue := { s.cue with
        beacon := s.cue.beacon.drop 1
        beaconEnd := if s.cue.beacon.length ≤ 1 then none else some (s.now + 20000) } })

/-! ### Clips and the flash (06) -/

/-- PUT, AMEND and RETIRE CLIP taken: the clip is stored QUEUED at the tail, an AMEND of gain or loop keeps its state, a
retired clip leaves table and queue; a verification of the clip in progress is abandoned. CLAMPED of an AMEND speaks of the
whole copy (log 18). -/
def Obligations.ClipRequests : Prop :=
  ∀ (s : State) (key presence : Nat) (w : ClipWire), s.listening → Table.wf s.flp.clips → key ≤ 63 →
    s.clipPlayed key = false →
    let rest := s.flp.queue.filter (fun k => k ≠ key)
    let unverified (t : State) : Prop := t.flp.flash = s.flp.flash ∧ t.flp.slot = s.flp.slot ∧
      t.flp.read = s.flp.read ∧ t.flp.lastHigh = s.flp.lastHigh ∧ t.flp.lowPrefersHost = s.flp.lowPrefersHost ∧
      (s.flp.verifying.clip = some key → t.flp.verifying.clip = none) ∧
      (s.flp.verifying.clip ≠ some key → t.flp.verifying = s.flp.verifying ∧ t.flp.grant = s.flp.grant)
    let queued (t : State) (c : Clip) : Prop := unverified t ∧ t.flp.queue = rest ++ [key] ∧
      ∀ k, Table.get t.flp.clips k = if k = key then some c else Table.get s.flp.clips k
    (w.valid = true → s.underHostOp (w.clip .queued) = false →
      let c : Clip := ⟨w.addr, w.length, min 256 w.gain, w.loop, .queued⟩
      ∃ t, exec (.putClip key w) s = .next t ∧
        Answers s t [.flp] .ok 0x01 key (decide (256 < w.gain)) false (c.bytes (rest.length + 1)) ∧ queued t c) ∧
    (∀ o, Table.get s.flp.clips key = some o →
      let v := w.over presence o.toWire
      (presence % 16 = 0 → ∃ t, exec (.amendClip key presence w) s = .next t ∧
        Answers s t [] .ok 0x03 key false false (o.bytes (s.clipProgress key o))) ∧
      (presence % 16 ≠ 0 → v.valid = true → v.addr = o.addr → v.length = o.length →
        let c : Clip := { o with gain := min 256 v.gain, loop := v.loop }
        ∃ t, exec (.amendClip key presence w) s = .next t ∧
          Answers s t [.flp] .ok 0x03 key (decide (256 < v.gain)) false (c.bytes (s.clipProgress key o)) ∧
          t.flp = { s.flp with clips := t.flp.clips } ∧
          ∀ k, Table.get t.flp.clips k = if k = key then some c else Table.get s.flp.clips k) ∧
      (presence % 16 ≠ 0 → v.valid = true → v.addr ≠ o.addr ∨ v.length ≠ o.length →
        s.underHostOp (v.clip .queued) = false →
        let c : Clip := ⟨v.addr, v.length, min 256 v.gain, v.loop, .queued⟩
        ∃ t, exec (.amendClip key presence w) s = .next t ∧
          Answers s t [.flp] .ok 0x03 key (decide (256 < v.gain)) false (c.bytes (rest.length + 1)) ∧ queued t c) ∧
      (∃ t, exec (.retireClip key) s = .next t ∧ Answers s t [.flp] .ok 0x04 key false false [] ∧ unverified t ∧
        t.flp.queue = rest ∧ ∀ k, Table.get t.flp.clips k = if k = key then none else Table.get s.flp.clips k))

/-- FLASH_GRANT with the port FREE grants the asking member nearest after the last high grant; LOW's grant goes to the
preferred member of the low group when it asks and leaves the other preferred. HOSTOP's unit is the waiting FLASH_READ, else
the next step of the operation: the bytes of one page, or one sector. A verification begins with header CRC 0 (log 30). -/
def Obligations.FlashGrantFollowsRing : Prop :=
  ∀ (s : State) (m : Nat), s.inReset = false → s.flp.grant = none → s.flp.lastHigh ≤ 6 → m ≤ 6 → s.asks m = true →
    (∀ j, j ≤ 6 → s.asks j = true → ringPlace s.flp.lastHigh m ≤ ringPlace s.flp.lastHigh j) →
    ∃ t, exec .flashGrant s = .next t ∧ SameBut [.flp] s t ∧ t.flp.lastHigh = m ∧ t.flp.flash = s.flp.flash ∧
      t.flp.slot = s.flp.slot ∧
      (m ≤ 5 → t.flp = { s.flp with lastHigh := m, grant := t.flp.grant } ∧
        ∀ r c, (s.voice m).refill = some r → s.clipOf (s.voice m) = some c →
          t.flp.grant = some ⟨.refill m (c.addr + 16 + 2 * r.first) r.count true, s.now⟩) ∧
      (m = 6 → s.flp.hostAsks = true → s.flp.lowPrefersHost = true ∨ s.flp.verifyAsks = false →
        t.flp.lowPrefersHost = false ∧ t.flp.verifying = s.flp.verifying ∧
        (∀ r, s.flp.read = some r → t.flp.grant = some ⟨.hostRead r.addr r.len, s.now⟩) ∧
        (s.flp.read = none → s.flp.slot.op = .program →
          let page := s.flp.slot.first / 256 + s.flp.slot.done
          let from_ := max s.flp.slot.first (page * 256)
          let last_ := min s.flp.slot.last (page * 256 + 255)
          t.flp.grant =
            some ⟨.program from_ ((s.flp.slot.data.drop (from_ - s.flp.slot.first)).take (last_ + 1 - from_)), s.now⟩) ∧
        (s.flp.read = none → s.flp.slot.op = .erase →
          t.flp.grant = some ⟨.erase (s.flp.slot.first + 4096 * s.flp.slot.done), s.now⟩)) ∧
      (m = 6 → s.flp.verifyAsks = true → s.flp.lowPrefersHost = false ∨ s.flp.hostAsks = false →
        t.flp.lowPrefersHost = true ∧
        (∀ id c, s.flp.verifying.clip = some id → Table.get s.flp.clips id = some c →
          t.flp.verifying = s.flp.verifying ∧ t.flp.queue = s.flp.queue ∧
          t.flp.grant = some ⟨.verify (c.addr + s.flp.verifying.done)
            (min 256 (16 + 2 * c.length - s.flp.verifying.done)) true, s.now⟩) ∧
        (∀ id rest c, s.flp.verifying.clip = none → s.flp.queue = id :: rest → Table.get s.flp.clips id = some c →
          t.flp.verifying = ⟨some id, 0, 0xFFFFFFFF, 0⟩ ∧ t.flp.queue = rest ∧
          Table.get t.flp.clips id = some { c with state := .verifying } ∧
          t.flp.grant = some ⟨.verify c.addr (min 256 (16 + 2 * c.length)) true, s.now⟩))

/-- VERIFY_BURST_COMPLETE: the header of the first burst is checked, then bytes are fed into the CRC until the extent is
done, and the clip is READY or BAD with its notice; a burst of an abandoned verification has no effect on any clip. -/
def Obligations.VerifyBurstChecks : Prop :=
  ∀ (s : State) (addr n began : Nat) (live : Bool), s.inReset = false →
    s.flp.grant = some ⟨.verify addr n live, began⟩ → addr + n ≤ 16777216 →
    let bs := Memory.readRange s.flp.flash addr n
    ∃ t, exec .verifyBurstComplete s = .next t ∧ SameBut [.flp, .ntu] s t ∧ t.flp.grant = none ∧
      t.flp.queue = s.flp.queue ∧ t.flp.flash = s.flp.flash ∧
      (live = false → t.ntu = s.ntu ∧ t.flp = { s.flp with grant := none }) ∧
      (∀ id c, live = true → s.flp.verifying.clip = some id → Table.get s.flp.clips id = some c →
        let v := s.flp.verifying
        let bad (r : BadReason) : Prop := t.flp.verifying.clip = none ∧
          (∀ k, Table.get t.flp.clips k =
            if k = id then some { c with state := .bad r } else Table.get s.flp.clips k) ∧
          t.ntu = (s.raise (.clipBad id r)).ntu
        let after (crc header : Crc32) : Prop :=
          (v.done + n < 16 + 2 * c.length → t.flp.verifying = ⟨some id, v.done + n, crc, header⟩ ∧
            t.flp.clips = s.flp.clips ∧ t.ntu = s.ntu) ∧
          (16 + 2 * c.length ≤ v.done + n →
            (~~~crc = header → t.flp.verifying.clip = none ∧
              (∀ k, Table.get t.flp.clips k =
                if k = id then some { c with state := .ready } else Table.get s.flp.clips k) ∧
              t.ntu = (s.raise (.clipReady id)).ntu) ∧
            (~~~crc ≠ header → bad .crc))
        (v.done = 0 → bs.take 4 ≠ [0x49, 0x56, 0x43, 0x4C] → bad .header) ∧
        (v.done = 0 → bs.take 4 = [0x49, 0x56, 0x43, 0x4C] → le32 bs 4 ≠ c.length → bad .length) ∧
        (v.done = 0 → bs.take 4 = [0x49, 0x56, 0x43, 0x4C] → le32 bs 4 = c.length →
          after (crc32 v.crc (bs.drop 16)) (BitVec.ofNat 32 (le32 bs 8))) ∧
        (0 < v.done → after (crc32 v.crc bs) v.headerCrc))

/-- REFILL_COMPLETE: the samples join the voice's buffer in order, the fetch position advances, to the loop start at the loop
end, the voice is primed and its request withdrawn, or placed anew while the buffer holds 256 samples or fewer and the fetch
is not complete; a read whose request was withdrawn is discarded. -/
def Obligations.RefillDelivers : Prop :=
  ∀ (s : State) (i addr n began : Nat) (live : Bool), s.inReset = false →
    s.flp.grant = some ⟨.refill i addr n live, began⟩ → addr + 2 * n ≤ 16777216 →
    let xs := samplesOf (Memory.readRange s.flp.flash addr (2 * n))
    ∃ t, exec .refillComplete s = .next t ∧ SameBut [.flp, .snd] s t ∧ t.flp = { s.flp with grant := none } ∧
      (live = false → t.snd = s.snd) ∧
      (∀ c, live = true → i < s.snd.voices.length → s.clipOf (s.voice i) = some c →
        (t.voice i).buffer = (s.voice i).buffer ++ xs ∧ (t.voice i).primed = true ∧ xs.length = n ∧
        (t.voice i).position = (s.voice i).position ∧ (t.voice i).state = (s.voice i).state ∧
        (∀ a b, (s.voice i).loop = true → c.loop = some (a, b) →
          (t.voice i).fetch = (if (s.voice i).fetch + n = b then a else (s.voice i).fetch + n) ∧
          ((s.voice i).sounding = true → (s.voice i).buffer.length + n ≤ 256 →
            (t.voice i).refill = some ⟨(t.voice i).fetch, min 128 (b - (t.voice i).fetch)⟩)) ∧
        ((s.voice i).loop = false ∨ c.loop = none → (t.voice i).fetch = (s.voice i).fetch + n ∧
          ((s.voice i).sounding = true → (s.voice i).buffer.length + n ≤ 256 → (t.voice i).refill =
            if (t.voice i).fetch = c.length then none
            else some ⟨(t.voice i).fetch, min 128 (c.length - (t.voice i).fetch)⟩)) ∧
        (256 < (s.voice i).buffer.length + n → (t.voice i).refill = none) ∧
        ((s.voice i).sounding = false → (t.voice i).refill = none) ∧
        (∀ j, j ≠ i → t.voice j = s.voice j))

/-- FLASH_READ_COMPLETE answers DONE with the bytes; FLASH_READ_DEADLINE, when it has passed, withdraws or ends the read
and answers TIMEOUT with its notice. -/
def Obligations.FlashReadEnds : Prop :=
  ∀ (s : State) (r : HostRead), s.inReset = false → s.flp.read = some r →
    (∀ a n b, s.flp.grant = some ⟨.hostRead a n, b⟩ → a + n ≤ 16777216 →
      ∃ t, exec .flashReadComplete s = .next t ∧ SameBut [.flp, .port] s t ∧
        t.flp = { s.flp with grant := none, read := none } ∧
        t.port = { s.port with
          building := false, overrun := false
          held := some ⟨.ok, 0x30, r.key, false, false, s.port.overrun,
            [2] ++ u32 r.addr ++ Memory.readRange s.flp.flash a n⟩ }) ∧
    (r.deadline ≤ s.now →
      ∃ t, exec .flashReadDeadline s = .next t ∧ SameBut [.flp, .port, .ntu] s t ∧
        t.flp = { s.flp with read := none, grant := t.flp.grant } ∧
        (∀ a n b, s.flp.grant = some ⟨.hostRead a n, b⟩ → t.flp.grant = none) ∧
        ((∀ a n b, s.flp.grant ≠ some ⟨.hostRead a n, b⟩) → t.flp.grant = s.flp.grant) ∧
        t.port = { s.port with
          building := false, overrun := false
          held := some ⟨.ok, 0x30, r.key, false, false, s.port.overrun, [3] ++ u32 r.addr⟩ } ∧
        t.ntu = (s.raise (.flashTimeout .read)).ntu)

/-- HOST_STEP_COMPLETE: a program step clears bits of its own bytes only, an erase step sets its sector to FFh, no other
byte changes; progress counts the step, and the last one ends the operation DONE with its notice. -/
def Obligations.HostStepWrites : Prop :=
  ∀ (s : State) (w : Work) (began : Nat), s.inReset = false → Memory.wf s.flp.flash →
    s.flp.grant = some ⟨w, began⟩ → w.isStep = true → w.addr + w.size ≤ 16777216 →
    ∃ t, exec .hostStepComplete s = .next t ∧ SameBut [.flp, .ntu] s t ∧ t.flp.grant = none ∧
      t.flp.clips = s.flp.clips ∧ t.flp.queue = s.flp.queue ∧ t.flp.verifying = s.flp.verifying ∧
      t.flp.slot.done = s.flp.slot.done + 1 ∧
      (∀ a, a < w.addr ∨ w.addr + w.size ≤ a → Memory.read t.flp.flash a = Memory.read s.flp.flash a) ∧
      (∀ a d, w = .program a d → ∀ i b, d[i]? = some b →
        Memory.read t.flp.flash (a + i) = Memory.read s.flp.flash (a + i) &&& b) ∧
      (∀ a, w = .erase a → ∀ i, i < 4096 → Memory.read t.flp.flash (a + i) = 0xFF) ∧
      (s.flp.slot.done + 1 < s.flp.slot.total → t.ntu = s.ntu ∧ t.flp.slot.result = s.flp.slot.result) ∧
      (s.flp.slot.total ≤ s.flp.slot.done + 1 → t.flp.slot.result = .done ∧
        t.ntu = (s.raise (.flashDone s.flp.slot.op.flashOp)).ntu)

/-- FLASH_UNIT_TIMEOUT, once the limit has passed: the port is FREE, a verification ends BAD, a refill's request stays, a
FLASH_READ answers TIMEOUT, a step ends its operation TIMEOUT; no byte outside a program or erase step changes. -/
def Obligations.FlashUnitTimesOut : Prop :=
  ∀ (s : State) (g : Grant), s.inReset = false → Memory.wf s.flp.flash → s.flp.grant = some g →
    g.began + g.work.limit ≤ s.now →
    ∃ t, exec .flashUnitTimeout s = .next t ∧ SameBut [.flp, .ntu, .port, .free] s t ∧ t.flp.grant = none ∧
      t.flp.queue = s.flp.queue ∧ t.flp.lastHigh = s.flp.lastHigh ∧ t.flp.lowPrefersHost = s.flp.lowPrefersHost ∧
      (∀ a, g.work.isStep = false ∨ a < g.work.addr ∨ g.work.addr + g.work.size ≤ a →
        Memory.read t.flp.flash a = Memory.read s.flp.flash a) ∧
      (∀ i a n l, g.work = .refill i a n l → t.snd = s.snd ∧ t.ntu = (s.raise (.flashTimeout (.refill i))).ntu) ∧
      (∀ a n id, g.work = .verify a n true → s.flp.verifying.clip = some id → t.flp.verifying.clip = none ∧
        (Table.get t.flp.clips id) = (Table.get s.flp.clips id).map
          (fun c => { c with state := .bad .flashTimeout }) ∧
        t.ntu = (s.raise (.clipBad id .flashTimeout)).ntu) ∧
      (∀ a n r, g.work = .hostRead a n → s.flp.read = some r → t.flp.read = none ∧
        t.port.held = some ⟨.ok, 0x30, r.key, false, false, s.port.overrun, [3] ++ u32 r.addr⟩ ∧
        t.ntu = (s.raise (.flashTimeout .read)).ntu) ∧
      (g.work.isStep = true → t.flp.slot = { s.flp.slot with result := .timeout, failed := some g.work.addr } ∧
        t.ntu = (s.raise (.flashTimeout s.flp.slot.op.flashOp)).ntu)

/-- FLASH_READ waits for its read with the port BUILDING; FLASH_PROGRAM and FLASH_ERASE are ACCEPTED into the slot. -/
def Obligations.HostFlashRequests : Prop :=
  ∀ (s : State) (key addr : Nat), s.listening → s.flp.slot.result ≠ .running →
    (∀ len, 1 ≤ len → len ≤ 128 → addr + len ≤ 16777216 →
      ∃ t, exec (.flashRead key addr len) s = .next t ∧ SameBut [.port, .msv, .flp] s t ∧ t.msv = s.heard ∧
        t.port = { s.port with building := true, held := none, lastLink := s.now, spiOut := [] } ∧
        t.flp = { s.flp with read := some ⟨key, addr, len, s.now + 1800⟩ }) ∧
    ((∀ v ∈ s.snd.voices, v.state = .idle) →
      (∀ data : List Byte, 1 ≤ data.length → data.length ≤ 236 → addr + data.length ≤ 16777216 →
        s.liveClipIn addr (addr + data.length - 1) = false →
        ∃ t n, exec (.flashProgram key addr data) s = .next t ∧
          Answers s t [.flp] .accepted 0x31 key false false (u16 n) ∧
          n = (if (addr + data.length - 1) / 256 = addr / 256 then 1 else 2) ∧
          t.flp = { s.flp with
            slot := ⟨.program, addr, addr + data.length - 1, 0, n, .running, none, data⟩ }) ∧
      (∀ sectors, addr % 4096 = 0 → 1 ≤ sectors → sectors ≤ 4096 → addr + 4096 * sectors ≤ 16777216 →
        s.liveClipIn addr (addr + 4096 * sectors - 1) = false →
        ∃ t, exec (.flashErase key addr sectors) s = .next t ∧
          Answers s t [.flp] .accepted 0x32 key false false (u16 sectors) ∧
          t.flp = { s.flp with
            slot := ⟨.erase, addr, addr + 4096 * sectors - 1, 0, sectors, .running, none, []⟩ }))

/-! ### Sound (07) -/

/-- OUTPUT_SAMPLE mixes both buses: the sum of sample times gv over the sounding voices of a bus, floored by 256, times m,
floored by 256, saturated; a bus whose word was saturated has its clip flag set. -/
def Obligations.OutputSampleMixes : Prop :=
  ∀ s : State, s.inReset = false →
    ∃ t, exec .outputSample s = .next t ∧ SameBut [.snd, .ntu, .lines, .flp] s t ∧
      t.lines = { s.lines with front := t.lines.front, rear := t.lines.rear } ∧
      t.flp = { s.flp with grant := t.flp.grant } ∧ t.snd.m = s.snd.m ∧
      ∀ (bus : Buses → Bool) (word : Int) (was now_ : Bool),
        (bus = Buses.front ∧ word = t.lines.front ∧ was = s.snd.clipFront ∧ now_ = t.snd.clipFront) ∨
        (bus = Buses.rear ∧ word = t.lines.rear ∧ was = s.snd.clipRear ∧ now_ = t.snd.clipRear) →
        ∃ y z : Int,
          let acc := ((s.snd.voices.filter (fun v => v.sounding && bus v.buses)).map
            (fun v => v.buffer.headD 0 * (v.gv : Int))).sum
          y * 256 ≤ acc ∧ acc < y * 256 + 256 ∧ z * 256 ≤ y * s.snd.m ∧ y * s.snd.m < z * 256 + 256 ∧
          word = max (-32768) (min 32767 z) ∧ (now_ = true ↔ was = true ∨ word ≠ z)

/-- OUTPUT_SAMPLE at a voice: a sample leaves its buffer and the position advances, to the loop start at the loop end; the
last sample of a clip ends the voice; an empty buffer is waited for before the first refill and underruns after it. The
sample raises VOICE ENDED for each voice it ends and UNDERRUN for each that begins to underrun, in ascending voice number,
which is the model's choice (log 32), and no other notice; an UNDERRUN names the voice's owner (log 34). -/
def Obligations.OutputSampleAdvancesVoice : Prop :=
  ∀ (s : State) (i : Nat) (c : Clip), s.inReset = false → s.snd.voices.length = 6 → i < 6 →
    (s.voice i).sounding = true → s.clipOf (s.voice i) = some c →
    ∃ t, exec .outputSample s = .next t ∧
      (∀ x xs, (s.voice i).buffer = x :: xs →
        (∀ a b, (s.voice i).loop = true → c.loop = some (a, b) →
          (t.voice i).state = (s.voice i).state ∧ (t.voice i).buffer = xs ∧ (t.voice i).underrun = false ∧
          (t.voice i).position = if (s.voice i).position + 1 = b then a else (s.voice i).position + 1) ∧
        ((s.voice i).loop = false ∨ c.loop = none → (s.voice i).position + 1 ≠ c.length →
          (t.voice i).state = (s.voice i).state ∧ (t.voice i).buffer = xs ∧ (t.voice i).underrun = false ∧
          (t.voice i).position = (s.voice i).position + 1) ∧
        ((s.voice i).loop = false ∨ c.loop = none → (s.voice i).position + 1 = c.length →
          (t.voice i).state = .idle ∧ (t.voice i).buffer = [] ∧ (t.voice i).refill = none)) ∧
      ((s.voice i).buffer = [] →
        (t.voice i).state = (s.voice i).state ∧ (t.voice i).position = (s.voice i).position ∧
        ((s.voice i).primed = true → (t.voice i).underrun = true) ∧
        ((s.voice i).primed = false → (t.voice i).underrun = (s.voice i).underrun)) ∧
      (let notice (j : Nat) : Option Notice :=
         let v := s.voice j
         if v.sounding = false then none
         else if v.buffer = [] then
           if v.primed = true ∧ v.underrun = false then some (.voiceUnderrun j v.owner) else none
         else if (s.clipOf v).any (fun d => (!v.loop || d.loop.isNone) && decide (v.position + 1 = d.length)) then
           some (.voiceEnded j v.owner)
         else none
       t.ntu = State.ntu ((List.range 6).foldl (fun n j => (notice j).elim n (fun x => n.raise x)) s))

/-- FADE_MASTER_TICK takes the voice slew from every FADING voice, ends the ones that reach 0 and moves m one step up to
its target; VOICE_FADE_END ends a FADING voice whose gv stands at 0. -/
def Obligations.FadeAndMasterTick : Prop :=
  ∀ s : State, s.inReset = false → s.snd.voices.length = 6 →
    (∃ t, exec .fadeMasterTick s = .next t ∧ SameBut [.snd, .flp, .ntu] s t ∧
      t.snd.m = (if s.snd.m < s.masterTarget then s.snd.m + 1 else s.snd.m) ∧
      ∀ i, i < 6 →
        ((s.voice i).state ≠ .fading → t.voice i = s.voice i) ∧
        ((s.voice i).state = .fading → s.settings.voiceSlew < (s.voice i).gv →
          t.voice i = { s.voice i with gv := (s.voice i).gv - s.settings.voiceSlew }) ∧
        ((s.voice i).state = .fading → (s.voice i).gv ≤ s.settings.voiceSlew →
          t.voice i = { s.voice i with state := .idle, gv := 0, buffer := [], refill := none })) ∧
    (∀ i, i < 6 → (s.voice i).state = .fading → (s.voice i).gv = 0 →
      ∃ t, exec (.voiceFadeEnd i) s = .next t ∧ SameBut [.snd, .flp, .ntu] s t ∧
        t.voice i = { s.voice i with state := .idle, buffer := [], refill := none } ∧
        (∀ j, j ≠ i → t.voice j = s.voice j) ∧ t.snd.m = s.snd.m ∧
        t.ntu = (s.raise (.voiceEnded i (s.voice i).owner)).ntu)

/-- The voice chosen for a claim: the lowest IDLE one; else the oldest FADING one; else, among the PLAYING ones below the
claim's level, the lowest level and of these the oldest; none when there is no such voice, and the claim is then
refused. -/
def Obligations.ClaimChoosesVoice : Prop :=
  ∀ (vs : List Voice) (level : Nat),
    (∀ i, chooseVoice vs level = some i → ∃ v, vs[i]? = some v ∧
      ((v.state = .idle ∧ ∀ j u, vs[j]? = some u → u.state = .idle → i ≤ j) ∨
       (v.state = .fading ∧ (∀ u ∈ vs, u.state ≠ .idle) ∧ ∀ u ∈ vs, u.state = .fading → v.stamp ≤ u.stamp) ∨
       (v.state = .playing ∧ v.level < level ∧ (∀ u ∈ vs, u.state = .playing) ∧
          ∀ u ∈ vs, u.level < level → v.level < u.level ∨ (v.level = u.level ∧ v.stamp ≤ u.stamp)))) ∧
    (chooseVoice vs level = none → ∀ u ∈ vs, u.state = .playing ∧ level ≤ u.level) ∧
    (chooseVoice vs level = none → ∀ (s : State) (q : Claim), s.snd.voices = vs → q.level = level →
      s.claimVoice q = none)

/-- PLAY, HUSH with and without ALL and MASTER taken: the voice started, faded, or every PLAYING voice faded, and the host
master gain stored with m at most the target. -/
def Obligations.VoiceRequests : Prop :=
  ∀ (s : State) (key : Nat), s.listening →
    (∀ (w : PlayWire) c i, w.clip ≤ 63 → (w.buses.testBit 0 = true ∨ w.buses.testBit 1 = true) → w.level ≤ 3 →
      s.readyClip w.clip = some c → chooseVoice s.snd.voices w.level = some i →
      s.snd.startCounter + 1 < 2 ^ 48 → 0 < c.length →
      ∃ t, exec (.play key w) s = .next t ∧
        Answers s t [.snd, .flp, .ntu] .ok 0x2D key (decide (256 < w.gain)) false
          (u8 i ++ u48 s.snd.startCounter ++ u16 (c.gain * min 256 w.gain / 256)) ∧
        t.snd.startCounter = s.snd.startCounter + 1 ∧ (∀ j, j ≠ i → t.voice j = s.voice j) ∧
        t.voice i = ⟨.playing, some w.clip, 0, 0, w.flags.testBit 0, ⟨w.buses.testBit 0, w.buses.testBit 1⟩,
          c.gain * min 256 w.gain / 256, c.gain * min 256 w.gain / 256, w.level, .request, s.snd.startCounter,
          w.flags.testBit 1, [], false, false, (t.voice i).refill⟩ ∧
        ((t.voice i).refill.map (·.first)) = some 0) ∧
    (key ≤ 5 → (s.voice key).state ≠ .idle →
      ∃ t, exec (.hush key) s = .next t ∧
        Answers s t [.snd] .ok 0x2E key false false ([2] ++ u16 (s.voice key).gv) ∧
        t.voice key = { s.voice key with state := .fading } ∧ (∀ j, j ≠ key → t.voice j = s.voice j)) ∧
    (∃ t, exec (.hushAll key) s = .next t ∧
      Answers s t [.snd] .ok 0x2E key false false
        (u8 (s.snd.voices.filter (fun v => v.state = .playing)).length) ∧
      t.snd = { s.snd with voices := s.snd.voices.map (fun v =>
        if v.state = .playing then { v with state := .fading } else v) }) ∧
    (∀ gain, ∃ t, exec (.master key gain) s = .next t ∧
      Answers s t [.settings, .snd] .ok 0x2F key (decide (256 < gain)) false
        (u16 (min 256 gain) ++ u16 t.masterTarget ++ u16 t.snd.m) ∧
      t.settings = { s.settings with masterGain := min 256 gain } ∧
      t.snd = { s.snd with m := min s.snd.m t.masterTarget })

/-! ### Notices (08) -/

/-- What raising a notice does: dropped at level 0; else pending, counted up to 255, and its detail kept only if none is
held; the other sources stay. The NOTICE line is asserted exactly when the interlock is RELEASED and a source above the
mask, or of level 7, is pending. -/
def Obligations.NoticeRecorded : Prop :=
  ∀ (s : State) (n : Notice), s.ntu.sources.length = 12 →
    SameBut [.ntu] s (s.raise n) ∧ (∀ j, 1 ≤ j → j ≠ n.source → (s.raise n).source j = s.source j) ∧
    ((s.source n.source).level = 0 → (s.raise n).ntu = s.ntu) ∧
    (0 < (s.source n.source).level → (s.raise n).source n.source =
      ⟨(s.source n.source).level, true, min 255 ((s.source n.source).count + 1),
        if (s.source n.source).detail = none then some n else (s.source n.source).detail⟩) ∧
    (s.ntu.asserted = true ↔ s.ntu.released = true ∧ ∃ j, 1 ≤ j ∧ j ≤ 12 ∧ (s.source j).pending = true ∧
      (s.ntu.mask < (s.source j).level ∨ (s.source j).level = 7))

/-- PUT and AMEND SOURCE, NOTICE_SETUP and NOTICE_TAKE: a taken level stored with the source cleared, an AMEND that carries
none answered with the source as it stands, a failed check refused; base, mask and a RELEASED interlock; the pending source
of the highest level, the lowest number among equals, handed over and cleared. Choices of the model: PUT and AMEND answer
the whole GET layout (log 21); the bytes of an absent detail, and those after the listed ones of a present detail, are 00h
(log 33); the detail of an UNDERRUN carries the voice's owner (log 34). -/
def Obligations.NoticeRequests : Prop :=
  ∀ (s : State) (key : Nat), s.listening → s.ntu.sources.length = 12 →
    (∀ level presence, 2 ≤ key → key ≤ 12 → level ≤ 7 →
      ∀ c kind, (c = .putSource key level ∧ kind = 0x01) ∨
        (c = .amendSource key presence level ∧ kind = 0x03 ∧ presence % 2 = 1) →
      ∃ t, exec c s = .next t ∧
        Answers s t [.ntu] .ok kind key false false ([BitVec.ofNat 8 level] ++ List.replicate 10 0) ∧
        t.source key = ⟨level, false, 0, none⟩ ∧ (∀ j, 1 ≤ j → j ≠ key → t.source j = s.source j) ∧
        t.ntu = { s.ntu with sources := t.ntu.sources }) ∧
    (∀ level presence, 2 ≤ key → key ≤ 12 → presence % 2 = 0 →
      ∃ t, exec (.amendSource key presence level) s = .next t ∧
        Answers s t [] .ok 0x03 key false false (s.source key).bytes) ∧
    (∀ level presence, ∀ c kind, (c = .putSource key level ∧ kind = 0x01 ∧ (key < 2 ∨ 12 < key ∨ 7 < level)) ∨
        (c = .amendSource key presence level ∧ kind = 0x03 ∧ (key < 2 ∨ 12 < key ∨ (presence % 2 = 1 ∧ 7 < level))) →
      ∃ t, exec c s = .next t ∧ Answers s t [] .badField kind key false false []) ∧
    (∀ base mask, 1 ≤ base → base ≤ 15 → mask ≤ 7 →
      ∃ t, exec (.noticeSetup key base mask) s = .next t ∧
        Answers s t [.ntu] .ok 0x33 key false false (u8 base ++ u8 mask ++ [1] ++ u8 s.ntu.pendingCount) ∧
        t.ntu = { s.ntu with base := some base, mask := mask, released := true }) ∧
    (∀ base mask, base = 0 ∨ 15 < base ∨ 7 < mask →
      ∃ t, exec (.noticeSetup key base mask) s = .next t ∧ Answers s t [] .badField 0x33 key false false []) ∧
    (∀ n, 1 ≤ n → n ≤ 12 → (s.source n).pending = true →
      (∀ j, 1 ≤ j → j ≤ 12 → (s.source j).pending = true →
        (s.source j).level < (s.source n).level ∨ ((s.source j).level = (s.source n).level ∧ n ≤ j)) →
      ∃ t, exec (.noticeTake key) s = .next t ∧
        Answers s t [.ntu] .ok 0x34 key false false
          (u8 (s.ntu.base.getD 0 * 16 + n) ++ u8 (s.source n).count ++ u8 (s.ntu.pendingCount - 1) ++
            detailBytes (s.source n).detail) ∧
        t.source n = ⟨(s.source n).level, false, 0, none⟩ ∧ (∀ j, 1 ≤ j → j ≠ n → t.source j = s.source j) ∧
        t.ntu = { s.ntu with sources := t.ntu.sources }) ∧
    ((∀ j, 1 ≤ j → j ≤ 12 → (s.source j).pending = false) →
      ∃ t, exec (.noticeTake key) s = .next t ∧
        Answers s t [] .ok 0x34 key false false (u8 (s.ntu.base.getD 0 * 16) ++ List.replicate 10 0))

/-! ### Reading records (09 R177) -/

/-- GET of a present record of each class answers its layout and changes nothing; the LINE bytes the spec does not state
for a free output are free values (log 9). Choices of the model: the encoder of LINE 12 is the last sample's reading (log
11), the release timer of SEAT is rounded up to a millisecond (log 5), the bytes of SOURCE's detail that no table lists are
00h (log 33), and the detail of an UNDERRUN carries the voice's owner (log 34). -/
def Obligations.GetRequests : Prop :=
  ∀ (s : State) (key : Nat), s.listening →
    let answers (c : Instr) (p : List Byte) : Prop := ∃ t, exec c s = .next t ∧ Answers s t [] .ok 0x02 key false false p
    (∀ g, key ≤ 127 → Table.get s.pos.segments key = some g → answers (.getSegment key) (g.bytes (s.segState key))) ∧
    (∀ u, key = 0 → s.pos.authority = some u → answers (.getAuthority key)
      (u8 u.segment ++ u16 u.offset ++ u32 (s.dAuth.getD 0) ++ u8 s.pos.path.length ++ s.pos.path.flatMap u8)) ∧
    (key ≤ 7 → answers (.getSeat key) ((s.seat key).bytes s.now)) ∧
    (∀ c, key ≤ 95 → Table.get s.cue.cues key = some c → answers (.getCue key) c.bytes) ∧
    (∀ c, key ≤ 63 → Table.get s.flp.clips key = some c → answers (.getClip key) (c.bytes (s.clipProgress key c))) ∧
    (1 ≤ key → key ≤ 12 → answers (.getSource key) (s.source key).bytes) ∧
    (key = 0 → answers (.getSettings key) s.settings.bytes) ∧
    (key ≤ 5 → answers (.getVoice key) (s.voice key).bytes) ∧
    (∀ h, key ≤ 11 → s.cue.lines[key]? = some (some h) → answers (.getLine key) h.bytes) ∧
    (key ≤ 11 → s.cue.lines[key]? = some none → ∃ t p, exec (.getLine key) s = .next t ∧ p.length = 10 ∧
      Answers s t [.free] .ok 0x02 key false false ([0xFF] ++ p ++ [0])) ∧
    (∀ h, key = 12 → s.cue.turntable = some h → answers (.getLine key)
      (u8 h.holder ++ u8 h.level ++ s16 s.gdu.yawTarget ++ s16 s.gdu.yawCmd ++ s16 s.lines.encoder)) ∧
    (key = 12 → s.cue.turntable = none → ∃ t p, exec (.getLine key) s = .next t ∧ p.length = 1 ∧
      Answers s t [.free] .ok 0x02 key false false
        ([0xFF] ++ p ++ s16 s.gdu.yawTarget ++ s16 s.gdu.yawCmd ++ s16 s.lines.encoder)) ∧
    (key = 13 → answers (.getLine key)
      (u8 (if s.cue.beaconEnd = none then 0 else 1) ++ u8 s.cue.beacon.length ++ s.cue.beacon.flatMap u8))

/-- LIST of each class answers the keys present in ascending order with their state bytes and changes nothing. -/
def Obligations.ListRequests : Prop :=
  ∀ (s : State) (key : Nat), s.listening → s.Shaped →
    let answers (c : Instr) (l : List (Nat × Nat)) : Prop := ∃ t, exec c s = .next t ∧
      Answers s t [] .ok 0x05 key false false (u8 l.length ++ l.flatMap (fun p => u8 p.1 ++ u8 p.2)) ∧
      l.Pairwise (fun a b => a.1 < b.1)
    answers (.listSegment key) (s.pos.segments.map (fun p => (p.1, (s.segState p.1).code))) ∧
    (key = 0 → answers (.listAuthority key) (match s.pos.authority with | some u => [(0, u.segment)] | none => [])) ∧
    answers (.listSeat key) ((List.range 8).map (fun i => (i, (s.seat i).state.code))) ∧
    answers (.listCue key) (s.cue.cues.map (fun p => (p.1, p.2.state.code))) ∧
    answers (.listClip key) (s.flp.clips.map (fun p => (p.1, p.2.state.code))) ∧
    answers (.listSource key) ((List.range 12).map (fun i =>
      (i + 1, (s.source (i + 1)).level + if (s.source (i + 1)).pending then 128 else 0))) ∧
    answers (.listSettings key) [(0, 0)] ∧
    answers (.listVoice key) ((List.range 6).map (fun i => (i, (s.voice i).state.code))) ∧
    answers (.listLine key) ((List.range 12).map (fun i =>
      (i, ((s.cue.lines.getD i none).map (·.holder)).getD 255)) ++
      [(12, (s.cue.turntable.map (·.holder)).getD 255), (13, s.cue.beacon.length)])
end

