-- ==== Sys2Proof/Laws/State.lean ====
section
/-! SUPPORT. What each setter of the state leaves in each field: one lemma per field per setter. -/

namespace Sys2Proof.Machine

variable (s : State)

@[simp] theorem State.setNow_now (v : Nat) : (s.setNow v).now = v := rfl
@[simp] theorem State.setNow_free (v : Nat) : (s.setNow v).free = s.free := rfl
@[simp] theorem State.setNow_inReset (v : Nat) : (s.setNow v).inReset = s.inReset := rfl
@[simp] theorem State.setNow_settings (v : Nat) : (s.setNow v).settings = s.settings := rfl
@[simp] theorem State.setNow_pos (v : Nat) : (s.setNow v).pos = s.pos := rfl
@[simp] theorem State.setNow_gdu (v : Nat) : (s.setNow v).gdu = s.gdu := rfl
@[simp] theorem State.setNow_msv (v : Nat) : (s.setNow v).msv = s.msv := rfl
@[simp] theorem State.setNow_rsm (v : Nat) : (s.setNow v).rsm = s.rsm := rfl
@[simp] theorem State.setNow_cue (v : Nat) : (s.setNow v).cue = s.cue := rfl
@[simp] theorem State.setNow_flp (v : Nat) : (s.setNow v).flp = s.flp := rfl
@[simp] theorem State.setNow_snd (v : Nat) : (s.setNow v).snd = s.snd := rfl
@[simp] theorem State.setNow_ntu (v : Nat) : (s.setNow v).ntu = s.ntu := rfl
@[simp] theorem State.setNow_port (v : Nat) : (s.setNow v).port = s.port := rfl
@[simp] theorem State.setNow_lines (v : Nat) : (s.setNow v).lines = s.lines := rfl
@[simp] theorem State.setNow_pending (v : Nat) : (s.setNow v).pending = s.pending := rfl

@[simp] theorem State.setFree_now (v : Nat) : (s.setFree v).now = s.now := rfl
@[simp] theorem State.setFree_free (v : Nat) : (s.setFree v).free = v := rfl
@[simp] theorem State.setFree_inReset (v : Nat) : (s.setFree v).inReset = s.inReset := rfl
@[simp] theorem State.setFree_settings (v : Nat) : (s.setFree v).settings = s.settings := rfl
@[simp] theorem State.setFree_pos (v : Nat) : (s.setFree v).pos = s.pos := rfl
@[simp] theorem State.setFree_gdu (v : Nat) : (s.setFree v).gdu = s.gdu := rfl
@[simp] theorem State.setFree_msv (v : Nat) : (s.setFree v).msv = s.msv := rfl
@[simp] theorem State.setFree_rsm (v : Nat) : (s.setFree v).rsm = s.rsm := rfl
@[simp] theorem State.setFree_cue (v : Nat) : (s.setFree v).cue = s.cue := rfl
@[simp] theorem State.setFree_flp (v : Nat) : (s.setFree v).flp = s.flp := rfl
@[simp] theorem State.setFree_snd (v : Nat) : (s.setFree v).snd = s.snd := rfl
@[simp] theorem State.setFree_ntu (v : Nat) : (s.setFree v).ntu = s.ntu := rfl
@[simp] theorem State.setFree_port (v : Nat) : (s.setFree v).port = s.port := rfl
@[simp] theorem State.setFree_lines (v : Nat) : (s.setFree v).lines = s.lines := rfl
@[simp] theorem State.setFree_pending (v : Nat) : (s.setFree v).pending = s.pending := rfl

@[simp] theorem State.setInReset_now (v : Bool) : (s.setInReset v).now = s.now := rfl
@[simp] theorem State.setInReset_free (v : Bool) : (s.setInReset v).free = s.free := rfl
@[simp] theorem State.setInReset_inReset (v : Bool) : (s.setInReset v).inReset = v := rfl
@[simp] theorem State.setInReset_settings (v : Bool) : (s.setInReset v).settings = s.settings := rfl
@[simp] theorem State.setInReset_pos (v : Bool) : (s.setInReset v).pos = s.pos := rfl
@[simp] theorem State.setInReset_gdu (v : Bool) : (s.setInReset v).gdu = s.gdu := rfl
@[simp] theorem State.setInReset_msv (v : Bool) : (s.setInReset v).msv = s.msv := rfl
@[simp] theorem State.setInReset_rsm (v : Bool) : (s.setInReset v).rsm = s.rsm := rfl
@[simp] theorem State.setInReset_cue (v : Bool) : (s.setInReset v).cue = s.cue := rfl
@[simp] theorem State.setInReset_flp (v : Bool) : (s.setInReset v).flp = s.flp := rfl
@[simp] theorem State.setInReset_snd (v : Bool) : (s.setInReset v).snd = s.snd := rfl
@[simp] theorem State.setInReset_ntu (v : Bool) : (s.setInReset v).ntu = s.ntu := rfl
@[simp] theorem State.setInReset_port (v : Bool) : (s.setInReset v).port = s.port := rfl
@[simp] theorem State.setInReset_lines (v : Bool) : (s.setInReset v).lines = s.lines := rfl
@[simp] theorem State.setInReset_pending (v : Bool) : (s.setInReset v).pending = s.pending := rfl

@[simp] theorem State.setSettings_now (v : Settings) : (s.setSettings v).now = s.now := rfl
@[simp] theorem State.setSettings_free (v : Settings) : (s.setSettings v).free = s.free := rfl
@[simp] theorem State.setSettings_inReset (v : Settings) : (s.setSettings v).inReset = s.inReset := rfl
@[simp] theorem State.setSettings_settings (v : Settings) : (s.setSettings v).settings = v := rfl
@[simp] theorem State.setSettings_pos (v : Settings) : (s.setSettings v).pos = s.pos := rfl
@[simp] theorem State.setSettings_gdu (v : Settings) : (s.setSettings v).gdu = s.gdu := rfl
@[simp] theorem State.setSettings_msv (v : Settings) : (s.setSettings v).msv = s.msv := rfl
@[simp] theorem State.setSettings_rsm (v : Settings) : (s.setSettings v).rsm = s.rsm := rfl
@[simp] theorem State.setSettings_cue (v : Settings) : (s.setSettings v).cue = s.cue := rfl
@[simp] theorem State.setSettings_flp (v : Settings) : (s.setSettings v).flp = s.flp := rfl
@[simp] theorem State.setSettings_snd (v : Settings) : (s.setSettings v).snd = s.snd := rfl
@[simp] theorem State.setSettings_ntu (v : Settings) : (s.setSettings v).ntu = s.ntu := rfl
@[simp] theorem State.setSettings_port (v : Settings) : (s.setSettings v).port = s.port := rfl
@[simp] theorem State.setSettings_lines (v : Settings) : (s.setSettings v).lines = s.lines := rfl
@[simp] theorem State.setSettings_pending (v : Settings) : (s.setSettings v).pending = s.pending := rfl

@[simp] theorem State.setPos_now (v : Pos) : (s.setPos v).now = s.now := rfl
@[simp] theorem State.setPos_free (v : Pos) : (s.setPos v).free = s.free := rfl
@[simp] theorem State.setPos_inReset (v : Pos) : (s.setPos v).inReset = s.inReset := rfl
@[simp] theorem State.setPos_settings (v : Pos) : (s.setPos v).settings = s.settings := rfl
@[simp] theorem State.setPos_pos (v : Pos) : (s.setPos v).pos = v := rfl
@[simp] theorem State.setPos_gdu (v : Pos) : (s.setPos v).gdu = s.gdu := rfl
@[simp] theorem State.setPos_msv (v : Pos) : (s.setPos v).msv = s.msv := rfl
@[simp] theorem State.setPos_rsm (v : Pos) : (s.setPos v).rsm = s.rsm := rfl
@[simp] theorem State.setPos_cue (v : Pos) : (s.setPos v).cue = s.cue := rfl
@[simp] theorem State.setPos_flp (v : Pos) : (s.setPos v).flp = s.flp := rfl
@[simp] theorem State.setPos_snd (v : Pos) : (s.setPos v).snd = s.snd := rfl
@[simp] theorem State.setPos_ntu (v : Pos) : (s.setPos v).ntu = s.ntu := rfl
@[simp] theorem State.setPos_port (v : Pos) : (s.setPos v).port = s.port := rfl
@[simp] theorem State.setPos_lines (v : Pos) : (s.setPos v).lines = s.lines := rfl
@[simp] theorem State.setPos_pending (v : Pos) : (s.setPos v).pending = s.pending := rfl

@[simp] theorem State.setGdu_now (v : Gdu) : (s.setGdu v).now = s.now := rfl
@[simp] theorem State.setGdu_free (v : Gdu) : (s.setGdu v).free = s.free := rfl
@[simp] theorem State.setGdu_inReset (v : Gdu) : (s.setGdu v).inReset = s.inReset := rfl
@[simp] theorem State.setGdu_settings (v : Gdu) : (s.setGdu v).settings = s.settings := rfl
@[simp] theorem State.setGdu_pos (v : Gdu) : (s.setGdu v).pos = s.pos := rfl
@[simp] theorem State.setGdu_gdu (v : Gdu) : (s.setGdu v).gdu = v := rfl
@[simp] theorem State.setGdu_msv (v : Gdu) : (s.setGdu v).msv = s.msv := rfl
@[simp] theorem State.setGdu_rsm (v : Gdu) : (s.setGdu v).rsm = s.rsm := rfl
@[simp] theorem State.setGdu_cue (v : Gdu) : (s.setGdu v).cue = s.cue := rfl
@[simp] theorem State.setGdu_flp (v : Gdu) : (s.setGdu v).flp = s.flp := rfl
@[simp] theorem State.setGdu_snd (v : Gdu) : (s.setGdu v).snd = s.snd := rfl
@[simp] theorem State.setGdu_ntu (v : Gdu) : (s.setGdu v).ntu = s.ntu := rfl
@[simp] theorem State.setGdu_port (v : Gdu) : (s.setGdu v).port = s.port := rfl
@[simp] theorem State.setGdu_lines (v : Gdu) : (s.setGdu v).lines = s.lines := rfl
@[simp] theorem State.setGdu_pending (v : Gdu) : (s.setGdu v).pending = s.pending := rfl

@[simp] theorem State.setMsv_now (v : Msv) : (s.setMsv v).now = s.now := rfl
@[simp] theorem State.setMsv_free (v : Msv) : (s.setMsv v).free = s.free := rfl
@[simp] theorem State.setMsv_inReset (v : Msv) : (s.setMsv v).inReset = s.inReset := rfl
@[simp] theorem State.setMsv_settings (v : Msv) : (s.setMsv v).settings = s.settings := rfl
@[simp] theorem State.setMsv_pos (v : Msv) : (s.setMsv v).pos = s.pos := rfl
@[simp] theorem State.setMsv_gdu (v : Msv) : (s.setMsv v).gdu = s.gdu := rfl
@[simp] theorem State.setMsv_msv (v : Msv) : (s.setMsv v).msv = v := rfl
@[simp] theorem State.setMsv_rsm (v : Msv) : (s.setMsv v).rsm = s.rsm := rfl
@[simp] theorem State.setMsv_cue (v : Msv) : (s.setMsv v).cue = s.cue := rfl
@[simp] theorem State.setMsv_flp (v : Msv) : (s.setMsv v).flp = s.flp := rfl
@[simp] theorem State.setMsv_snd (v : Msv) : (s.setMsv v).snd = s.snd := rfl
@[simp] theorem State.setMsv_ntu (v : Msv) : (s.setMsv v).ntu = s.ntu := rfl
@[simp] theorem State.setMsv_port (v : Msv) : (s.setMsv v).port = s.port := rfl
@[simp] theorem State.setMsv_lines (v : Msv) : (s.setMsv v).lines = s.lines := rfl
@[simp] theorem State.setMsv_pending (v : Msv) : (s.setMsv v).pending = s.pending := rfl

@[simp] theorem State.setRsm_now (v : Rsm) : (s.setRsm v).now = s.now := rfl
@[simp] theorem State.setRsm_free (v : Rsm) : (s.setRsm v).free = s.free := rfl
@[simp] theorem State.setRsm_inReset (v : Rsm) : (s.setRsm v).inReset = s.inReset := rfl
@[simp] theorem State.setRsm_settings (v : Rsm) : (s.setRsm v).settings = s.settings := rfl
@[simp] theorem State.setRsm_pos (v : Rsm) : (s.setRsm v).pos = s.pos := rfl
@[simp] theorem State.setRsm_gdu (v : Rsm) : (s.setRsm v).gdu = s.gdu := rfl
@[simp] theorem State.setRsm_msv (v : Rsm) : (s.setRsm v).msv = s.msv := rfl
@[simp] theorem State.setRsm_rsm (v : Rsm) : (s.setRsm v).rsm = v := rfl
@[simp] theorem State.setRsm_cue (v : Rsm) : (s.setRsm v).cue = s.cue := rfl
@[simp] theorem State.setRsm_flp (v : Rsm) : (s.setRsm v).flp = s.flp := rfl
@[simp] theorem State.setRsm_snd (v : Rsm) : (s.setRsm v).snd = s.snd := rfl
@[simp] theorem State.setRsm_ntu (v : Rsm) : (s.setRsm v).ntu = s.ntu := rfl
@[simp] theorem State.setRsm_port (v : Rsm) : (s.setRsm v).port = s.port := rfl
@[simp] theorem State.setRsm_lines (v : Rsm) : (s.setRsm v).lines = s.lines := rfl
@[simp] theorem State.setRsm_pending (v : Rsm) : (s.setRsm v).pending = s.pending := rfl

@[simp] theorem State.setCue_now (v : CueUnit) : (s.setCue v).now = s.now := rfl
@[simp] theorem State.setCue_free (v : CueUnit) : (s.setCue v).free = s.free := rfl
@[simp] theorem State.setCue_inReset (v : CueUnit) : (s.setCue v).inReset = s.inReset := rfl
@[simp] theorem State.setCue_settings (v : CueUnit) : (s.setCue v).settings = s.settings := rfl
@[simp] theorem State.setCue_pos (v : CueUnit) : (s.setCue v).pos = s.pos := rfl
@[simp] theorem State.setCue_gdu (v : CueUnit) : (s.setCue v).gdu = s.gdu := rfl
@[simp] theorem State.setCue_msv (v : CueUnit) : (s.setCue v).msv = s.msv := rfl
@[simp] theorem State.setCue_rsm (v : CueUnit) : (s.setCue v).rsm = s.rsm := rfl
@[simp] theorem State.setCue_cue (v : CueUnit) : (s.setCue v).cue = v := rfl
@[simp] theorem State.setCue_flp (v : CueUnit) : (s.setCue v).flp = s.flp := rfl
@[simp] theorem State.setCue_snd (v : CueUnit) : (s.setCue v).snd = s.snd := rfl
@[simp] theorem State.setCue_ntu (v : CueUnit) : (s.setCue v).ntu = s.ntu := rfl
@[simp] theorem State.setCue_port (v : CueUnit) : (s.setCue v).port = s.port := rfl
@[simp] theorem State.setCue_lines (v : CueUnit) : (s.setCue v).lines = s.lines := rfl
@[simp] theorem State.setCue_pending (v : CueUnit) : (s.setCue v).pending = s.pending := rfl

@[simp] theorem State.setFlp_now (v : Flp) : (s.setFlp v).now = s.now := rfl
@[simp] theorem State.setFlp_free (v : Flp) : (s.setFlp v).free = s.free := rfl
@[simp] theorem State.setFlp_inReset (v : Flp) : (s.setFlp v).inReset = s.inReset := rfl
@[simp] theorem State.setFlp_settings (v : Flp) : (s.setFlp v).settings = s.settings := rfl
@[simp] theorem State.setFlp_pos (v : Flp) : (s.setFlp v).pos = s.pos := rfl
@[simp] theorem State.setFlp_gdu (v : Flp) : (s.setFlp v).gdu = s.gdu := rfl
@[simp] theorem State.setFlp_msv (v : Flp) : (s.setFlp v).msv = s.msv := rfl
@[simp] theorem State.setFlp_rsm (v : Flp) : (s.setFlp v).rsm = s.rsm := rfl
@[simp] theorem State.setFlp_cue (v : Flp) : (s.setFlp v).cue = s.cue := rfl
@[simp] theorem State.setFlp_flp (v : Flp) : (s.setFlp v).flp = v := rfl
@[simp] theorem State.setFlp_snd (v : Flp) : (s.setFlp v).snd = s.snd := rfl
@[simp] theorem State.setFlp_ntu (v : Flp) : (s.setFlp v).ntu = s.ntu := rfl
@[simp] theorem State.setFlp_port (v : Flp) : (s.setFlp v).port = s.port := rfl
@[simp] theorem State.setFlp_lines (v : Flp) : (s.setFlp v).lines = s.lines := rfl
@[simp] theorem State.setFlp_pending (v : Flp) : (s.setFlp v).pending = s.pending := rfl

@[simp] theorem State.setSnd_now (v : Snd) : (s.setSnd v).now = s.now := rfl
@[simp] theorem State.setSnd_free (v : Snd) : (s.setSnd v).free = s.free := rfl
@[simp] theorem State.setSnd_inReset (v : Snd) : (s.setSnd v).inReset = s.inReset := rfl
@[simp] theorem State.setSnd_settings (v : Snd) : (s.setSnd v).settings = s.settings := rfl
@[simp] theorem State.setSnd_pos (v : Snd) : (s.setSnd v).pos = s.pos := rfl
@[simp] theorem State.setSnd_gdu (v : Snd) : (s.setSnd v).gdu = s.gdu := rfl
@[simp] theorem State.setSnd_msv (v : Snd) : (s.setSnd v).msv = s.msv := rfl
@[simp] theorem State.setSnd_rsm (v : Snd) : (s.setSnd v).rsm = s.rsm := rfl
@[simp] theorem State.setSnd_cue (v : Snd) : (s.setSnd v).cue = s.cue := rfl
@[simp] theorem State.setSnd_flp (v : Snd) : (s.setSnd v).flp = s.flp := rfl
@[simp] theorem State.setSnd_snd (v : Snd) : (s.setSnd v).snd = v := rfl
@[simp] theorem State.setSnd_ntu (v : Snd) : (s.setSnd v).ntu = s.ntu := rfl
@[simp] theorem State.setSnd_port (v : Snd) : (s.setSnd v).port = s.port := rfl
@[simp] theorem State.setSnd_lines (v : Snd) : (s.setSnd v).lines = s.lines := rfl
@[simp] theorem State.setSnd_pending (v : Snd) : (s.setSnd v).pending = s.pending := rfl

@[simp] theorem State.setNtu_now (v : Ntu) : (s.setNtu v).now = s.now := rfl
@[simp] theorem State.setNtu_free (v : Ntu) : (s.setNtu v).free = s.free := rfl
@[simp] theorem State.setNtu_inReset (v : Ntu) : (s.setNtu v).inReset = s.inReset := rfl
@[simp] theorem State.setNtu_settings (v : Ntu) : (s.setNtu v).settings = s.settings := rfl
@[simp] theorem State.setNtu_pos (v : Ntu) : (s.setNtu v).pos = s.pos := rfl
@[simp] theorem State.setNtu_gdu (v : Ntu) : (s.setNtu v).gdu = s.gdu := rfl
@[simp] theorem State.setNtu_msv (v : Ntu) : (s.setNtu v).msv = s.msv := rfl
@[simp] theorem State.setNtu_rsm (v : Ntu) : (s.setNtu v).rsm = s.rsm := rfl
@[simp] theorem State.setNtu_cue (v : Ntu) : (s.setNtu v).cue = s.cue := rfl
@[simp] theorem State.setNtu_flp (v : Ntu) : (s.setNtu v).flp = s.flp := rfl
@[simp] theorem State.setNtu_snd (v : Ntu) : (s.setNtu v).snd = s.snd := rfl
@[simp] theorem State.setNtu_ntu (v : Ntu) : (s.setNtu v).ntu = v := rfl
@[simp] theorem State.setNtu_port (v : Ntu) : (s.setNtu v).port = s.port := rfl
@[simp] theorem State.setNtu_lines (v : Ntu) : (s.setNtu v).lines = s.lines := rfl
@[simp] theorem State.setNtu_pending (v : Ntu) : (s.setNtu v).pending = s.pending := rfl

@[simp] theorem State.setPort_now (v : Port) : (s.setPort v).now = s.now := rfl
@[simp] theorem State.setPort_free (v : Port) : (s.setPort v).free = s.free := rfl
@[simp] theorem State.setPort_inReset (v : Port) : (s.setPort v).inReset = s.inReset := rfl
@[simp] theorem State.setPort_settings (v : Port) : (s.setPort v).settings = s.settings := rfl
@[simp] theorem State.setPort_pos (v : Port) : (s.setPort v).pos = s.pos := rfl
@[simp] theorem State.setPort_gdu (v : Port) : (s.setPort v).gdu = s.gdu := rfl
@[simp] theorem State.setPort_msv (v : Port) : (s.setPort v).msv = s.msv := rfl
@[simp] theorem State.setPort_rsm (v : Port) : (s.setPort v).rsm = s.rsm := rfl
@[simp] theorem State.setPort_cue (v : Port) : (s.setPort v).cue = s.cue := rfl
@[simp] theorem State.setPort_flp (v : Port) : (s.setPort v).flp = s.flp := rfl
@[simp] theorem State.setPort_snd (v : Port) : (s.setPort v).snd = s.snd := rfl
@[simp] theorem State.setPort_ntu (v : Port) : (s.setPort v).ntu = s.ntu := rfl
@[simp] theorem State.setPort_port (v : Port) : (s.setPort v).port = v := rfl
@[simp] theorem State.setPort_lines (v : Port) : (s.setPort v).lines = s.lines := rfl
@[simp] theorem State.setPort_pending (v : Port) : (s.setPort v).pending = s.pending := rfl

@[simp] theorem State.setLines_now (v : Lines) : (s.setLines v).now = s.now := rfl
@[simp] theorem State.setLines_free (v : Lines) : (s.setLines v).free = s.free := rfl
@[simp] theorem State.setLines_inReset (v : Lines) : (s.setLines v).inReset = s.inReset := rfl
@[simp] theorem State.setLines_settings (v : Lines) : (s.setLines v).settings = s.settings := rfl
@[simp] theorem State.setLines_pos (v : Lines) : (s.setLines v).pos = s.pos := rfl
@[simp] theorem State.setLines_gdu (v : Lines) : (s.setLines v).gdu = s.gdu := rfl
@[simp] theorem State.setLines_msv (v : Lines) : (s.setLines v).msv = s.msv := rfl
@[simp] theorem State.setLines_rsm (v : Lines) : (s.setLines v).rsm = s.rsm := rfl
@[simp] theorem State.setLines_cue (v : Lines) : (s.setLines v).cue = s.cue := rfl
@[simp] theorem State.setLines_flp (v : Lines) : (s.setLines v).flp = s.flp := rfl
@[simp] theorem State.setLines_snd (v : Lines) : (s.setLines v).snd = s.snd := rfl
@[simp] theorem State.setLines_ntu (v : Lines) : (s.setLines v).ntu = s.ntu := rfl
@[simp] theorem State.setLines_port (v : Lines) : (s.setLines v).port = s.port := rfl
@[simp] theorem State.setLines_lines (v : Lines) : (s.setLines v).lines = v := rfl
@[simp] theorem State.setLines_pending (v : Lines) : (s.setLines v).pending = s.pending := rfl

@[simp] theorem State.setPending_now (v : List Instr) : (s.setPending v).now = s.now := rfl
@[simp] theorem State.setPending_free (v : List Instr) : (s.setPending v).free = s.free := rfl
@[simp] theorem State.setPending_inReset (v : List Instr) : (s.setPending v).inReset = s.inReset := rfl
@[simp] theorem State.setPending_settings (v : List Instr) : (s.setPending v).settings = s.settings := rfl
@[simp] theorem State.setPending_pos (v : List Instr) : (s.setPending v).pos = s.pos := rfl
@[simp] theorem State.setPending_gdu (v : List Instr) : (s.setPending v).gdu = s.gdu := rfl
@[simp] theorem State.setPending_msv (v : List Instr) : (s.setPending v).msv = s.msv := rfl
@[simp] theorem State.setPending_rsm (v : List Instr) : (s.setPending v).rsm = s.rsm := rfl
@[simp] theorem State.setPending_cue (v : List Instr) : (s.setPending v).cue = s.cue := rfl
@[simp] theorem State.setPending_flp (v : List Instr) : (s.setPending v).flp = s.flp := rfl
@[simp] theorem State.setPending_snd (v : List Instr) : (s.setPending v).snd = s.snd := rfl
@[simp] theorem State.setPending_ntu (v : List Instr) : (s.setPending v).ntu = s.ntu := rfl
@[simp] theorem State.setPending_port (v : List Instr) : (s.setPending v).port = s.port := rfl
@[simp] theorem State.setPending_lines (v : List Instr) : (s.setPending v).lines = s.lines := rfl
@[simp] theorem State.setPending_pending (v : List Instr) : (s.setPending v).pending = v := rfl

end Sys2Proof.Machine
end

