-- ==== Sys2Proof/Laws/Ops.lean ====
section
/-! SUPPORT. What each shared operation leaves as it was: one lemma per field, and one lemma that says all a reason can do
when it is added. -/

namespace Sys2Proof.Machine

variable (s : State)

theorem State.tick_eq : s.tick = s.setNow (s.now + 1) := rfl

@[simp] theorem State.raise_now (n : Notice) : (s.raise n).now = s.now := rfl
@[simp] theorem State.raise_free (n : Notice) : (s.raise n).free = s.free := rfl
@[simp] theorem State.raise_inReset (n : Notice) : (s.raise n).inReset = s.inReset := rfl
@[simp] theorem State.raise_settings (n : Notice) : (s.raise n).settings = s.settings := rfl
@[simp] theorem State.raise_pos (n : Notice) : (s.raise n).pos = s.pos := rfl
@[simp] theorem State.raise_gdu (n : Notice) : (s.raise n).gdu = s.gdu := rfl
@[simp] theorem State.raise_msv (n : Notice) : (s.raise n).msv = s.msv := rfl
@[simp] theorem State.raise_rsm (n : Notice) : (s.raise n).rsm = s.rsm := rfl
@[simp] theorem State.raise_cue (n : Notice) : (s.raise n).cue = s.cue := rfl
@[simp] theorem State.raise_flp (n : Notice) : (s.raise n).flp = s.flp := rfl
@[simp] theorem State.raise_snd (n : Notice) : (s.raise n).snd = s.snd := rfl
@[simp] theorem State.raise_port (n : Notice) : (s.raise n).port = s.port := rfl
@[simp] theorem State.raise_lines (n : Notice) : (s.raise n).lines = s.lines := rfl
@[simp] theorem State.raise_pending (n : Notice) : (s.raise n).pending = s.pending := rfl

@[simp] theorem State.setVoice_now (i : Nat) (v : Voice) : (State.setVoice i v s).now = s.now := rfl
@[simp] theorem State.setVoice_free (i : Nat) (v : Voice) : (State.setVoice i v s).free = s.free := rfl
@[simp] theorem State.setVoice_inReset (i : Nat) (v : Voice) : (State.setVoice i v s).inReset = s.inReset := rfl
@[simp] theorem State.setVoice_settings (i : Nat) (v : Voice) : (State.setVoice i v s).settings = s.settings := rfl
@[simp] theorem State.setVoice_pos (i : Nat) (v : Voice) : (State.setVoice i v s).pos = s.pos := rfl
@[simp] theorem State.setVoice_gdu (i : Nat) (v : Voice) : (State.setVoice i v s).gdu = s.gdu := rfl
@[simp] theorem State.setVoice_msv (i : Nat) (v : Voice) : (State.setVoice i v s).msv = s.msv := rfl
@[simp] theorem State.setVoice_rsm (i : Nat) (v : Voice) : (State.setVoice i v s).rsm = s.rsm := rfl
@[simp] theorem State.setVoice_cue (i : Nat) (v : Voice) : (State.setVoice i v s).cue = s.cue := rfl
@[simp] theorem State.setVoice_flp (i : Nat) (v : Voice) : (State.setVoice i v s).flp = s.flp := rfl
@[simp] theorem State.setVoice_ntu (i : Nat) (v : Voice) : (State.setVoice i v s).ntu = s.ntu := rfl
@[simp] theorem State.setVoice_port (i : Nat) (v : Voice) : (State.setVoice i v s).port = s.port := rfl
@[simp] theorem State.setVoice_lines (i : Nat) (v : Voice) : (State.setVoice i v s).lines = s.lines := rfl
@[simp] theorem State.setVoice_pending (i : Nat) (v : Voice) : (State.setVoice i v s).pending = s.pending := rfl

@[simp] theorem State.withdrawRefill_now (i : Nat) : (s.withdrawRefill i).now = s.now := rfl
@[simp] theorem State.withdrawRefill_free (i : Nat) : (s.withdrawRefill i).free = s.free := rfl
@[simp] theorem State.withdrawRefill_inReset (i : Nat) : (s.withdrawRefill i).inReset = s.inReset := rfl
@[simp] theorem State.withdrawRefill_settings (i : Nat) : (s.withdrawRefill i).settings = s.settings := rfl
@[simp] theorem State.withdrawRefill_pos (i : Nat) : (s.withdrawRefill i).pos = s.pos := rfl
@[simp] theorem State.withdrawRefill_gdu (i : Nat) : (s.withdrawRefill i).gdu = s.gdu := rfl
@[simp] theorem State.withdrawRefill_msv (i : Nat) : (s.withdrawRefill i).msv = s.msv := rfl
@[simp] theorem State.withdrawRefill_rsm (i : Nat) : (s.withdrawRefill i).rsm = s.rsm := rfl
@[simp] theorem State.withdrawRefill_cue (i : Nat) : (s.withdrawRefill i).cue = s.cue := rfl
@[simp] theorem State.withdrawRefill_ntu (i : Nat) : (s.withdrawRefill i).ntu = s.ntu := rfl
@[simp] theorem State.withdrawRefill_port (i : Nat) : (s.withdrawRefill i).port = s.port := rfl
@[simp] theorem State.withdrawRefill_lines (i : Nat) : (s.withdrawRefill i).lines = s.lines := rfl
@[simp] theorem State.withdrawRefill_pending (i : Nat) : (s.withdrawRefill i).pending = s.pending := rfl

@[simp] theorem State.silenceVoice_now (i : Nat) : (s.silenceVoice i).now = s.now := rfl
@[simp] theorem State.silenceVoice_free (i : Nat) : (s.silenceVoice i).free = s.free := rfl
@[simp] theorem State.silenceVoice_inReset (i : Nat) : (s.silenceVoice i).inReset = s.inReset := rfl
@[simp] theorem State.silenceVoice_settings (i : Nat) : (s.silenceVoice i).settings = s.settings := rfl
@[simp] theorem State.silenceVoice_pos (i : Nat) : (s.silenceVoice i).pos = s.pos := rfl
@[simp] theorem State.silenceVoice_gdu (i : Nat) : (s.silenceVoice i).gdu = s.gdu := rfl
@[simp] theorem State.silenceVoice_msv (i : Nat) : (s.silenceVoice i).msv = s.msv := rfl
@[simp] theorem State.silenceVoice_rsm (i : Nat) : (s.silenceVoice i).rsm = s.rsm := rfl
@[simp] theorem State.silenceVoice_cue (i : Nat) : (s.silenceVoice i).cue = s.cue := rfl
@[simp] theorem State.silenceVoice_ntu (i : Nat) : (s.silenceVoice i).ntu = s.ntu := rfl
@[simp] theorem State.silenceVoice_port (i : Nat) : (s.silenceVoice i).port = s.port := rfl
@[simp] theorem State.silenceVoice_lines (i : Nat) : (s.silenceVoice i).lines = s.lines := rfl
@[simp] theorem State.silenceVoice_pending (i : Nat) : (s.silenceVoice i).pending = s.pending := rfl

@[simp] theorem State.endVoice_now (i : Nat) : (s.endVoice i).now = s.now := rfl
@[simp] theorem State.endVoice_free (i : Nat) : (s.endVoice i).free = s.free := rfl
@[simp] theorem State.endVoice_inReset (i : Nat) : (s.endVoice i).inReset = s.inReset := rfl
@[simp] theorem State.endVoice_settings (i : Nat) : (s.endVoice i).settings = s.settings := rfl
@[simp] theorem State.endVoice_pos (i : Nat) : (s.endVoice i).pos = s.pos := rfl
@[simp] theorem State.endVoice_gdu (i : Nat) : (s.endVoice i).gdu = s.gdu := rfl
@[simp] theorem State.endVoice_msv (i : Nat) : (s.endVoice i).msv = s.msv := rfl
@[simp] theorem State.endVoice_rsm (i : Nat) : (s.endVoice i).rsm = s.rsm := rfl
@[simp] theorem State.endVoice_cue (i : Nat) : (s.endVoice i).cue = s.cue := rfl
@[simp] theorem State.endVoice_port (i : Nat) : (s.endVoice i).port = s.port := rfl
@[simp] theorem State.endVoice_lines (i : Nat) : (s.endVoice i).lines = s.lines := rfl
@[simp] theorem State.endVoice_pending (i : Nat) : (s.endVoice i).pending = s.pending := rfl

@[simp] theorem State.fadeVoices_now (p : Voice → Bool) : (s.fadeVoices p).now = s.now := rfl
@[simp] theorem State.fadeVoices_free (p : Voice → Bool) : (s.fadeVoices p).free = s.free := rfl
@[simp] theorem State.fadeVoices_inReset (p : Voice → Bool) : (s.fadeVoices p).inReset = s.inReset := rfl
@[simp] theorem State.fadeVoices_settings (p : Voice → Bool) : (s.fadeVoices p).settings = s.settings := rfl
@[simp] theorem State.fadeVoices_pos (p : Voice → Bool) : (s.fadeVoices p).pos = s.pos := rfl
@[simp] theorem State.fadeVoices_gdu (p : Voice → Bool) : (s.fadeVoices p).gdu = s.gdu := rfl
@[simp] theorem State.fadeVoices_msv (p : Voice → Bool) : (s.fadeVoices p).msv = s.msv := rfl
@[simp] theorem State.fadeVoices_rsm (p : Voice → Bool) : (s.fadeVoices p).rsm = s.rsm := rfl
@[simp] theorem State.fadeVoices_cue (p : Voice → Bool) : (s.fadeVoices p).cue = s.cue := rfl
@[simp] theorem State.fadeVoices_flp (p : Voice → Bool) : (s.fadeVoices p).flp = s.flp := rfl
@[simp] theorem State.fadeVoices_ntu (p : Voice → Bool) : (s.fadeVoices p).ntu = s.ntu := rfl
@[simp] theorem State.fadeVoices_port (p : Voice → Bool) : (s.fadeVoices p).port = s.port := rfl
@[simp] theorem State.fadeVoices_lines (p : Voice → Bool) : (s.fadeVoices p).lines = s.lines := rfl
@[simp] theorem State.fadeVoices_pending (p : Voice → Bool) : (s.fadeVoices p).pending = s.pending := rfl

@[simp] theorem State.placeRefill_now (i : Nat) : (s.placeRefill i).now = s.now := by
  unfold State.placeRefill; dsimp only; split
  · rfl
  · split <;> rfl
@[simp] theorem State.placeRefill_free (i : Nat) : (s.placeRefill i).free = s.free := by
  unfold State.placeRefill; dsimp only; split
  · rfl
  · split <;> rfl
@[simp] theorem State.placeRefill_inReset (i : Nat) : (s.placeRefill i).inReset = s.inReset := by
  unfold State.placeRefill; dsimp only; split
  · rfl
  · split <;> rfl
@[simp] theorem State.placeRefill_settings (i : Nat) : (s.placeRefill i).settings = s.settings := by
  unfold State.placeRefill; dsimp only; split
  · rfl
  · split <;> rfl
@[simp] theorem State.placeRefill_pos (i : Nat) : (s.placeRefill i).pos = s.pos := by
  unfold State.placeRefill; dsimp only; split
  · rfl
  · split <;> rfl
@[simp] theorem State.placeRefill_gdu (i : Nat) : (s.placeRefill i).gdu = s.gdu := by
  unfold State.placeRefill; dsimp only; split
  · rfl
  · split <;> rfl
@[simp] theorem State.placeRefill_msv (i : Nat) : (s.placeRefill i).msv = s.msv := by
  unfold State.placeRefill; dsimp only; split
  · rfl
  · split <;> rfl
@[simp] theorem State.placeRefill_rsm (i : Nat) : (s.placeRefill i).rsm = s.rsm := by
  unfold State.placeRefill; dsimp only; split
  · rfl
  · split <;> rfl
@[simp] theorem State.placeRefill_cue (i : Nat) : (s.placeRefill i).cue = s.cue := by
  unfold State.placeRefill; dsimp only; split
  · rfl
  · split <;> rfl
@[simp] theorem State.placeRefill_flp (i : Nat) : (s.placeRefill i).flp = s.flp := by
  unfold State.placeRefill; dsimp only; split
  · rfl
  · split <;> rfl
@[simp] theorem State.placeRefill_ntu (i : Nat) : (s.placeRefill i).ntu = s.ntu := by
  unfold State.placeRefill; dsimp only; split
  · rfl
  · split <;> rfl
@[simp] theorem State.placeRefill_port (i : Nat) : (s.placeRefill i).port = s.port := by
  unfold State.placeRefill; dsimp only; split
  · rfl
  · split <;> rfl
@[simp] theorem State.placeRefill_lines (i : Nat) : (s.placeRefill i).lines = s.lines := by
  unfold State.placeRefill; dsimp only; split
  · rfl
  · split <;> rfl
@[simp] theorem State.placeRefill_pending (i : Nat) : (s.placeRefill i).pending = s.pending := by
  unfold State.placeRefill; dsimp only; split
  · rfl
  · split <;> rfl

@[simp] theorem State.yieldVoice_now (i : Nat) : (s.yieldVoice i).now = s.now := by
  unfold State.yieldVoice; split <;> rfl
@[simp] theorem State.yieldVoice_free (i : Nat) : (s.yieldVoice i).free = s.free := by
  unfold State.yieldVoice; split <;> rfl
@[simp] theorem State.yieldVoice_inReset (i : Nat) : (s.yieldVoice i).inReset = s.inReset := by
  unfold State.yieldVoice; split <;> rfl
@[simp] theorem State.yieldVoice_settings (i : Nat) : (s.yieldVoice i).settings = s.settings := by
  unfold State.yieldVoice; split <;> rfl
@[simp] theorem State.yieldVoice_pos (i : Nat) : (s.yieldVoice i).pos = s.pos := by
  unfold State.yieldVoice; split <;> rfl
@[simp] theorem State.yieldVoice_gdu (i : Nat) : (s.yieldVoice i).gdu = s.gdu := by
  unfold State.yieldVoice; split <;> rfl
@[simp] theorem State.yieldVoice_msv (i : Nat) : (s.yieldVoice i).msv = s.msv := by
  unfold State.yieldVoice; split <;> rfl
@[simp] theorem State.yieldVoice_rsm (i : Nat) : (s.yieldVoice i).rsm = s.rsm := by
  unfold State.yieldVoice; split <;> rfl
@[simp] theorem State.yieldVoice_cue (i : Nat) : (s.yieldVoice i).cue = s.cue := by
  unfold State.yieldVoice; split <;> rfl
@[simp] theorem State.yieldVoice_flp (i : Nat) : (s.yieldVoice i).flp = s.flp := by
  unfold State.yieldVoice; split <;> rfl
@[simp] theorem State.yieldVoice_snd (i : Nat) : (s.yieldVoice i).snd = s.snd := by
  unfold State.yieldVoice; split <;> rfl
@[simp] theorem State.yieldVoice_port (i : Nat) : (s.yieldVoice i).port = s.port := by
  unfold State.yieldVoice; split <;> rfl
@[simp] theorem State.yieldVoice_lines (i : Nat) : (s.yieldVoice i).lines = s.lines := by
  unfold State.yieldVoice; split <;> rfl
@[simp] theorem State.yieldVoice_pending (i : Nat) : (s.yieldVoice i).pending = s.pending := by
  unfold State.yieldVoice; split <;> rfl

@[simp] theorem State.startVoice_now (i : Nat) (q : Claim) (c : Clip) : (s.startVoice i q c).now = s.now := by
  unfold State.startVoice; dsimp only; rw [State.placeRefill_now, State.setSnd_now]; split <;> simp
@[simp] theorem State.startVoice_inReset (i : Nat) (q : Claim) (c : Clip) : (s.startVoice i q c).inReset = s.inReset := by
  unfold State.startVoice; dsimp only; rw [State.placeRefill_inReset, State.setSnd_inReset]; split <;> simp
@[simp] theorem State.startVoice_settings (i : Nat) (q : Claim) (c : Clip) : (s.startVoice i q c).settings = s.settings := by
  unfold State.startVoice; dsimp only; rw [State.placeRefill_settings, State.setSnd_settings]; split <;> simp
@[simp] theorem State.startVoice_pos (i : Nat) (q : Claim) (c : Clip) : (s.startVoice i q c).pos = s.pos := by
  unfold State.startVoice; dsimp only; rw [State.placeRefill_pos, State.setSnd_pos]; split <;> simp
@[simp] theorem State.startVoice_gdu (i : Nat) (q : Claim) (c : Clip) : (s.startVoice i q c).gdu = s.gdu := by
  unfold State.startVoice; dsimp only; rw [State.placeRefill_gdu, State.setSnd_gdu]; split <;> simp
@[simp] theorem State.startVoice_msv (i : Nat) (q : Claim) (c : Clip) : (s.startVoice i q c).msv = s.msv := by
  unfold State.startVoice; dsimp only; rw [State.placeRefill_msv, State.setSnd_msv]; split <;> simp
@[simp] theorem State.startVoice_rsm (i : Nat) (q : Claim) (c : Clip) : (s.startVoice i q c).rsm = s.rsm := by
  unfold State.startVoice; dsimp only; rw [State.placeRefill_rsm, State.setSnd_rsm]; split <;> simp
@[simp] theorem State.startVoice_cue (i : Nat) (q : Claim) (c : Clip) : (s.startVoice i q c).cue = s.cue := by
  unfold State.startVoice; dsimp only; rw [State.placeRefill_cue, State.setSnd_cue]; split <;> simp
@[simp] theorem State.startVoice_port (i : Nat) (q : Claim) (c : Clip) : (s.startVoice i q c).port = s.port := by
  unfold State.startVoice; dsimp only; rw [State.placeRefill_port, State.setSnd_port]; split <;> simp
@[simp] theorem State.startVoice_lines (i : Nat) (q : Claim) (c : Clip) : (s.startVoice i q c).lines = s.lines := by
  unfold State.startVoice; dsimp only; rw [State.placeRefill_lines, State.setSnd_lines]; split <;> simp
@[simp] theorem State.startVoice_pending (i : Nat) (q : Claim) (c : Clip) : (s.startVoice i q c).pending = s.pending := by
  unfold State.startVoice; dsimp only; rw [State.placeRefill_pending, State.setSnd_pending]; split <;> simp

theorem State.claimVoice_now {q : Claim} {s t : State} {i : Nat} (h : s.claimVoice q = some (t, i)) : t.now = s.now := by
  unfold State.claimVoice at h; split at h
  · cases h; simp
  · cases h
theorem State.claimVoice_inReset {q : Claim} {s t : State} {i : Nat} (h : s.claimVoice q = some (t, i)) : t.inReset = s.inReset := by
  unfold State.claimVoice at h; split at h
  · cases h; simp
  · cases h
theorem State.claimVoice_settings {q : Claim} {s t : State} {i : Nat} (h : s.claimVoice q = some (t, i)) : t.settings = s.settings := by
  unfold State.claimVoice at h; split at h
  · cases h; simp
  · cases h
theorem State.claimVoice_pos {q : Claim} {s t : State} {i : Nat} (h : s.claimVoice q = some (t, i)) : t.pos = s.pos := by
  unfold State.claimVoice at h; split at h
  · cases h; simp
  · cases h
theorem State.claimVoice_gdu {q : Claim} {s t : State} {i : Nat} (h : s.claimVoice q = some (t, i)) : t.gdu = s.gdu := by
  unfold State.claimVoice at h; split at h
  · cases h; simp
  · cases h
theorem State.claimVoice_msv {q : Claim} {s t : State} {i : Nat} (h : s.claimVoice q = some (t, i)) : t.msv = s.msv := by
  unfold State.claimVoice at h; split at h
  · cases h; simp
  · cases h
theorem State.claimVoice_rsm {q : Claim} {s t : State} {i : Nat} (h : s.claimVoice q = some (t, i)) : t.rsm = s.rsm := by
  unfold State.claimVoice at h; split at h
  · cases h; simp
  · cases h
theorem State.claimVoice_cue {q : Claim} {s t : State} {i : Nat} (h : s.claimVoice q = some (t, i)) : t.cue = s.cue := by
  unfold State.claimVoice at h; split at h
  · cases h; simp
  · cases h
theorem State.claimVoice_port {q : Claim} {s t : State} {i : Nat} (h : s.claimVoice q = some (t, i)) : t.port = s.port := by
  unfold State.claimVoice at h; split at h
  · cases h; simp
  · cases h
theorem State.claimVoice_lines {q : Claim} {s t : State} {i : Nat} (h : s.claimVoice q = some (t, i)) : t.lines = s.lines := by
  unfold State.claimVoice at h; split at h
  · cases h; simp
  · cases h
theorem State.claimVoice_pending {q : Claim} {s t : State} {i : Nat} (h : s.claimVoice q = some (t, i)) : t.pending = s.pending := by
  unfold State.claimVoice at h; split at h
  · cases h; simp
  · cases h

@[simp] theorem State.announceStop_now : (s.announceStop).now = s.now := by
  unfold State.announceStop; dsimp only; split
  · simp
  · split
    · simp
    · split
      · rename_i h; rw [State.claimVoice_now h]; simp
      · simp
@[simp] theorem State.announceStop_inReset : (s.announceStop).inReset = s.inReset := by
  unfold State.announceStop; dsimp only; split
  · simp
  · split
    · simp
    · split
      · rename_i h; rw [State.claimVoice_inReset h]; simp
      · simp
@[simp] theorem State.announceStop_settings : (s.announceStop).settings = s.settings := by
  unfold State.announceStop; dsimp only; split
  · simp
  · split
    · simp
    · split
      · rename_i h; rw [State.claimVoice_settings h]; simp
      · simp
@[simp] theorem State.announceStop_pos : (s.announceStop).pos = s.pos := by
  unfold State.announceStop; dsimp only; split
  · simp
  · split
    · simp
    · split
      · rename_i h; rw [State.claimVoice_pos h]; simp
      · simp
@[simp] theorem State.announceStop_gdu : (s.announceStop).gdu = s.gdu := by
  unfold State.announceStop; dsimp only; split
  · simp
  · split
    · simp
    · split
      · rename_i h; rw [State.claimVoice_gdu h]; simp
      · simp
@[simp] theorem State.announceStop_msv : (s.announceStop).msv = s.msv := by
  unfold State.announceStop; dsimp only; split
  · simp
  · split
    · simp
    · split
      · rename_i h; rw [State.claimVoice_msv h]; simp
      · simp
@[simp] theorem State.announceStop_rsm : (s.announceStop).rsm = s.rsm := by
  unfold State.announceStop; dsimp only; split
  · simp
  · split
    · simp
    · split
      · rename_i h; rw [State.claimVoice_rsm h]; simp
      · simp
@[simp] theorem State.announceStop_cue : (s.announceStop).cue = s.cue := by
  unfold State.announceStop; dsimp only; split
  · simp
  · split
    · simp
    · split
      · rename_i h; rw [State.claimVoice_cue h]; simp
      · simp
@[simp] theorem State.announceStop_port : (s.announceStop).port = s.port := by
  unfold State.announceStop; dsimp only; split
  · simp
  · split
    · simp
    · split
      · rename_i h; rw [State.claimVoice_port h]; simp
      · simp
@[simp] theorem State.announceStop_lines : (s.announceStop).lines = s.lines := by
  unfold State.announceStop; dsimp only; split
  · simp
  · split
    · simp
    · split
      · rename_i h; rw [State.claimVoice_lines h]; simp
      · simp
@[simp] theorem State.announceStop_pending : (s.announceStop).pending = s.pending := by
  unfold State.announceStop; dsimp only; split
  · simp
  · split
    · simp
    · split
      · rename_i h; rw [State.claimVoice_pending h]; simp
      · simp

@[simp] theorem State.releaseLines_now (p : LineHold → Bool) : (s.releaseLines p).now = s.now := rfl
@[simp] theorem State.releaseLines_free (p : LineHold → Bool) : (s.releaseLines p).free = s.free := rfl
@[simp] theorem State.releaseLines_inReset (p : LineHold → Bool) : (s.releaseLines p).inReset = s.inReset := rfl
@[simp] theorem State.releaseLines_settings (p : LineHold → Bool) : (s.releaseLines p).settings = s.settings := rfl
@[simp] theorem State.releaseLines_pos (p : LineHold → Bool) : (s.releaseLines p).pos = s.pos := rfl
@[simp] theorem State.releaseLines_gdu (p : LineHold → Bool) : (s.releaseLines p).gdu = s.gdu := rfl
@[simp] theorem State.releaseLines_msv (p : LineHold → Bool) : (s.releaseLines p).msv = s.msv := rfl
@[simp] theorem State.releaseLines_rsm (p : LineHold → Bool) : (s.releaseLines p).rsm = s.rsm := rfl
@[simp] theorem State.releaseLines_flp (p : LineHold → Bool) : (s.releaseLines p).flp = s.flp := rfl
@[simp] theorem State.releaseLines_snd (p : LineHold → Bool) : (s.releaseLines p).snd = s.snd := rfl
@[simp] theorem State.releaseLines_ntu (p : LineHold → Bool) : (s.releaseLines p).ntu = s.ntu := rfl
@[simp] theorem State.releaseLines_port (p : LineHold → Bool) : (s.releaseLines p).port = s.port := rfl
@[simp] theorem State.releaseLines_lines (p : LineHold → Bool) : (s.releaseLines p).lines = s.lines := rfl
@[simp] theorem State.releaseLines_pending (p : LineHold → Bool) : (s.releaseLines p).pending = s.pending := rfl

@[simp] theorem State.releaseTurntable_now (id : Nat) : (s.releaseTurntable id).now = s.now := rfl
@[simp] theorem State.releaseTurntable_free (id : Nat) : (s.releaseTurntable id).free = s.free := rfl
@[simp] theorem State.releaseTurntable_inReset (id : Nat) : (s.releaseTurntable id).inReset = s.inReset := rfl
@[simp] theorem State.releaseTurntable_settings (id : Nat) : (s.releaseTurntable id).settings = s.settings := rfl
@[simp] theorem State.releaseTurntable_pos (id : Nat) : (s.releaseTurntable id).pos = s.pos := rfl
@[simp] theorem State.releaseTurntable_gdu (id : Nat) : (s.releaseTurntable id).gdu = s.gdu := rfl
@[simp] theorem State.releaseTurntable_msv (id : Nat) : (s.releaseTurntable id).msv = s.msv := rfl
@[simp] theorem State.releaseTurntable_rsm (id : Nat) : (s.releaseTurntable id).rsm = s.rsm := rfl
@[simp] theorem State.releaseTurntable_flp (id : Nat) : (s.releaseTurntable id).flp = s.flp := rfl
@[simp] theorem State.releaseTurntable_snd (id : Nat) : (s.releaseTurntable id).snd = s.snd := rfl
@[simp] theorem State.releaseTurntable_ntu (id : Nat) : (s.releaseTurntable id).ntu = s.ntu := rfl
@[simp] theorem State.releaseTurntable_port (id : Nat) : (s.releaseTurntable id).port = s.port := rfl
@[simp] theorem State.releaseTurntable_lines (id : Nat) : (s.releaseTurntable id).lines = s.lines := rfl
@[simp] theorem State.releaseTurntable_pending (id : Nat) : (s.releaseTurntable id).pending = s.pending := rfl

@[simp] theorem State.updateCue_now (id : Nat) (f : Cue → Cue) : (s.updateCue id f).now = s.now := rfl
@[simp] theorem State.updateCue_free (id : Nat) (f : Cue → Cue) : (s.updateCue id f).free = s.free := rfl
@[simp] theorem State.updateCue_inReset (id : Nat) (f : Cue → Cue) : (s.updateCue id f).inReset = s.inReset := rfl
@[simp] theorem State.updateCue_settings (id : Nat) (f : Cue → Cue) : (s.updateCue id f).settings = s.settings := rfl
@[simp] theorem State.updateCue_pos (id : Nat) (f : Cue → Cue) : (s.updateCue id f).pos = s.pos := rfl
@[simp] theorem State.updateCue_gdu (id : Nat) (f : Cue → Cue) : (s.updateCue id f).gdu = s.gdu := rfl
@[simp] theorem State.updateCue_msv (id : Nat) (f : Cue → Cue) : (s.updateCue id f).msv = s.msv := rfl
@[simp] theorem State.updateCue_rsm (id : Nat) (f : Cue → Cue) : (s.updateCue id f).rsm = s.rsm := rfl
@[simp] theorem State.updateCue_flp (id : Nat) (f : Cue → Cue) : (s.updateCue id f).flp = s.flp := rfl
@[simp] theorem State.updateCue_snd (id : Nat) (f : Cue → Cue) : (s.updateCue id f).snd = s.snd := rfl
@[simp] theorem State.updateCue_ntu (id : Nat) (f : Cue → Cue) : (s.updateCue id f).ntu = s.ntu := rfl
@[simp] theorem State.updateCue_port (id : Nat) (f : Cue → Cue) : (s.updateCue id f).port = s.port := rfl
@[simp] theorem State.updateCue_lines (id : Nat) (f : Cue → Cue) : (s.updateCue id f).lines = s.lines := rfl
@[simp] theorem State.updateCue_pending (id : Nat) (f : Cue → Cue) : (s.updateCue id f).pending = s.pending := rfl

@[simp] theorem State.removeReason_now (r : StopReason) : (s.removeReason r).now = s.now := rfl
@[simp] theorem State.removeReason_free (r : StopReason) : (s.removeReason r).free = s.free := rfl
@[simp] theorem State.removeReason_inReset (r : StopReason) : (s.removeReason r).inReset = s.inReset := rfl
@[simp] theorem State.removeReason_settings (r : StopReason) : (s.removeReason r).settings = s.settings := rfl
@[simp] theorem State.removeReason_pos (r : StopReason) : (s.removeReason r).pos = s.pos := rfl
@[simp] theorem State.removeReason_gdu (r : StopReason) : (s.removeReason r).gdu = s.gdu := rfl
@[simp] theorem State.removeReason_rsm (r : StopReason) : (s.removeReason r).rsm = s.rsm := rfl
@[simp] theorem State.removeReason_cue (r : StopReason) : (s.removeReason r).cue = s.cue := rfl
@[simp] theorem State.removeReason_flp (r : StopReason) : (s.removeReason r).flp = s.flp := rfl
@[simp] theorem State.removeReason_snd (r : StopReason) : (s.removeReason r).snd = s.snd := rfl
@[simp] theorem State.removeReason_ntu (r : StopReason) : (s.removeReason r).ntu = s.ntu := rfl
@[simp] theorem State.removeReason_port (r : StopReason) : (s.removeReason r).port = s.port := rfl
@[simp] theorem State.removeReason_lines (r : StopReason) : (s.removeReason r).lines = s.lines := rfl
@[simp] theorem State.removeReason_pending (r : StopReason) : (s.removeReason r).pending = s.pending := rfl

@[simp] theorem State.enterEStop_now : (s.enterEStop).now = s.now := by simp [State.enterEStop]
@[simp] theorem State.enterEStop_inReset : (s.enterEStop).inReset = s.inReset := by simp [State.enterEStop]
@[simp] theorem State.enterEStop_settings : (s.enterEStop).settings = s.settings := by simp [State.enterEStop]
@[simp] theorem State.enterEStop_pos : (s.enterEStop).pos = s.pos := by simp [State.enterEStop]
@[simp] theorem State.enterEStop_gdu : (s.enterEStop).gdu = s.gdu := by simp [State.enterEStop]
@[simp] theorem State.enterEStop_rsm : (s.enterEStop).rsm = s.rsm := by simp [State.enterEStop]
@[simp] theorem State.enterEStop_port : (s.enterEStop).port = s.port := by simp [State.enterEStop]
@[simp] theorem State.enterEStop_lines : (s.enterEStop).lines = s.lines := by simp [State.enterEStop]
@[simp] theorem State.enterEStop_pending : (s.enterEStop).pending = s.pending := by simp [State.enterEStop]

@[simp] theorem State.enterSafeStop_now : (s.enterSafeStop).now = s.now := rfl
@[simp] theorem State.enterSafeStop_free : (s.enterSafeStop).free = s.free := rfl
@[simp] theorem State.enterSafeStop_inReset : (s.enterSafeStop).inReset = s.inReset := rfl
@[simp] theorem State.enterSafeStop_settings : (s.enterSafeStop).settings = s.settings := rfl
@[simp] theorem State.enterSafeStop_pos : (s.enterSafeStop).pos = s.pos := rfl
@[simp] theorem State.enterSafeStop_gdu : (s.enterSafeStop).gdu = s.gdu := rfl
@[simp] theorem State.enterSafeStop_rsm : (s.enterSafeStop).rsm = s.rsm := rfl
@[simp] theorem State.enterSafeStop_cue : (s.enterSafeStop).cue = s.cue := rfl
@[simp] theorem State.enterSafeStop_flp : (s.enterSafeStop).flp = s.flp := rfl
@[simp] theorem State.enterSafeStop_snd : (s.enterSafeStop).snd = s.snd := rfl
@[simp] theorem State.enterSafeStop_ntu : (s.enterSafeStop).ntu = s.ntu := rfl
@[simp] theorem State.enterSafeStop_port : (s.enterSafeStop).port = s.port := rfl
@[simp] theorem State.enterSafeStop_lines : (s.enterSafeStop).lines = s.lines := rfl
@[simp] theorem State.enterSafeStop_pending : (s.enterSafeStop).pending = s.pending := rfl

@[simp] theorem State.reasonEffect_now (r : StopReason) : (s.reasonEffect r).now = s.now := by
  unfold State.reasonEffect; split
  · split <;> simp
  · split
    · split <;> simp
    · split <;> simp
    all_goals rfl
@[simp] theorem State.reasonEffect_inReset (r : StopReason) : (s.reasonEffect r).inReset = s.inReset := by
  unfold State.reasonEffect; split
  · split <;> simp
  · split
    · split <;> simp
    · split <;> simp
    all_goals rfl
@[simp] theorem State.reasonEffect_settings (r : StopReason) : (s.reasonEffect r).settings = s.settings := by
  unfold State.reasonEffect; split
  · split <;> simp
  · split
    · split <;> simp
    · split <;> simp
    all_goals rfl
@[simp] theorem State.reasonEffect_pos (r : StopReason) : (s.reasonEffect r).pos = s.pos := by
  unfold State.reasonEffect; split
  · split <;> simp
  · split
    · split <;> simp
    · split <;> simp
    all_goals rfl
@[simp] theorem State.reasonEffect_gdu (r : StopReason) : (s.reasonEffect r).gdu = s.gdu := by
  unfold State.reasonEffect; split
  · split <;> simp
  · split
    · split <;> simp
    · split <;> simp
    all_goals rfl
@[simp] theorem State.reasonEffect_rsm (r : StopReason) : (s.reasonEffect r).rsm = s.rsm := by
  unfold State.reasonEffect; split
  · split <;> simp
  · split
    · split <;> simp
    · split <;> simp
    all_goals rfl
@[simp] theorem State.reasonEffect_port (r : StopReason) : (s.reasonEffect r).port = s.port := by
  unfold State.reasonEffect; split
  · split <;> simp
  · split
    · split <;> simp
    · split <;> simp
    all_goals rfl
@[simp] theorem State.reasonEffect_lines (r : StopReason) : (s.reasonEffect r).lines = s.lines := by
  unfold State.reasonEffect; split
  · split <;> simp
  · split
    · split <;> simp
    · split <;> simp
    all_goals rfl
@[simp] theorem State.reasonEffect_pending (r : StopReason) : (s.reasonEffect r).pending = s.pending := by
  unfold State.reasonEffect; split
  · split <;> simp
  · split
    · split <;> simp
    · split <;> simp
    all_goals rfl

@[simp] theorem State.addReason_now (r : StopReason) : (s.addReason r).now = s.now := by
  unfold State.addReason; split <;> simp
@[simp] theorem State.addReason_inReset (r : StopReason) : (s.addReason r).inReset = s.inReset := by
  unfold State.addReason; split <;> simp
@[simp] theorem State.addReason_settings (r : StopReason) : (s.addReason r).settings = s.settings := by
  unfold State.addReason; split <;> simp
@[simp] theorem State.addReason_pos (r : StopReason) : (s.addReason r).pos = s.pos := by
  unfold State.addReason; split <;> simp
@[simp] theorem State.addReason_gdu (r : StopReason) : (s.addReason r).gdu = s.gdu := by
  unfold State.addReason; split <;> simp
@[simp] theorem State.addReason_rsm (r : StopReason) : (s.addReason r).rsm = s.rsm := by
  unfold State.addReason; split <;> simp
@[simp] theorem State.addReason_port (r : StopReason) : (s.addReason r).port = s.port := by
  unfold State.addReason; split <;> simp
@[simp] theorem State.addReason_lines (r : StopReason) : (s.addReason r).lines = s.lines := by
  unfold State.addReason; split <;> simp
@[simp] theorem State.addReason_pending (r : StopReason) : (s.addReason r).pending = s.pending := by
  unfold State.addReason; split <;> simp

@[simp] theorem State.capMaster_now : (s.capMaster).now = s.now := rfl
@[simp] theorem State.capMaster_free : (s.capMaster).free = s.free := rfl
@[simp] theorem State.capMaster_inReset : (s.capMaster).inReset = s.inReset := rfl
@[simp] theorem State.capMaster_settings : (s.capMaster).settings = s.settings := rfl
@[simp] theorem State.capMaster_pos : (s.capMaster).pos = s.pos := rfl
@[simp] theorem State.capMaster_gdu : (s.capMaster).gdu = s.gdu := rfl
@[simp] theorem State.capMaster_msv : (s.capMaster).msv = s.msv := rfl
@[simp] theorem State.capMaster_rsm : (s.capMaster).rsm = s.rsm := rfl
@[simp] theorem State.capMaster_cue : (s.capMaster).cue = s.cue := rfl
@[simp] theorem State.capMaster_flp : (s.capMaster).flp = s.flp := rfl
@[simp] theorem State.capMaster_ntu : (s.capMaster).ntu = s.ntu := rfl
@[simp] theorem State.capMaster_port : (s.capMaster).port = s.port := rfl
@[simp] theorem State.capMaster_lines : (s.capMaster).lines = s.lines := rfl
@[simp] theorem State.capMaster_pending : (s.capMaster).pending = s.pending := rfl

/-- What adding a reason does: nothing when it is present; else it joins the set and has its effect (04 R65 to R67). -/
theorem State.addReason_cases (r : StopReason) :
    (r ∈ s.msv.reasons ∧ s.addReason r = s) ∨
    (r ∉ s.msv.reasons ∧ r.isE = true ∧ (s.msv.motion = .parked ∨ s.msv.motion = .eStop) ∧
      s.addReason r = (s.setMsv { s.msv with reasons := insertReason r s.msv.reasons }).raise (.estop r)) ∨
    (r ∉ s.msv.reasons ∧ r.isE = true ∧ s.msv.motion ≠ .parked ∧ s.msv.motion ≠ .eStop ∧
      s.addReason r = (s.setMsv { s.msv with reasons := insertReason r s.msv.reasons }).enterEStop.raise (.estop r)) ∨
    (r ∉ s.msv.reasons ∧ r.isE = false ∧ (s.msv.motion = .running ∨ s.msv.motion = .dwell) ∧
      (s.addReason r = (s.setMsv { s.msv with reasons := insertReason r s.msv.reasons }).enterSafeStop ∨
       s.addReason r =
        (s.setMsv { s.msv with reasons := insertReason r s.msv.reasons }).enterSafeStop.raise (.motion .safeStop))) ∨
    (r ∉ s.msv.reasons ∧ r.isE = false ∧ s.msv.motion ≠ .running ∧ s.msv.motion ≠ .dwell ∧
      s.addReason r = s.setMsv { s.msv with reasons := insertReason r s.msv.reasons }) := by
  unfold State.addReason
  by_cases h : r ∈ s.msv.reasons
  · exact .inl ⟨h, by simp [h]⟩
  · rw [if_neg (by simpa using h)]
    unfold State.reasonEffect
    refine .inr ?_
    cases hr : r.isE <;> cases hm : s.msv.motion <;> simp [h, hm]
    all_goals (by_cases hh : r = .hostStop <;> simp [hh])

/-- A set with `r` inserted has `r` and the old members (04 R65). -/
theorem mem_insertReason (r x : StopReason) (l : List StopReason) : x ∈ insertReason r l ↔ x = r ∨ x ∈ l := by
  have hx : x ∈ StopReason.all := by cases x <;> decide
  simp [insertReason, hx]

/-! ### Where an entry to E_STOP leaves MSV -/

/-- MSV's part of an entry to E_STOP (04 R66 steps 1 to 3). -/
@[simp] theorem State.enterEStop_msv :
    s.enterEStop.msv = { s.msv with motion := .eStop, vCmd := 0, dwell := none, held := false, overspeed := 0 } := by
  simp [State.enterEStop]

/-- MSV's part of an entry to SAFE_STOP (04 R67). -/
@[simp] theorem State.enterSafeStop_msv :
    s.enterSafeStop.msv = { s.msv with motion := .safeStop, dwell := none, held := false } := rfl

end Sys2Proof.Machine
end

