-- ==== Sys2Proof/Laws/Requests.lean ====
section
/-! SUPPORT. What the taking of a request, its response and the cue engine's evaluation leave as they were, and all that a
request can do. -/

namespace Sys2Proof.Machine

variable (s : State)

@[simp] theorem State.hearFrame_now : (State.hearFrame s).now = s.now := rfl
@[simp] theorem State.hearFrame_free : (State.hearFrame s).free = s.free := rfl
@[simp] theorem State.hearFrame_inReset : (State.hearFrame s).inReset = s.inReset := rfl
@[simp] theorem State.hearFrame_settings : (State.hearFrame s).settings = s.settings := rfl
@[simp] theorem State.hearFrame_pos : (State.hearFrame s).pos = s.pos := rfl
@[simp] theorem State.hearFrame_gdu : (State.hearFrame s).gdu = s.gdu := rfl
@[simp] theorem State.hearFrame_rsm : (State.hearFrame s).rsm = s.rsm := rfl
@[simp] theorem State.hearFrame_cue : (State.hearFrame s).cue = s.cue := rfl
@[simp] theorem State.hearFrame_flp : (State.hearFrame s).flp = s.flp := rfl
@[simp] theorem State.hearFrame_snd : (State.hearFrame s).snd = s.snd := rfl
@[simp] theorem State.hearFrame_ntu : (State.hearFrame s).ntu = s.ntu := rfl
@[simp] theorem State.hearFrame_lines : (State.hearFrame s).lines = s.lines := rfl
@[simp] theorem State.hearFrame_pending : (State.hearFrame s).pending = s.pending := rfl

@[simp] theorem State.respond_now (k j : Nat) (st : Status) (c e : Bool) (p : List Byte) : (State.respond k j st c e p s).now = s.now := rfl
@[simp] theorem State.respond_free (k j : Nat) (st : Status) (c e : Bool) (p : List Byte) : (State.respond k j st c e p s).free = s.free := rfl
@[simp] theorem State.respond_inReset (k j : Nat) (st : Status) (c e : Bool) (p : List Byte) : (State.respond k j st c e p s).inReset = s.inReset := rfl
@[simp] theorem State.respond_settings (k j : Nat) (st : Status) (c e : Bool) (p : List Byte) : (State.respond k j st c e p s).settings = s.settings := rfl
@[simp] theorem State.respond_pos (k j : Nat) (st : Status) (c e : Bool) (p : List Byte) : (State.respond k j st c e p s).pos = s.pos := rfl
@[simp] theorem State.respond_gdu (k j : Nat) (st : Status) (c e : Bool) (p : List Byte) : (State.respond k j st c e p s).gdu = s.gdu := rfl
@[simp] theorem State.respond_msv (k j : Nat) (st : Status) (c e : Bool) (p : List Byte) : (State.respond k j st c e p s).msv = s.msv := rfl
@[simp] theorem State.respond_rsm (k j : Nat) (st : Status) (c e : Bool) (p : List Byte) : (State.respond k j st c e p s).rsm = s.rsm := rfl
@[simp] theorem State.respond_cue (k j : Nat) (st : Status) (c e : Bool) (p : List Byte) : (State.respond k j st c e p s).cue = s.cue := rfl
@[simp] theorem State.respond_flp (k j : Nat) (st : Status) (c e : Bool) (p : List Byte) : (State.respond k j st c e p s).flp = s.flp := rfl
@[simp] theorem State.respond_snd (k j : Nat) (st : Status) (c e : Bool) (p : List Byte) : (State.respond k j st c e p s).snd = s.snd := rfl
@[simp] theorem State.respond_ntu (k j : Nat) (st : Status) (c e : Bool) (p : List Byte) : (State.respond k j st c e p s).ntu = s.ntu := rfl
@[simp] theorem State.respond_lines (k j : Nat) (st : Status) (c e : Bool) (p : List Byte) : (State.respond k j st c e p s).lines = s.lines := rfl
@[simp] theorem State.respond_pending (k j : Nat) (st : Status) (c e : Bool) (p : List Byte) : (State.respond k j st c e p s).pending = s.pending := rfl

@[simp] theorem State.overrunFrame_now : (State.overrunFrame s).now = s.now := rfl
@[simp] theorem State.overrunFrame_free : (State.overrunFrame s).free = s.free := rfl
@[simp] theorem State.overrunFrame_inReset : (State.overrunFrame s).inReset = s.inReset := rfl
@[simp] theorem State.overrunFrame_settings : (State.overrunFrame s).settings = s.settings := rfl
@[simp] theorem State.overrunFrame_pos : (State.overrunFrame s).pos = s.pos := rfl
@[simp] theorem State.overrunFrame_gdu : (State.overrunFrame s).gdu = s.gdu := rfl
@[simp] theorem State.overrunFrame_msv : (State.overrunFrame s).msv = s.msv := rfl
@[simp] theorem State.overrunFrame_rsm : (State.overrunFrame s).rsm = s.rsm := rfl
@[simp] theorem State.overrunFrame_cue : (State.overrunFrame s).cue = s.cue := rfl
@[simp] theorem State.overrunFrame_flp : (State.overrunFrame s).flp = s.flp := rfl
@[simp] theorem State.overrunFrame_snd : (State.overrunFrame s).snd = s.snd := rfl
@[simp] theorem State.overrunFrame_lines : (State.overrunFrame s).lines = s.lines := rfl
@[simp] theorem State.overrunFrame_pending : (State.overrunFrame s).pending = s.pending := rfl

/-- The port once a good frame has been taken (09 R173, R175). -/
@[simp] theorem State.hearFrame_port : s.hearFrame.port =
    { s.port with held := none, lastLink := s.now, spiOut := [] } := rfl

/-- MSV once a good frame has been taken (04 R88). -/
@[simp] theorem State.hearFrame_msv : s.hearFrame.msv =
    { s.msv with
      linkExpiry := some (s.after s.settings.linkTimeout), reasons := s.msv.reasons.filter (· ≠ .linkLost) } := rfl

/-- The port once the response is held (09 R173). -/
@[simp] theorem State.respond_port (k j : Nat) (st : Status) (c e : Bool) (p : List Byte) :
    (State.respond k j st c e p s).port =
      { s.port with building := false, held := some ⟨st, k, j, c, e, s.port.overrun, p⟩, overrun := false } := rfl

/-- All that a request can do (09 R172, R173, R176). -/
theorem request_cases (kind key : Nat) (act : State → Answer) :
    (s.inReset = true ∧ request kind key act s = s) ∨
    (s.inReset = false ∧ s.port.building = true ∧ request kind key act s = s.overrunFrame) ∨
    (s.inReset = false ∧ s.port.building = false ∧ ∃ st p, act s.hearFrame = .refuse st p ∧
      request kind key act s = s.hearFrame.respond kind key st false false p) ∨
    (s.inReset = false ∧ s.port.building = false ∧ ∃ t st c p, act s.hearFrame = .take t st c p ∧
      request kind key act s = t.respond kind key st c (entersEStop s.hearFrame t) p) := by
  cases hr : s.inReset with
  | true => exact .inl ⟨rfl, by simp [request, hr]⟩
  | false =>
    cases hb : s.port.building with
    | true => exact .inr (.inl ⟨rfl, rfl, by simp [request, hr, hb]⟩)
    | false =>
      cases ha : act s.hearFrame with
      | refuse st p => exact .inr (.inr (.inl ⟨rfl, rfl, st, p, rfl, by simp [request, hr, hb, ha]⟩))
      | take t st c p => exact .inr (.inr (.inr ⟨rfl, rfl, t, st, c, p, rfl, by simp [request, hr, hb, ha]⟩))

/-- A request in IDLE, taken. -/
theorem request_take {kind key : Nat} {act : State → Answer} {t : State} {st : Status} {c : Bool} {p : List Byte}
    {s : State} (hr : s.inReset = false) (hb : s.port.building = false) (ha : act s.hearFrame = .take t st c p) :
    request kind key act s = t.respond kind key st c (entersEStop s.hearFrame t) p := by
  simp [request, hr, hb, ha]

/-- A request in IDLE, refused. -/
theorem request_refuse {kind key : Nat} {act : State → Answer} {st : Status} {p : List Byte} {s : State}
    (hr : s.inReset = false) (hb : s.port.building = false) (ha : act s.hearFrame = .refuse st p) :
    request kind key act s = s.hearFrame.respond kind key st false false p := by
  simp [request, hr, hb, ha]

/-- All that an event can do (09 R180). -/
theorem event_cases (f : State → State) :
    (s.inReset = true ∧ event f s = s) ∨ (s.inReset = false ∧ event f s = f s) := by
  unfold event; cases h : s.inReset <;> simp

/-! ### The cue engine -/

@[simp] theorem State.conflict_now (i h o : Nat) : (State.conflict i h o s).now = s.now := rfl
@[simp] theorem State.conflict_free (i h o : Nat) : (State.conflict i h o s).free = s.free := rfl
@[simp] theorem State.conflict_inReset (i h o : Nat) : (State.conflict i h o s).inReset = s.inReset := rfl
@[simp] theorem State.conflict_settings (i h o : Nat) : (State.conflict i h o s).settings = s.settings := rfl
@[simp] theorem State.conflict_pos (i h o : Nat) : (State.conflict i h o s).pos = s.pos := rfl
@[simp] theorem State.conflict_gdu (i h o : Nat) : (State.conflict i h o s).gdu = s.gdu := rfl
@[simp] theorem State.conflict_msv (i h o : Nat) : (State.conflict i h o s).msv = s.msv := rfl
@[simp] theorem State.conflict_rsm (i h o : Nat) : (State.conflict i h o s).rsm = s.rsm := rfl
@[simp] theorem State.conflict_flp (i h o : Nat) : (State.conflict i h o s).flp = s.flp := rfl
@[simp] theorem State.conflict_snd (i h o : Nat) : (State.conflict i h o s).snd = s.snd := rfl
@[simp] theorem State.conflict_port (i h o : Nat) : (State.conflict i h o s).port = s.port := rfl
@[simp] theorem State.conflict_lines (i h o : Nat) : (State.conflict i h o s).lines = s.lines := rfl
@[simp] theorem State.conflict_pending (i h o : Nat) : (State.conflict i h o s).pending = s.pending := rfl

@[simp] theorem State.skipAction_now (i x : Nat) : (State.skipAction i x s).now = s.now := rfl
@[simp] theorem State.skipAction_free (i x : Nat) : (State.skipAction i x s).free = s.free := rfl
@[simp] theorem State.skipAction_inReset (i x : Nat) : (State.skipAction i x s).inReset = s.inReset := rfl
@[simp] theorem State.skipAction_settings (i x : Nat) : (State.skipAction i x s).settings = s.settings := rfl
@[simp] theorem State.skipAction_pos (i x : Nat) : (State.skipAction i x s).pos = s.pos := rfl
@[simp] theorem State.skipAction_gdu (i x : Nat) : (State.skipAction i x s).gdu = s.gdu := rfl
@[simp] theorem State.skipAction_msv (i x : Nat) : (State.skipAction i x s).msv = s.msv := rfl
@[simp] theorem State.skipAction_rsm (i x : Nat) : (State.skipAction i x s).rsm = s.rsm := rfl
@[simp] theorem State.skipAction_flp (i x : Nat) : (State.skipAction i x s).flp = s.flp := rfl
@[simp] theorem State.skipAction_snd (i x : Nat) : (State.skipAction i x s).snd = s.snd := rfl
@[simp] theorem State.skipAction_port (i x : Nat) : (State.skipAction i x s).port = s.port := rfl
@[simp] theorem State.skipAction_lines (i x : Nat) : (State.skipAction i x s).lines = s.lines := rfl
@[simp] theorem State.skipAction_pending (i x : Nat) : (State.skipAction i x s).pending = s.pending := rfl

@[simp] theorem State.runPlay_now (i l x c : Nat) (b : Buses) (g : Nat) (p e : Bool) : (State.runPlay i l x c b g p e s).now = s.now := by
  unfold State.runPlay; split
  · rename_i h; exact State.claimVoice_now h
  · rfl
@[simp] theorem State.runPlay_inReset (i l x c : Nat) (b : Buses) (g : Nat) (p e : Bool) : (State.runPlay i l x c b g p e s).inReset = s.inReset := by
  unfold State.runPlay; split
  · rename_i h; exact State.claimVoice_inReset h
  · rfl
@[simp] theorem State.runPlay_settings (i l x c : Nat) (b : Buses) (g : Nat) (p e : Bool) : (State.runPlay i l x c b g p e s).settings = s.settings := by
  unfold State.runPlay; split
  · rename_i h; exact State.claimVoice_settings h
  · rfl
@[simp] theorem State.runPlay_pos (i l x c : Nat) (b : Buses) (g : Nat) (p e : Bool) : (State.runPlay i l x c b g p e s).pos = s.pos := by
  unfold State.runPlay; split
  · rename_i h; exact State.claimVoice_pos h
  · rfl
@[simp] theorem State.runPlay_gdu (i l x c : Nat) (b : Buses) (g : Nat) (p e : Bool) : (State.runPlay i l x c b g p e s).gdu = s.gdu := by
  unfold State.runPlay; split
  · rename_i h; exact State.claimVoice_gdu h
  · rfl
@[simp] theorem State.runPlay_msv (i l x c : Nat) (b : Buses) (g : Nat) (p e : Bool) : (State.runPlay i l x c b g p e s).msv = s.msv := by
  unfold State.runPlay; split
  · rename_i h; exact State.claimVoice_msv h
  · rfl
@[simp] theorem State.runPlay_rsm (i l x c : Nat) (b : Buses) (g : Nat) (p e : Bool) : (State.runPlay i l x c b g p e s).rsm = s.rsm := by
  unfold State.runPlay; split
  · rename_i h; exact State.claimVoice_rsm h
  · rfl
@[simp] theorem State.runPlay_port (i l x c : Nat) (b : Buses) (g : Nat) (p e : Bool) : (State.runPlay i l x c b g p e s).port = s.port := by
  unfold State.runPlay; split
  · rename_i h; exact State.claimVoice_port h
  · rfl
@[simp] theorem State.runPlay_lines (i l x c : Nat) (b : Buses) (g : Nat) (p e : Bool) : (State.runPlay i l x c b g p e s).lines = s.lines := by
  unfold State.runPlay; split
  · rename_i h; exact State.claimVoice_lines h
  · rfl
@[simp] theorem State.runPlay_pending (i l x c : Nat) (b : Buses) (g : Nat) (p e : Bool) : (State.runPlay i l x c b g p e s).pending = s.pending := by
  unfold State.runPlay; split
  · rename_i h; exact State.claimVoice_pending h
  · rfl

@[simp] theorem State.runEffect_now (i l x n a b k : Nat) (t : Bool) : (State.runEffect i l x n a b k t s).now = s.now := by
  unfold State.runEffect; split
  · rfl
  · dsimp only; split <;> rfl
@[simp] theorem State.runEffect_free (i l x n a b k : Nat) (t : Bool) : (State.runEffect i l x n a b k t s).free = s.free := by
  unfold State.runEffect; split
  · rfl
  · dsimp only; split <;> rfl
@[simp] theorem State.runEffect_inReset (i l x n a b k : Nat) (t : Bool) : (State.runEffect i l x n a b k t s).inReset = s.inReset := by
  unfold State.runEffect; split
  · rfl
  · dsimp only; split <;> rfl
@[simp] theorem State.runEffect_settings (i l x n a b k : Nat) (t : Bool) : (State.runEffect i l x n a b k t s).settings = s.settings := by
  unfold State.runEffect; split
  · rfl
  · dsimp only; split <;> rfl
@[simp] theorem State.runEffect_pos (i l x n a b k : Nat) (t : Bool) : (State.runEffect i l x n a b k t s).pos = s.pos := by
  unfold State.runEffect; split
  · rfl
  · dsimp only; split <;> rfl
@[simp] theorem State.runEffect_gdu (i l x n a b k : Nat) (t : Bool) : (State.runEffect i l x n a b k t s).gdu = s.gdu := by
  unfold State.runEffect; split
  · rfl
  · dsimp only; split <;> rfl
@[simp] theorem State.runEffect_msv (i l x n a b k : Nat) (t : Bool) : (State.runEffect i l x n a b k t s).msv = s.msv := by
  unfold State.runEffect; split
  · rfl
  · dsimp only; split <;> rfl
@[simp] theorem State.runEffect_rsm (i l x n a b k : Nat) (t : Bool) : (State.runEffect i l x n a b k t s).rsm = s.rsm := by
  unfold State.runEffect; split
  · rfl
  · dsimp only; split <;> rfl
@[simp] theorem State.runEffect_flp (i l x n a b k : Nat) (t : Bool) : (State.runEffect i l x n a b k t s).flp = s.flp := by
  unfold State.runEffect; split
  · rfl
  · dsimp only; split <;> rfl
@[simp] theorem State.runEffect_snd (i l x n a b k : Nat) (t : Bool) : (State.runEffect i l x n a b k t s).snd = s.snd := by
  unfold State.runEffect; split
  · rfl
  · dsimp only; split <;> rfl
@[simp] theorem State.runEffect_port (i l x n a b k : Nat) (t : Bool) : (State.runEffect i l x n a b k t s).port = s.port := by
  unfold State.runEffect; split
  · rfl
  · dsimp only; split <;> rfl
@[simp] theorem State.runEffect_lines (i l x n a b k : Nat) (t : Bool) : (State.runEffect i l x n a b k t s).lines = s.lines := by
  unfold State.runEffect; split
  · rfl
  · dsimp only; split <;> rfl
@[simp] theorem State.runEffect_pending (i l x n a b k : Nat) (t : Bool) : (State.runEffect i l x n a b k t s).pending = s.pending := by
  unfold State.runEffect; split
  · rfl
  · dsimp only; split <;> rfl

@[simp] theorem State.runBeacon_now (i x c : Nat) : (State.runBeacon i x c s).now = s.now := by
  unfold State.runBeacon; split <;> rfl
@[simp] theorem State.runBeacon_free (i x c : Nat) : (State.runBeacon i x c s).free = s.free := by
  unfold State.runBeacon; split <;> rfl
@[simp] theorem State.runBeacon_inReset (i x c : Nat) : (State.runBeacon i x c s).inReset = s.inReset := by
  unfold State.runBeacon; split <;> rfl
@[simp] theorem State.runBeacon_settings (i x c : Nat) : (State.runBeacon i x c s).settings = s.settings := by
  unfold State.runBeacon; split <;> rfl
@[simp] theorem State.runBeacon_pos (i x c : Nat) : (State.runBeacon i x c s).pos = s.pos := by
  unfold State.runBeacon; split <;> rfl
@[simp] theorem State.runBeacon_gdu (i x c : Nat) : (State.runBeacon i x c s).gdu = s.gdu := by
  unfold State.runBeacon; split <;> rfl
@[simp] theorem State.runBeacon_msv (i x c : Nat) : (State.runBeacon i x c s).msv = s.msv := by
  unfold State.runBeacon; split <;> rfl
@[simp] theorem State.runBeacon_rsm (i x c : Nat) : (State.runBeacon i x c s).rsm = s.rsm := by
  unfold State.runBeacon; split <;> rfl
@[simp] theorem State.runBeacon_flp (i x c : Nat) : (State.runBeacon i x c s).flp = s.flp := by
  unfold State.runBeacon; split <;> rfl
@[simp] theorem State.runBeacon_snd (i x c : Nat) : (State.runBeacon i x c s).snd = s.snd := by
  unfold State.runBeacon; split <;> rfl
@[simp] theorem State.runBeacon_port (i x c : Nat) : (State.runBeacon i x c s).port = s.port := by
  unfold State.runBeacon; split <;> rfl
@[simp] theorem State.runBeacon_lines (i x c : Nat) : (State.runBeacon i x c s).lines = s.lines := by
  unfold State.runBeacon; split <;> rfl
@[simp] theorem State.runBeacon_pending (i x c : Nat) : (State.runBeacon i x c s).pending = s.pending := by
  unfold State.runBeacon; split <;> rfl

@[simp] theorem State.storeYawTarget_now (y : Int) : (State.storeYawTarget y s).now = s.now := rfl
@[simp] theorem State.storeYawTarget_free (y : Int) : (State.storeYawTarget y s).free = s.free := rfl
@[simp] theorem State.storeYawTarget_inReset (y : Int) : (State.storeYawTarget y s).inReset = s.inReset := rfl
@[simp] theorem State.storeYawTarget_settings (y : Int) : (State.storeYawTarget y s).settings = s.settings := rfl
@[simp] theorem State.storeYawTarget_pos (y : Int) : (State.storeYawTarget y s).pos = s.pos := rfl
@[simp] theorem State.storeYawTarget_msv (y : Int) : (State.storeYawTarget y s).msv = s.msv := rfl
@[simp] theorem State.storeYawTarget_rsm (y : Int) : (State.storeYawTarget y s).rsm = s.rsm := rfl
@[simp] theorem State.storeYawTarget_cue (y : Int) : (State.storeYawTarget y s).cue = s.cue := rfl
@[simp] theorem State.storeYawTarget_flp (y : Int) : (State.storeYawTarget y s).flp = s.flp := rfl
@[simp] theorem State.storeYawTarget_snd (y : Int) : (State.storeYawTarget y s).snd = s.snd := rfl
@[simp] theorem State.storeYawTarget_ntu (y : Int) : (State.storeYawTarget y s).ntu = s.ntu := rfl
@[simp] theorem State.storeYawTarget_port (y : Int) : (State.storeYawTarget y s).port = s.port := rfl
@[simp] theorem State.storeYawTarget_lines (y : Int) : (State.storeYawTarget y s).lines = s.lines := rfl
@[simp] theorem State.storeYawTarget_pending (y : Int) : (State.storeYawTarget y s).pending = s.pending := rfl

@[simp] theorem State.runYaw_now (i l : Nat) (y : Int) : (State.runYaw i l y s).now = s.now := by
  unfold State.runYaw; dsimp only; split <;> rfl
@[simp] theorem State.runYaw_free (i l : Nat) (y : Int) : (State.runYaw i l y s).free = s.free := by
  unfold State.runYaw; dsimp only; split <;> rfl
@[simp] theorem State.runYaw_inReset (i l : Nat) (y : Int) : (State.runYaw i l y s).inReset = s.inReset := by
  unfold State.runYaw; dsimp only; split <;> rfl
@[simp] theorem State.runYaw_settings (i l : Nat) (y : Int) : (State.runYaw i l y s).settings = s.settings := by
  unfold State.runYaw; dsimp only; split <;> rfl
@[simp] theorem State.runYaw_pos (i l : Nat) (y : Int) : (State.runYaw i l y s).pos = s.pos := by
  unfold State.runYaw; dsimp only; split <;> rfl
@[simp] theorem State.runYaw_msv (i l : Nat) (y : Int) : (State.runYaw i l y s).msv = s.msv := by
  unfold State.runYaw; dsimp only; split <;> rfl
@[simp] theorem State.runYaw_rsm (i l : Nat) (y : Int) : (State.runYaw i l y s).rsm = s.rsm := by
  unfold State.runYaw; dsimp only; split <;> rfl
@[simp] theorem State.runYaw_flp (i l : Nat) (y : Int) : (State.runYaw i l y s).flp = s.flp := by
  unfold State.runYaw; dsimp only; split <;> rfl
@[simp] theorem State.runYaw_snd (i l : Nat) (y : Int) : (State.runYaw i l y s).snd = s.snd := by
  unfold State.runYaw; dsimp only; split <;> rfl
@[simp] theorem State.runYaw_port (i l : Nat) (y : Int) : (State.runYaw i l y s).port = s.port := by
  unfold State.runYaw; dsimp only; split <;> rfl
@[simp] theorem State.runYaw_lines (i l : Nat) (y : Int) : (State.runYaw i l y s).lines = s.lines := by
  unfold State.runYaw; dsimp only; split <;> rfl
@[simp] theorem State.runYaw_pending (i l : Nat) (y : Int) : (State.runYaw i l y s).pending = s.pending := by
  unfold State.runYaw; dsimp only; split <;> rfl

theorem State.requestDwell_now {ms : Nat} {s t : State} (h : s.requestDwell ms = some t) : t.now = s.now := by
  unfold State.requestDwell at h; split at h <;> cases h <;> rfl
theorem State.requestDwell_free {ms : Nat} {s t : State} (h : s.requestDwell ms = some t) : t.free = s.free := by
  unfold State.requestDwell at h; split at h <;> cases h <;> rfl
theorem State.requestDwell_inReset {ms : Nat} {s t : State} (h : s.requestDwell ms = some t) : t.inReset = s.inReset := by
  unfold State.requestDwell at h; split at h <;> cases h <;> rfl
theorem State.requestDwell_settings {ms : Nat} {s t : State} (h : s.requestDwell ms = some t) : t.settings = s.settings := by
  unfold State.requestDwell at h; split at h <;> cases h <;> rfl
theorem State.requestDwell_pos {ms : Nat} {s t : State} (h : s.requestDwell ms = some t) : t.pos = s.pos := by
  unfold State.requestDwell at h; split at h <;> cases h <;> rfl
theorem State.requestDwell_gdu {ms : Nat} {s t : State} (h : s.requestDwell ms = some t) : t.gdu = s.gdu := by
  unfold State.requestDwell at h; split at h <;> cases h <;> rfl
theorem State.requestDwell_rsm {ms : Nat} {s t : State} (h : s.requestDwell ms = some t) : t.rsm = s.rsm := by
  unfold State.requestDwell at h; split at h <;> cases h <;> rfl
theorem State.requestDwell_cue {ms : Nat} {s t : State} (h : s.requestDwell ms = some t) : t.cue = s.cue := by
  unfold State.requestDwell at h; split at h <;> cases h <;> rfl
theorem State.requestDwell_flp {ms : Nat} {s t : State} (h : s.requestDwell ms = some t) : t.flp = s.flp := by
  unfold State.requestDwell at h; split at h <;> cases h <;> rfl
theorem State.requestDwell_snd {ms : Nat} {s t : State} (h : s.requestDwell ms = some t) : t.snd = s.snd := by
  unfold State.requestDwell at h; split at h <;> cases h <;> rfl
theorem State.requestDwell_port {ms : Nat} {s t : State} (h : s.requestDwell ms = some t) : t.port = s.port := by
  unfold State.requestDwell at h; split at h <;> cases h <;> rfl
theorem State.requestDwell_lines {ms : Nat} {s t : State} (h : s.requestDwell ms = some t) : t.lines = s.lines := by
  unfold State.requestDwell at h; split at h <;> cases h <;> rfl
theorem State.requestDwell_pending {ms : Nat} {s t : State} (h : s.requestDwell ms = some t) : t.pending = s.pending := by
  unfold State.requestDwell at h; split at h <;> cases h <;> rfl

@[simp] theorem State.runDwell_now (i x m : Nat) : (State.runDwell i x m s).now = s.now := by
  unfold State.runDwell; cases h : s.requestDwell m with
  | none => rfl
  | some t => exact State.requestDwell_now h
@[simp] theorem State.runDwell_free (i x m : Nat) : (State.runDwell i x m s).free = s.free := by
  unfold State.runDwell; cases h : s.requestDwell m with
  | none => rfl
  | some t => exact State.requestDwell_free h
@[simp] theorem State.runDwell_inReset (i x m : Nat) : (State.runDwell i x m s).inReset = s.inReset := by
  unfold State.runDwell; cases h : s.requestDwell m with
  | none => rfl
  | some t => exact State.requestDwell_inReset h
@[simp] theorem State.runDwell_settings (i x m : Nat) : (State.runDwell i x m s).settings = s.settings := by
  unfold State.runDwell; cases h : s.requestDwell m with
  | none => rfl
  | some t => exact State.requestDwell_settings h
@[simp] theorem State.runDwell_pos (i x m : Nat) : (State.runDwell i x m s).pos = s.pos := by
  unfold State.runDwell; cases h : s.requestDwell m with
  | none => rfl
  | some t => exact State.requestDwell_pos h
@[simp] theorem State.runDwell_gdu (i x m : Nat) : (State.runDwell i x m s).gdu = s.gdu := by
  unfold State.runDwell; cases h : s.requestDwell m with
  | none => rfl
  | some t => exact State.requestDwell_gdu h
@[simp] theorem State.runDwell_rsm (i x m : Nat) : (State.runDwell i x m s).rsm = s.rsm := by
  unfold State.runDwell; cases h : s.requestDwell m with
  | none => rfl
  | some t => exact State.requestDwell_rsm h
@[simp] theorem State.runDwell_flp (i x m : Nat) : (State.runDwell i x m s).flp = s.flp := by
  unfold State.runDwell; cases h : s.requestDwell m with
  | none => rfl
  | some t => exact State.requestDwell_flp h
@[simp] theorem State.runDwell_snd (i x m : Nat) : (State.runDwell i x m s).snd = s.snd := by
  unfold State.runDwell; cases h : s.requestDwell m with
  | none => rfl
  | some t => exact State.requestDwell_snd h
@[simp] theorem State.runDwell_port (i x m : Nat) : (State.runDwell i x m s).port = s.port := by
  unfold State.runDwell; cases h : s.requestDwell m with
  | none => rfl
  | some t => exact State.requestDwell_port h
@[simp] theorem State.runDwell_lines (i x m : Nat) : (State.runDwell i x m s).lines = s.lines := by
  unfold State.runDwell; cases h : s.requestDwell m with
  | none => rfl
  | some t => exact State.requestDwell_lines h
@[simp] theorem State.runDwell_pending (i x m : Nat) : (State.runDwell i x m s).pending = s.pending := by
  unfold State.runDwell; cases h : s.requestDwell m with
  | none => rfl
  | some t => exact State.requestDwell_pending h

@[simp] theorem State.runSlow_now (i v : Nat) : (State.runSlow i v s).now = s.now := rfl
@[simp] theorem State.runSlow_free (i v : Nat) : (State.runSlow i v s).free = s.free := rfl
@[simp] theorem State.runSlow_inReset (i v : Nat) : (State.runSlow i v s).inReset = s.inReset := rfl
@[simp] theorem State.runSlow_settings (i v : Nat) : (State.runSlow i v s).settings = s.settings := rfl
@[simp] theorem State.runSlow_pos (i v : Nat) : (State.runSlow i v s).pos = s.pos := rfl
@[simp] theorem State.runSlow_gdu (i v : Nat) : (State.runSlow i v s).gdu = s.gdu := rfl
@[simp] theorem State.runSlow_msv (i v : Nat) : (State.runSlow i v s).msv = s.msv := rfl
@[simp] theorem State.runSlow_rsm (i v : Nat) : (State.runSlow i v s).rsm = s.rsm := rfl
@[simp] theorem State.runSlow_flp (i v : Nat) : (State.runSlow i v s).flp = s.flp := rfl
@[simp] theorem State.runSlow_snd (i v : Nat) : (State.runSlow i v s).snd = s.snd := rfl
@[simp] theorem State.runSlow_ntu (i v : Nat) : (State.runSlow i v s).ntu = s.ntu := rfl
@[simp] theorem State.runSlow_port (i v : Nat) : (State.runSlow i v s).port = s.port := rfl
@[simp] theorem State.runSlow_lines (i v : Nat) : (State.runSlow i v s).lines = s.lines := rfl
@[simp] theorem State.runSlow_pending (i v : Nat) : (State.runSlow i v s).pending = s.pending := rfl

@[simp] theorem State.runAction_now (i l x : Nat) (a : Action) : (State.runAction i l x a s).now = s.now := by
  cases a <;> simp [State.runAction]
@[simp] theorem State.runAction_inReset (i l x : Nat) (a : Action) : (State.runAction i l x a s).inReset = s.inReset := by
  cases a <;> simp [State.runAction]
@[simp] theorem State.runAction_settings (i l x : Nat) (a : Action) : (State.runAction i l x a s).settings = s.settings := by
  cases a <;> simp [State.runAction]
@[simp] theorem State.runAction_pos (i l x : Nat) (a : Action) : (State.runAction i l x a s).pos = s.pos := by
  cases a <;> simp [State.runAction]
@[simp] theorem State.runAction_rsm (i l x : Nat) (a : Action) : (State.runAction i l x a s).rsm = s.rsm := by
  cases a <;> simp [State.runAction]
@[simp] theorem State.runAction_port (i l x : Nat) (a : Action) : (State.runAction i l x a s).port = s.port := by
  cases a <;> simp [State.runAction]
@[simp] theorem State.runAction_lines (i l x : Nat) (a : Action) : (State.runAction i l x a s).lines = s.lines := by
  cases a <;> simp [State.runAction]
@[simp] theorem State.runAction_pending (i l x : Nat) (a : Action) : (State.runAction i l x a s).pending = s.pending := by
  cases a <;> simp [State.runAction]

@[simp] theorem State.runActions_now (i l x : Nat) (as : List Action) (s : State) :
    (State.runActions i l x as s).now = s.now := by
  induction as generalizing x s with
  | nil => rfl
  | cons a as ih => simp [State.runActions, ih]
@[simp] theorem State.runActions_inReset (i l x : Nat) (as : List Action) (s : State) :
    (State.runActions i l x as s).inReset = s.inReset := by
  induction as generalizing x s with
  | nil => rfl
  | cons a as ih => simp [State.runActions, ih]
@[simp] theorem State.runActions_settings (i l x : Nat) (as : List Action) (s : State) :
    (State.runActions i l x as s).settings = s.settings := by
  induction as generalizing x s with
  | nil => rfl
  | cons a as ih => simp [State.runActions, ih]
@[simp] theorem State.runActions_pos (i l x : Nat) (as : List Action) (s : State) :
    (State.runActions i l x as s).pos = s.pos := by
  induction as generalizing x s with
  | nil => rfl
  | cons a as ih => simp [State.runActions, ih]
@[simp] theorem State.runActions_rsm (i l x : Nat) (as : List Action) (s : State) :
    (State.runActions i l x as s).rsm = s.rsm := by
  induction as generalizing x s with
  | nil => rfl
  | cons a as ih => simp [State.runActions, ih]
@[simp] theorem State.runActions_port (i l x : Nat) (as : List Action) (s : State) :
    (State.runActions i l x as s).port = s.port := by
  induction as generalizing x s with
  | nil => rfl
  | cons a as ih => simp [State.runActions, ih]
@[simp] theorem State.runActions_lines (i l x : Nat) (as : List Action) (s : State) :
    (State.runActions i l x as s).lines = s.lines := by
  induction as generalizing x s with
  | nil => rfl
  | cons a as ih => simp [State.runActions, ih]
@[simp] theorem State.runActions_pending (i l x : Nat) (as : List Action) (s : State) :
    (State.runActions i l x as s).pending = s.pending := by
  induction as generalizing x s with
  | nil => rfl
  | cons a as ih => simp [State.runActions, ih]

@[simp] theorem State.exitCue_now (i : Nat) (a : Bool) : (State.exitCue i a s).now = s.now := rfl
@[simp] theorem State.exitCue_free (i : Nat) (a : Bool) : (State.exitCue i a s).free = s.free := rfl
@[simp] theorem State.exitCue_inReset (i : Nat) (a : Bool) : (State.exitCue i a s).inReset = s.inReset := rfl
@[simp] theorem State.exitCue_settings (i : Nat) (a : Bool) : (State.exitCue i a s).settings = s.settings := rfl
@[simp] theorem State.exitCue_pos (i : Nat) (a : Bool) : (State.exitCue i a s).pos = s.pos := rfl
@[simp] theorem State.exitCue_gdu (i : Nat) (a : Bool) : (State.exitCue i a s).gdu = s.gdu := rfl
@[simp] theorem State.exitCue_msv (i : Nat) (a : Bool) : (State.exitCue i a s).msv = s.msv := rfl
@[simp] theorem State.exitCue_rsm (i : Nat) (a : Bool) : (State.exitCue i a s).rsm = s.rsm := rfl
@[simp] theorem State.exitCue_flp (i : Nat) (a : Bool) : (State.exitCue i a s).flp = s.flp := rfl
@[simp] theorem State.exitCue_ntu (i : Nat) (a : Bool) : (State.exitCue i a s).ntu = s.ntu := rfl
@[simp] theorem State.exitCue_port (i : Nat) (a : Bool) : (State.exitCue i a s).port = s.port := rfl
@[simp] theorem State.exitCue_lines (i : Nat) (a : Bool) : (State.exitCue i a s).lines = s.lines := rfl
@[simp] theorem State.exitCue_pending (i : Nat) (a : Bool) : (State.exitCue i a s).pending = s.pending := rfl

@[simp] theorem State.fireCue_now (i : Nat) (c : Cue) : (State.fireCue i c s).now = s.now := by
  unfold State.fireCue; dsimp only; split <;> simp
@[simp] theorem State.fireCue_inReset (i : Nat) (c : Cue) : (State.fireCue i c s).inReset = s.inReset := by
  unfold State.fireCue; dsimp only; split <;> simp
@[simp] theorem State.fireCue_settings (i : Nat) (c : Cue) : (State.fireCue i c s).settings = s.settings := by
  unfold State.fireCue; dsimp only; split <;> simp
@[simp] theorem State.fireCue_pos (i : Nat) (c : Cue) : (State.fireCue i c s).pos = s.pos := by
  unfold State.fireCue; dsimp only; split <;> simp
@[simp] theorem State.fireCue_rsm (i : Nat) (c : Cue) : (State.fireCue i c s).rsm = s.rsm := by
  unfold State.fireCue; dsimp only; split <;> simp
@[simp] theorem State.fireCue_port (i : Nat) (c : Cue) : (State.fireCue i c s).port = s.port := by
  unfold State.fireCue; dsimp only; split <;> simp
@[simp] theorem State.fireCue_lines (i : Nat) (c : Cue) : (State.fireCue i c s).lines = s.lines := by
  unfold State.fireCue; dsimp only; split <;> simp
@[simp] theorem State.fireCue_pending (i : Nat) (c : Cue) : (State.fireCue i c s).pending = s.pending := by
  unfold State.fireCue; dsimp only; split <;> simp

@[simp] theorem State.skipCue_now (i : Nat) : (State.skipCue i s).now = s.now := rfl
@[simp] theorem State.skipCue_free (i : Nat) : (State.skipCue i s).free = s.free := rfl
@[simp] theorem State.skipCue_inReset (i : Nat) : (State.skipCue i s).inReset = s.inReset := rfl
@[simp] theorem State.skipCue_settings (i : Nat) : (State.skipCue i s).settings = s.settings := rfl
@[simp] theorem State.skipCue_pos (i : Nat) : (State.skipCue i s).pos = s.pos := rfl
@[simp] theorem State.skipCue_gdu (i : Nat) : (State.skipCue i s).gdu = s.gdu := rfl
@[simp] theorem State.skipCue_msv (i : Nat) : (State.skipCue i s).msv = s.msv := rfl
@[simp] theorem State.skipCue_rsm (i : Nat) : (State.skipCue i s).rsm = s.rsm := rfl
@[simp] theorem State.skipCue_flp (i : Nat) : (State.skipCue i s).flp = s.flp := rfl
@[simp] theorem State.skipCue_snd (i : Nat) : (State.skipCue i s).snd = s.snd := rfl
@[simp] theorem State.skipCue_port (i : Nat) : (State.skipCue i s).port = s.port := rfl
@[simp] theorem State.skipCue_lines (i : Nat) : (State.skipCue i s).lines = s.lines := rfl
@[simp] theorem State.skipCue_pending (i : Nat) : (State.skipCue i s).pending = s.pending := rfl

@[simp] theorem State.leaveCue_now (g i : Nat) : (State.leaveCue g i s).now = s.now := by
  unfold State.leaveCue; split
  · rfl
  · split
    · rfl
    · dsimp only; split <;> split <;> simp
@[simp] theorem State.leaveCue_inReset (g i : Nat) : (State.leaveCue g i s).inReset = s.inReset := by
  unfold State.leaveCue; split
  · rfl
  · split
    · rfl
    · dsimp only; split <;> split <;> simp
@[simp] theorem State.leaveCue_settings (g i : Nat) : (State.leaveCue g i s).settings = s.settings := by
  unfold State.leaveCue; split
  · rfl
  · split
    · rfl
    · dsimp only; split <;> split <;> simp
@[simp] theorem State.leaveCue_pos (g i : Nat) : (State.leaveCue g i s).pos = s.pos := by
  unfold State.leaveCue; split
  · rfl
  · split
    · rfl
    · dsimp only; split <;> split <;> simp
@[simp] theorem State.leaveCue_rsm (g i : Nat) : (State.leaveCue g i s).rsm = s.rsm := by
  unfold State.leaveCue; split
  · rfl
  · split
    · rfl
    · dsimp only; split <;> split <;> simp
@[simp] theorem State.leaveCue_port (g i : Nat) : (State.leaveCue g i s).port = s.port := by
  unfold State.leaveCue; split
  · rfl
  · split
    · rfl
    · dsimp only; split <;> split <;> simp
@[simp] theorem State.leaveCue_lines (g i : Nat) : (State.leaveCue g i s).lines = s.lines := by
  unfold State.leaveCue; split
  · rfl
  · split
    · rfl
    · dsimp only; split <;> split <;> simp
@[simp] theorem State.leaveCue_pending (g i : Nat) : (State.leaveCue g i s).pending = s.pending := by
  unfold State.leaveCue; split
  · rfl
  · split
    · rfl
    · dsimp only; split <;> split <;> simp

@[simp] theorem State.endCue_now (g l i : Nat) : (State.endCue g l i s).now = s.now := by
  unfold State.endCue; split
  · rfl
  · split <;> simp
@[simp] theorem State.endCue_inReset (g l i : Nat) : (State.endCue g l i s).inReset = s.inReset := by
  unfold State.endCue; split
  · rfl
  · split <;> simp
@[simp] theorem State.endCue_settings (g l i : Nat) : (State.endCue g l i s).settings = s.settings := by
  unfold State.endCue; split
  · rfl
  · split <;> simp
@[simp] theorem State.endCue_pos (g l i : Nat) : (State.endCue g l i s).pos = s.pos := by
  unfold State.endCue; split
  · rfl
  · split <;> simp
@[simp] theorem State.endCue_rsm (g l i : Nat) : (State.endCue g l i s).rsm = s.rsm := by
  unfold State.endCue; split
  · rfl
  · split <;> simp
@[simp] theorem State.endCue_port (g l i : Nat) : (State.endCue g l i s).port = s.port := by
  unfold State.endCue; split
  · rfl
  · split <;> simp
@[simp] theorem State.endCue_lines (g l i : Nat) : (State.endCue g l i s).lines = s.lines := by
  unfold State.endCue; split
  · rfl
  · split <;> simp
@[simp] theorem State.endCue_pending (g l i : Nat) : (State.endCue g l i s).pending = s.pending := by
  unfold State.endCue; split
  · rfl
  · split <;> simp

@[simp] theorem State.judgeCue_now (g l i : Nat) : (State.judgeCue g l i s).now = s.now := by
  unfold State.judgeCue; split
  · rfl
  · split
    · rfl
    · split
      · simp
      · split <;> simp
@[simp] theorem State.judgeCue_inReset (g l i : Nat) : (State.judgeCue g l i s).inReset = s.inReset := by
  unfold State.judgeCue; split
  · rfl
  · split
    · rfl
    · split
      · simp
      · split <;> simp
@[simp] theorem State.judgeCue_settings (g l i : Nat) : (State.judgeCue g l i s).settings = s.settings := by
  unfold State.judgeCue; split
  · rfl
  · split
    · rfl
    · split
      · simp
      · split <;> simp
@[simp] theorem State.judgeCue_pos (g l i : Nat) : (State.judgeCue g l i s).pos = s.pos := by
  unfold State.judgeCue; split
  · rfl
  · split
    · rfl
    · split
      · simp
      · split <;> simp
@[simp] theorem State.judgeCue_rsm (g l i : Nat) : (State.judgeCue g l i s).rsm = s.rsm := by
  unfold State.judgeCue; split
  · rfl
  · split
    · rfl
    · split
      · simp
      · split <;> simp
@[simp] theorem State.judgeCue_port (g l i : Nat) : (State.judgeCue g l i s).port = s.port := by
  unfold State.judgeCue; split
  · rfl
  · split
    · rfl
    · split
      · simp
      · split <;> simp
@[simp] theorem State.judgeCue_lines (g l i : Nat) : (State.judgeCue g l i s).lines = s.lines := by
  unfold State.judgeCue; split
  · rfl
  · split
    · rfl
    · split
      · simp
      · split <;> simp
@[simp] theorem State.judgeCue_pending (g l i : Nat) : (State.judgeCue g l i s).pending = s.pending := by
  unfold State.judgeCue; split
  · rfl
  · split
    · rfl
    · split
      · simp
      · split <;> simp

/-- What each step leaves, all leave. -/
theorem eachId_now {g : Nat → State → State} (h : ∀ i s, (g i s).now = s.now) (ids : List Nat) (s : State) :
    (eachId g ids s).now = s.now := by
  unfold eachId; induction ids generalizing s with
  | nil => rfl
  | cons i ids ih => rw [List.foldl_cons, ih, h]
@[simp] theorem State.evaluate_now (m : Bool) : (s.evaluate m).now = s.now := by
  unfold State.evaluate; split
  · rfl
  · dsimp only; rw [State.setCue_now, eachId_now (by simp), eachId_now (by simp)]; split
    · rw [eachId_now (by simp)]
    · rfl
/-- What each step leaves, all leave. -/
theorem eachId_inReset {g : Nat → State → State} (h : ∀ i s, (g i s).inReset = s.inReset) (ids : List Nat) (s : State) :
    (eachId g ids s).inReset = s.inReset := by
  unfold eachId; induction ids generalizing s with
  | nil => rfl
  | cons i ids ih => rw [List.foldl_cons, ih, h]
@[simp] theorem State.evaluate_inReset (m : Bool) : (s.evaluate m).inReset = s.inReset := by
  unfold State.evaluate; split
  · rfl
  · dsimp only; rw [State.setCue_inReset, eachId_inReset (by simp), eachId_inReset (by simp)]; split
    · rw [eachId_inReset (by simp)]
    · rfl
/-- What each step leaves, all leave. -/
theorem eachId_settings {g : Nat → State → State} (h : ∀ i s, (g i s).settings = s.settings) (ids : List Nat) (s : State) :
    (eachId g ids s).settings = s.settings := by
  unfold eachId; induction ids generalizing s with
  | nil => rfl
  | cons i ids ih => rw [List.foldl_cons, ih, h]
@[simp] theorem State.evaluate_settings (m : Bool) : (s.evaluate m).settings = s.settings := by
  unfold State.evaluate; split
  · rfl
  · dsimp only; rw [State.setCue_settings, eachId_settings (by simp), eachId_settings (by simp)]; split
    · rw [eachId_settings (by simp)]
    · rfl
/-- What each step leaves, all leave. -/
theorem eachId_pos {g : Nat → State → State} (h : ∀ i s, (g i s).pos = s.pos) (ids : List Nat) (s : State) :
    (eachId g ids s).pos = s.pos := by
  unfold eachId; induction ids generalizing s with
  | nil => rfl
  | cons i ids ih => rw [List.foldl_cons, ih, h]
@[simp] theorem State.evaluate_pos (m : Bool) : (s.evaluate m).pos = s.pos := by
  unfold State.evaluate; split
  · rfl
  · dsimp only; rw [State.setCue_pos, eachId_pos (by simp), eachId_pos (by simp)]; split
    · rw [eachId_pos (by simp)]
    · rfl
/-- What each step leaves, all leave. -/
theorem eachId_rsm {g : Nat → State → State} (h : ∀ i s, (g i s).rsm = s.rsm) (ids : List Nat) (s : State) :
    (eachId g ids s).rsm = s.rsm := by
  unfold eachId; induction ids generalizing s with
  | nil => rfl
  | cons i ids ih => rw [List.foldl_cons, ih, h]
@[simp] theorem State.evaluate_rsm (m : Bool) : (s.evaluate m).rsm = s.rsm := by
  unfold State.evaluate; split
  · rfl
  · dsimp only; rw [State.setCue_rsm, eachId_rsm (by simp), eachId_rsm (by simp)]; split
    · rw [eachId_rsm (by simp)]
    · rfl
/-- What each step leaves, all leave. -/
theorem eachId_port {g : Nat → State → State} (h : ∀ i s, (g i s).port = s.port) (ids : List Nat) (s : State) :
    (eachId g ids s).port = s.port := by
  unfold eachId; induction ids generalizing s with
  | nil => rfl
  | cons i ids ih => rw [List.foldl_cons, ih, h]
@[simp] theorem State.evaluate_port (m : Bool) : (s.evaluate m).port = s.port := by
  unfold State.evaluate; split
  · rfl
  · dsimp only; rw [State.setCue_port, eachId_port (by simp), eachId_port (by simp)]; split
    · rw [eachId_port (by simp)]
    · rfl
/-- What each step leaves, all leave. -/
theorem eachId_lines {g : Nat → State → State} (h : ∀ i s, (g i s).lines = s.lines) (ids : List Nat) (s : State) :
    (eachId g ids s).lines = s.lines := by
  unfold eachId; induction ids generalizing s with
  | nil => rfl
  | cons i ids ih => rw [List.foldl_cons, ih, h]
@[simp] theorem State.evaluate_lines (m : Bool) : (s.evaluate m).lines = s.lines := by
  unfold State.evaluate; split
  · rfl
  · dsimp only; rw [State.setCue_lines, eachId_lines (by simp), eachId_lines (by simp)]; split
    · rw [eachId_lines (by simp)]
    · rfl
/-- What each step leaves, all leave. -/
theorem eachId_pending {g : Nat → State → State} (h : ∀ i s, (g i s).pending = s.pending) (ids : List Nat) (s : State) :
    (eachId g ids s).pending = s.pending := by
  unfold eachId; induction ids generalizing s with
  | nil => rfl
  | cons i ids ih => rw [List.foldl_cons, ih, h]
@[simp] theorem State.evaluate_pending (m : Bool) : (s.evaluate m).pending = s.pending := by
  unfold State.evaluate; split
  · rfl
  · dsimp only; rw [State.setCue_pending, eachId_pending (by simp), eachId_pending (by simp)]; split
    · rw [eachId_pending (by simp)]
    · rfl

end Sys2Proof.Machine
end

