-- ==== Sys2Proof/Laws/Tables.lean ====
section
/-! SUPPORT. The keyed tables and the flash: what a read gives after each operation, and that each keeps the canonical
form. -/

namespace Sys2Proof.Machine

/-! ### Keyed tables -/

section tables

variable {α : Type}

theorem Table.wf_cons (p : Nat × α) (t : Table α) :
    Table.wf (p :: t) ↔ (∀ q ∈ t, p.1 < q.1) ∧ Table.wf t := List.pairwise_cons

@[simp] theorem Table.wf_nil : Table.wf ([] : Table α) := List.Pairwise.nil

/-- Keys after a put: the old ones and `k`. -/
theorem Table.mem_put_key {k : Nat} {v : α} {t : Table α} {p : Nat × α} (h : p ∈ Table.put k v t) :
    p = (k, v) ∨ p ∈ t := by
  induction t with
  | nil => simp only [Table.put, List.mem_singleton] at h; exact .inl h
  | cons q t ih =>
    obtain ⟨j, w⟩ := q
    simp only [Table.put] at h
    split at h
    · simpa [or_assoc] using h
    · split at h
      · rcases List.mem_cons.1 h with h | h
        · exact .inl h
        · exact .inr (List.mem_cons_of_mem _ h)
      · rcases List.mem_cons.1 h with h | h
        · exact .inr (h ▸ List.mem_cons_self)
        · exact (ih h).imp id (List.mem_cons_of_mem _)

/-- A put keeps the canonical form. -/
theorem Table.wf_put (k : Nat) (v : α) {t : Table α} (h : Table.wf t) : Table.wf (Table.put k v t) := by
  induction t with
  | nil => simp [Table.put]
  | cons q t ih =>
    obtain ⟨j, w⟩ := q
    rw [Table.wf_cons] at h
    simp only [Table.put]
    split
    · rename_i hk
      refine (Table.wf_cons _ _).2 ⟨fun q hq => ?_, (Table.wf_cons _ _).2 h⟩
      rcases List.mem_cons.1 hq with rfl | hq
      · exact hk
      · exact lt_trans hk (h.1 q hq)
    · split
      · rename_i hj
        exact (Table.wf_cons _ _).2 ⟨fun q hq => hj ▸ h.1 q hq, h.2⟩
      · refine (Table.wf_cons _ _).2 ⟨fun q hq => ?_, ih h.2⟩
        rcases Table.mem_put_key hq with rfl | hq
        · simp only; omega
        · exact h.1 q hq

/-- A removal keeps the canonical form. -/
theorem Table.wf_del (k : Nat) {t : Table α} (h : Table.wf t) : Table.wf (Table.del k t) :=
  List.Pairwise.filter _ h

/-- A change of values keeps the canonical form. -/
theorem Table.wf_map (f : Nat × α → Nat × α) (hf : ∀ p, (f p).1 = p.1) {t : Table α} (h : Table.wf t) :
    Table.wf (t.map f) := by
  refine List.Pairwise.map _ (fun a b hab => ?_) h
  rw [hf, hf]; exact hab

theorem Table.wf_update (k : Nat) (f : α → α) {t : Table α} (h : Table.wf t) : Table.wf (Table.update k f t) :=
  Table.wf_map _ (fun p => by split <;> rfl) h

/-- An entry below every key is not listed. -/
theorem Table.get_eq_none {k : Nat} {t : Table α} (h : ∀ p ∈ t, k ≠ p.1) : Table.get t k = none := by
  induction t with
  | nil => rfl
  | cons q t ih =>
    obtain ⟨j, w⟩ := q
    have hj := h (j, w) List.mem_cons_self
    simp only [Table.get, if_neg (Ne.symm hj)]
    exact ih fun p hp => h p (List.mem_cons_of_mem _ hp)

/-- A put is read back, and every other key reads as before. -/
theorem Table.get_put (k : Nat) (v : α) {t : Table α} (h : Table.wf t) (j : Nat) :
    Table.get (Table.put k v t) j = if j = k then some v else Table.get t j := by
  induction t with
  | nil => simp [Table.put, Table.get, eq_comm]
  | cons q t ih =>
    obtain ⟨i, w⟩ := q
    rw [Table.wf_cons] at h
    simp only [Table.put]
    split
    · simp [Table.get, eq_comm]
    · split
      · rename_i hk; subst hk
        by_cases hj : k = j
        · simp [Table.get, hj]
        · simp [Table.get, hj, Ne.symm hj]
      · rename_i h1 h2
        by_cases hj : i = j
        · subst hj; simp [Table.get]; intro h'; exact absurd h' (Ne.symm h2)
        · simp only [Table.get, if_neg hj, ih h.2]

/-- A removed key is absent, and every other key reads as before. -/
theorem Table.get_del (k : Nat) (t : Table α) (j : Nat) :
    Table.get (Table.del k t) j = if j = k then none else Table.get t j := by
  induction t with
  | nil => simp [Table.del, Table.get]
  | cons q t ih =>
    obtain ⟨i, w⟩ := q
    by_cases hi : i = k
    · have he : Table.del k ((i, w) :: t) = Table.del k t := by simp [Table.del, hi]
      rw [he, ih]
      by_cases hj : j = k
      · simp [hj]
      · simp only [if_neg hj, Table.get]
        rw [if_neg (show i ≠ j by omega)]
    · have he : Table.del k ((i, w) :: t) = (i, w) :: Table.del k t := by simp [Table.del, hi]
      rw [he]
      simp only [Table.get, ih]
      by_cases hj : i = j
      · subst hj; simp [hi]
      · simp only [if_neg hj]

/-- A change of the entry under `k` shows there only. -/
theorem Table.get_update (k : Nat) (f : α → α) (t : Table α) (j : Nat) :
    Table.get (Table.update k f t) j = if j = k then (Table.get t j).map f else Table.get t j := by
  induction t with
  | nil => simp [Table.update, Table.get]
  | cons q t ih =>
    obtain ⟨i, w⟩ := q
    simp only [Table.update, List.map_cons] at ih ⊢
    by_cases hi : i = k
    · subst hi
      by_cases hj : i = j
      · subst hj; simp [Table.get]
      · simp [Table.get, hj, ih]
    · by_cases hj : i = j
      · subst hj; simp [hi, Table.get]
      · simp [hi, Table.get, hj, ih]

/-- A change of values shows in every entry. -/
theorem Table.get_mapValues (f : α → α) (t : Table α) (j : Nat) :
    Table.get (t.map (fun p => (p.1, f p.2))) j = (Table.get t j).map f := by
  induction t with
  | nil => rfl
  | cons q t ih =>
    obtain ⟨i, w⟩ := q
    by_cases hj : i = j <;> simp [Table.get, hj, ih]

/-- An entry read is listed. -/
theorem Table.mem_of_get {k : Nat} {v : α} {t : Table α} (h : Table.get t k = some v) : (k, v) ∈ t := by
  induction t with
  | nil => simp [Table.get] at h
  | cons q t ih =>
    obtain ⟨i, w⟩ := q
    simp only [Table.get] at h
    split at h
    · rename_i hi; cases h; subst hi; exact List.mem_cons_self
    · exact List.mem_cons_of_mem _ (ih h)

/-- A listed entry is read. -/
theorem Table.get_of_mem {k : Nat} {v : α} {t : Table α} (hw : Table.wf t) (h : (k, v) ∈ t) : Table.get t k = some v := by
  induction t with
  | nil => simp at h
  | cons q t ih =>
    obtain ⟨i, w⟩ := q
    rw [Table.wf_cons] at hw
    rcases List.mem_cons.1 h with h | h
    · cases h; simp [Table.get]
    · have := hw.1 _ h
      simp only [Table.get]
      rw [if_neg (by omega)]
      exact ih hw.2 h

/-- The keys listed are those that read as present. -/
theorem Table.mem_keys {k : Nat} {t : Table α} : k ∈ Table.keys t ↔ (Table.get t k).isSome = true := by
  induction t with
  | nil => simp [Table.keys, Table.get]
  | cons q t ih =>
    obtain ⟨i, w⟩ := q
    by_cases hi : i = k
    · subst hi; simp [Table.keys, Table.get]
    · simp only [Table.keys, List.map_cons, List.mem_cons, Table.get, if_neg hi] at ih ⊢
      rw [← ih]; constructor
      · rintro (h | h)
        · exact absurd h.symm hi
        · exact h
      · exact .inr

end tables

/-! ### The flash -/

@[simp] theorem Memory.wf_nil : Memory.wf [] := ⟨List.Pairwise.nil, by simp⟩

theorem Memory.wf_cons (c : Host.Cell) (m : Memory) :
    Memory.wf (c :: m) ↔ (∀ d ∈ m, c.1 < d.1) ∧ c.2 ≠ Memory.blank ∧ Memory.wf m := by
  simp only [Memory.wf, List.pairwise_cons, List.forall_mem_cons]; tauto

theorem Memory.wf_filter (p : Host.Cell → Bool) {m : Memory} (h : Memory.wf m) : Memory.wf (m.filter p) :=
  ⟨List.Pairwise.filter _ h.1, fun c hc => h.2 c (List.mem_filter.1 hc).1⟩

theorem Memory.mem_insert {a : Nat} {b : Byte} {m : Memory} {c : Host.Cell} (h : c ∈ Memory.insert a b m) :
    c = (a, b) ∨ c ∈ m := by
  induction m with
  | nil => simp only [Memory.insert, List.mem_singleton] at h; exact .inl h
  | cons d m ih =>
    obtain ⟨j, e⟩ := d
    simp only [Memory.insert] at h
    split at h
    · simpa [or_assoc] using h
    · split at h
      · rcases List.mem_cons.1 h with h | h
        · exact .inl h
        · exact .inr (List.mem_cons_of_mem _ h)
      · rcases List.mem_cons.1 h with h | h
        · exact .inr (h ▸ List.mem_cons_self)
        · exact (ih h).imp id (List.mem_cons_of_mem _)

theorem Memory.wf_insert (a : Nat) {b : Byte} (hb : b ≠ Memory.blank) {m : Memory} (h : Memory.wf m) :
    Memory.wf (Memory.insert a b m) := by
  induction m with
  | nil => exact (Memory.wf_cons _ _).2 ⟨by simp, hb, h⟩
  | cons d m ih =>
    obtain ⟨j, e⟩ := d
    have h0 := (Memory.wf_cons _ _).1 h
    simp only [Memory.insert]
    split
    · rename_i hj
      refine (Memory.wf_cons _ _).2 ⟨fun d hd => ?_, hb, h⟩
      rcases List.mem_cons.1 hd with rfl | hd
      · exact hj
      · exact lt_trans hj (h0.1 d hd)
    · split
      · rename_i hj
        exact (Memory.wf_cons _ _).2 ⟨fun d hd => hj ▸ h0.1 d hd, hb, h0.2.2⟩
      · refine (Memory.wf_cons _ _).2 ⟨fun d hd => ?_, h0.2.1, ih h0.2.2⟩
        rcases Memory.mem_insert hd with rfl | hd
        · simp only; omega
        · exact h0.1 d hd

/-- A write keeps the canonical form. -/
theorem Memory.wf_write (a : Nat) (b : Byte) {m : Memory} (h : Memory.wf m) : Memory.wf (Memory.write m a b) := by
  unfold Memory.write; split
  · exact Memory.wf_filter _ h
  · rename_i hb; exact Memory.wf_insert a hb h

/-- A page program keeps the canonical form. -/
theorem Memory.wf_program (bs : List Byte) {m : Memory} (a : Nat) (h : Memory.wf m) :
    Memory.wf (Memory.program m a bs) := by
  induction bs generalizing m a with
  | nil => exact h
  | cons b bs ih => exact ih (a + 1) (Memory.wf_write a _ h)

/-- A sector erase keeps the canonical form. -/
theorem Memory.wf_eraseRange (a n : Nat) {m : Memory} (h : Memory.wf m) : Memory.wf (Memory.eraseRange m a n) :=
  Memory.wf_filter _ h

/-- Bytes left free keep the canonical form. -/
theorem Memory.wf_havoc (n : Nat) {m : Memory} (a k : Nat) (h : Memory.wf m) : Memory.wf (Memory.havoc m a k n) := by
  induction n generalizing m a k with
  | zero => exact h
  | succ n ih => exact ih (a + 1) (k + 1) (Memory.wf_write a _ h)

theorem Memory.read_of_lt {a : Nat} {m : Memory} (h : ∀ d ∈ m, a < d.1) : Memory.read m a = Memory.blank := by
  induction m with
  | nil => rfl
  | cons d m ih =>
    obtain ⟨j, e⟩ := d
    have hj := h (j, e) List.mem_cons_self
    simp only [Memory.read, if_neg (show j ≠ a by simp only at hj; omega)]
    exact ih fun d hd => h d (List.mem_cons_of_mem _ hd)

theorem Memory.read_insert (a : Nat) (b : Byte) {m : Memory} (h : Memory.wf m) (x : Nat) :
    Memory.read (Memory.insert a b m) x = if x = a then b else Memory.read m x := by
  induction m with
  | nil => simp [Memory.insert, Memory.read, eq_comm]
  | cons d m ih =>
    obtain ⟨j, e⟩ := d
    have h0 := (Memory.wf_cons _ _).1 h
    simp only [Memory.insert]
    split
    · simp [Memory.read, eq_comm]
    · split
      · rename_i hj; subst hj
        by_cases hx : a = x
        · simp [Memory.read, hx]
        · simp [Memory.read, hx, Ne.symm hx]
      · rename_i h1 h2
        by_cases hx : j = x
        · subst hx; simp [Memory.read]; intro h'; exact absurd h' (Ne.symm h2)
        · simp only [Memory.read, if_neg hx, ih h0.2.2]

theorem Memory.read_filter_ne (a : Nat) {m : Memory} (h : Memory.wf m) (x : Nat) :
    Memory.read (m.filter (fun c => c.1 ≠ a)) x = if x = a then Memory.blank else Memory.read m x := by
  induction m with
  | nil => simp [Memory.read]
  | cons d m ih =>
    obtain ⟨j, e⟩ := d
    have h0 := (Memory.wf_cons _ _).1 h
    have ih := ih h0.2.2
    rw [List.filter_cons]
    by_cases hj : j = a
    · subst hj
      by_cases hx : j = x
      · subst hx; simp only [ne_eq, not_true_eq_false, decide_false, Bool.false_eq_true, if_false]; rw [ih]; simp
      · simp only [ne_eq, not_true_eq_false, decide_false, Bool.false_eq_true, if_false]
        rw [ih]; simp [Memory.read, hx, Ne.symm hx]
    · by_cases hx : j = x
      · subst hx; simp [hj, Memory.read]
      · simp only [ne_eq, hj, not_false_eq_true, decide_true, if_true, Memory.read, if_neg hx]
        simpa using ih

/-- A written byte is read back, and every other byte reads as before. -/
theorem Memory.read_write (a : Nat) (b : Byte) {m : Memory} (h : Memory.wf m) (x : Nat) :
    Memory.read (Memory.write m a b) x = if x = a then b else Memory.read m x := by
  unfold Memory.write; split
  · rename_i hb; subst hb; exact Memory.read_filter_ne a h x
  · exact Memory.read_insert a b h x

/-- The flash after a reset lists nothing and has the canonical form. -/
theorem reset_flash_wf : Memory.wf State.reset.flp.flash := Memory.wf_nil

end Sys2Proof.Machine
end

