-- ==== Sys2Proof/Tests/Slice0.lean ====
section
/-! SUPPORT. Tests: an ill-formed term for each check of WellFormed, transfers written out from chapter 10, the manual's
worked cases one step at a time, and for each obligation with hypotheses states and operands that meet them. -/

namespace Sys2Proof.Tests

open Sys2Proof Sys2Proof.Machine

-- One proof after another: the many small evaluations need no threads of their own.
set_option Elab.async false

/-! ### Helpers -/

/-- The state after a command, the state itself where the command stops. -/
def after (c : Instr) (s : State) : State :=
  match exec c s with
  | .next t => t
  | .fault _ => s
  | .refused _ => s

/-- The status of the response a command leaves. -/
def statusAfter (c : Instr) (s : State) : Option Status := (after c s).port.held.map (·.status)

/-- The payload of the response a command leaves. -/
def payloadAfter (c : Instr) (s : State) : Option (List Byte) := (after c s).port.held.map (·.payload)

/-- The state with another motion state. -/
def moving (m : Motion) (s : State) : State := s.setMsv { s.msv with motion := m }

/-- The state at another moment. -/
def later (us : Nat) (s : State) : State := s.setNow (s.now + us)

/-- The route of 01 Table 1-7. -/
def route : State := State.reset.setPos { Pos.reset with
  segments := [
    (20, ⟨6000, 1500, 0, 48, 160, some 21, none, false, false, some ⟨41, 2500, 200⟩⟩),
    (21, ⟨3000, 1500, 0, 48, 160, some 22, some 30, false, false, none⟩),
    (22, ⟨5000, 1500, 0, 48, 160, none, none, false, true, some ⟨42, 4000, 150⟩⟩),
    (30, ⟨4000, 1500, 0, 48, 160, some 22, none, false, false, none⟩)] }

/-- A vehicle placed at `s` on segment `k` of the route. -/
def placed (k s : Nat) : State := route.setPos { route.pos with active := some k, path := [k], s := s, sPrev := s }

/-- Segment 20 at 1000 with an authority to 4500 on segment 22. -/
def authorised : State := (placed 20 1000).setPos
  { (placed 20 1000).pos with authority := some ⟨22, 4500⟩, path := [20, 21, 22] }

/-- Seat 3 of 03 Table 3-3 in a state. -/
def seat3 (st : SeatState) (s : State) : State := s.setRsm { s.rsm with
  seats := s.rsm.seats.set 3 ⟨true, false, false, 700, 900, 200, st⟩ }

/-- Readings of eight seats, the fourth as given. -/
def readings (a b : Bool) (p : Nat) : List SeatReading :=
  (List.replicate 8 ⟨false, false, 0⟩).set 3 ⟨a, b, p⟩

/-- A cue under a key. -/
def withCue (k : Nat) (c : Cue) (s : State) : State := s.setCue { s.cue with cues := Table.put k c s.cue.cues }

/-- A cue without actions in a state. -/
def plainCue (st : CueState) : Cue := ⟨20, 100, 200, 1, false, false, [.beacon 9], st, true, true, none⟩

/-- An effect line held. -/
def withLine (i : Nat) (h : LineHold) (s : State) : State := s.setCue { s.cue with lines := s.cue.lines.set i (some h) }

/-- A clip under a key, the queue and the verification as they must then be. -/
def withClip (k : Nat) (c : Clip) (s : State) : State := s.setFlp { s.flp with
  clips := Table.put k c s.flp.clips
  queue := if c.state = .queued then s.flp.queue ++ [k] else s.flp.queue
  verifying := if c.state = .verifying then { Verify.idle with clip := some k } else s.flp.verifying }

/-- A clip of `n` samples at 4096 without a loop. -/
def clip (n : Nat) (st : ClipState) : Clip := ⟨4096, n, 256, none, st⟩

/-- A voice that plays clip 5 on FRONT at gv `g` with these samples left. -/
def voiceOf (g : Nat) (xs : List Int) : Voice :=
  ⟨.playing, some 5, 10, 10, false, ⟨true, false⟩, g, g, 1, .request, 0, false, xs, true, false, none⟩

/-- A voice put in place. -/
def withVoice (i : Nat) (v : Voice) (s : State) : State := s.setVoice i v

/-- A grant under way since the present moment. -/
def granted (w : Work) (s : State) : State := s.setFlp { s.flp with grant := some ⟨w, s.now⟩ }

/-- A notice source put in place. -/
def withSource (n : Nat) (src : Source) (s : State) : State := s.setSource n src

/-! ### Well-formedness: a term each check refuses -/

theorem test_wf_encoder : (Instr.guidanceSample 32768 0).wf = false := by decide
theorem test_wf_current : (Instr.guidanceSample 0 4096).wf = false := by decide
theorem test_wf_code : (Instr.markerRead 256).wf = false := by decide
theorem test_wf_quality : (Instr.guideWord (some ⟨0, 16⟩)).wf = false := by decide
theorem test_wf_readings : (Instr.seatSample [] false false).wf = false := by decide
theorem test_wf_position : (Instr.seatSample (List.replicate 8 ⟨false, false, 1024⟩) false false).wf = false := by decide
theorem test_wf_seat : (Instr.releasePulseEnd 8).wf = false := by decide
theorem test_wf_supply : (Instr.supplyReading 4096).wf = false := by decide
theorem test_wf_line : (Instr.effectPhaseEnd 12).wf = false := by decide
theorem test_wf_voice : (Instr.voiceFadeEnd 6).wf = false := by decide
theorem test_wf_reset_encoder : (Instr.powerReset (-32769)).wf = false ∧ (Instr.pinReset 32768).wf = false := by decide
theorem test_wf_fetch : (Instr.fetch 0).wf = false := by decide
theorem test_wf_key : (Instr.status 256).wf = false := by decide
theorem test_wf_presence : (Instr.amendSeat 0 (2 ^ 32) ⟨true, false, false, 0, 0, 0⟩).wf = false := by decide
theorem test_wf_segment : (Instr.putSegment 0 ⟨65536, 0, 0, 0, 0, 0, 0, false, false, none⟩).wf = false ∧
    (Instr.putSegment 0 ⟨100, 0, 0, 0, 0, 0, 0, false, false, some ⟨256, 0, 0⟩⟩).wf = false := by decide
theorem test_wf_authority : (Instr.putAuthority 0 ⟨256, 0⟩).wf = false := by decide
theorem test_wf_seat_config : (Instr.putSeat 0 ⟨true, false, false, 65536, 0, 0⟩).wf = false := by decide
theorem test_wf_cue : (Instr.putCue 0 ⟨0, 0, 0, 0, false, false, [⟨256, 0, 0, 0, 0, 0⟩]⟩).wf = false ∧
    (Instr.putCue 0 ⟨0, 0, 0, 0, false, false, List.replicate 30 ⟨3, 0, 0, 0, 0, 0⟩⟩).wf = false := by decide
theorem test_wf_clip : (Instr.putClip 0 ⟨0, 0, 65536, none⟩).wf = false ∧
    (Instr.putClip 0 ⟨0, 0, 0, some (2 ^ 32, 0)⟩).wf = false := by decide
theorem test_wf_level : (Instr.putSource 2 256).wf = false := by decide
theorem test_wf_words : (Instr.putSettings 0 []).wf = false ∧
    (Instr.putSettings 0 (List.replicate 26 65536)).wf = false := by decide
theorem test_wf_place : (Instr.place 0 0 65536).wf = false := by decide
theorem test_wf_yaw : (Instr.yaw 0 32768).wf = false := by decide
theorem test_wf_mask : (Instr.release 0 256).wf = false := by decide
theorem test_wf_play : (Instr.play 0 ⟨0, 0, 0, 0, 256⟩).wf = false := by decide
theorem test_wf_master : (Instr.master 0 65536).wf = false := by decide
theorem test_wf_flash : (Instr.flashRead 0 0 256).wf = false ∧ (Instr.flashProgram 0 0 []).wf = false ∧
    (Instr.flashErase 0 0 65536).wf = false := by decide
theorem test_wf_setup : (Instr.noticeSetup 0 256 0).wf = false := by decide
theorem test_wf_transfer : (Instr.frameCheckFailure []).wf = false := by decide

/-! ### Transfers written out from chapter 10 -/

/-- 10 Table 10-1's note: 29B1h over the nine bytes "123456789". -/
theorem test_crc16 : crc16 [0x31, 0x32, 0x33, 0x34, 0x35, 0x36, 0x37, 0x38, 0x39] = 0x29B1 := by decide +kernel

/-- 06 §6.2: CBF43926h over the same nine bytes, after the final inversion. -/
theorem test_crc32 : ~~~(crc32 0xFFFFFFFF [0x31, 0x32, 0x33, 0x34, 0x35, 0x36, 0x37, 0x38, 0x39]) = 0xCBF43926 := by
  decide +kernel

/-- PUT SEGMENT 20: length 6000, ceiling 1500, kff −250, Kp 48, Kd 160, next 21, no alternative, marker 41 at 2500 ± 200. -/
theorem test_frame_put_segment : decodeTransfer [0x01, 0x01, 0x14, 0x00, 0x00, 0x10, 0x17, 0x70, 0x05, 0xDC, 0xFF, 0x06,
    0x30, 0xA0, 0x15, 0xFF, 0x06, 0x29, 0x09, 0xC4, 0x00, 0xC8, 0x92, 0x74] =
    some (.putSegment 20 ⟨6000, 1500, -250, 48, 160, 21, 255, false, true, some ⟨41, 2500, 200⟩⟩) := by decide +kernel

/-- AMEND AUTHORITY, P1 only. -/
theorem test_frame_amend_authority : decodeTransfer [0x03, 0x02, 0x00, 0x00, 0x00, 0x07, 0x00, 0x00, 0x00, 0x02, 0x16,
    0x11, 0x94, 0xC9, 0x8F] = some (.amendAuthority 0 2 ⟨22, 4500⟩) := by decide +kernel

/-- PUT SEAT 3: enabled, 700 to 900, open below 200. -/
theorem test_frame_put_seat : decodeTransfer [0x01, 0x03, 0x03, 0x00, 0x00, 0x07, 0x01, 0x02, 0xBC, 0x03, 0x84, 0x00, 0xC8,
    0x65, 0x24] = some (.putSeat 3 ⟨true, false, false, 700, 900, 200⟩) := by decide +kernel

/-- PUT CUE 20 with the EFFECT action of 05 Table 5-7. -/
theorem test_frame_put_cue : decodeTransfer [0x01, 0x04, 0x14, 0x00, 0x00, 0x10, 0x15, 0x00, 0x64, 0x0B, 0xB8, 0x02, 0x03,
    0x01, 0x02, 0x04, 0x00, 0xC8, 0x01, 0x2C, 0x03, 0x01, 0x1F, 0xAD] =
    some (.putCue 20 ⟨21, 100, 3000, 2, true, true, [⟨2, 4, 200, 300, 3, 1⟩]⟩) := by decide +kernel

/-- RETIRE CUE 5 with FORCE. -/
theorem test_frame_retire_cue : decodeTransfer [0x04, 0x04, 0x05, 0x01, 0x00, 0x00, 0x0A, 0xC2] =
    some (.retireCueForce 5) := by decide +kernel

/-- GET CLIP 7 and LIST SOURCE. -/
theorem test_frame_get_list : decodeTransfer [0x02, 0x05, 0x07, 0x00, 0x00, 0x00, 0xF7, 0x2A] = some (.getClip 7) ∧
    decodeTransfer [0x05, 0x06, 0x00, 0x00, 0x00, 0x00, 0x80, 0x94] = some (.listSource 0) := by decide +kernel

/-- YAW −90.0°. -/
theorem test_frame_yaw : decodeTransfer [0x28, 0x00, 0x00, 0x00, 0x00, 0x02, 0xFC, 0x7C, 0xD3, 0x5B] =
    some (.yaw 0 (-900)) := by decide +kernel

/-- RELEASE with IMMEDIATE, seats 0 to 3. -/
theorem test_frame_release : decodeTransfer [0x29, 0x00, 0x00, 0x04, 0x00, 0x01, 0x0F, 0xBC, 0xDB] =
    some (.releaseImmediate 0 15) := by decide +kernel

/-- PLAY clip 9 on both buses at unity, with loop and exit-fade, level 2. -/
theorem test_frame_play : decodeTransfer [0x2D, 0x00, 0x00, 0x00, 0x00, 0x06, 0x09, 0x03, 0x01, 0x00, 0x03, 0x02, 0xFB,
    0xE0] = some (.play 0 ⟨9, 3, 256, 3, 2⟩) := by decide +kernel

/-- FLASH_ERASE of two sectors from 123000h. -/
theorem test_frame_erase : decodeTransfer [0x32, 0x00, 0x00, 0x00, 0x00, 0x06, 0x00, 0x12, 0x30, 0x00, 0x00, 0x02, 0x36,
    0xB4] = some (.flashErase 0 0x123000 2) := by decide +kernel

/-- NOTICE_TAKE, and the same frame with its CRC damaged. -/
theorem test_frame_take : decodeTransfer [0x34, 0x00, 0x00, 0x00, 0x00, 0x00, 0x27, 0x3D] = some (.noticeTake 0) ∧
    frameVerdict [0x34, 0x00, 0x00, 0x00, 0x00, 0x00, 0x27, 0x3C] = .badCrc := by decide +kernel

/-- A first byte 00h is a FETCH; no bytes are nothing; the frame checks of 09 R175 in order. -/
theorem test_frame_checks : decodeTransfer [0, 1, 2] = some (.fetch 3) ∧ decodeTransfer [] = none ∧
    frameVerdict [0x34, 0x00, 0x00, 0x00, 0x00, 0x01, 0x27, 0x3D] = .badLength ∧
    frameVerdict [0x06, 0x00, 0x00, 0x00, 0x00, 0x00, 0x83, 0xF1] = .badKind ∧
    frameVerdict [0x02, 0x0A, 0x00, 0x00, 0x00, 0x00, 0xC3, 0xFE] = .badClass ∧
    frameVerdict [0x04, 0x03, 0x00, 0x00, 0x00, 0x00, 0xE6, 0x63] = .badKind ∧
    frameVerdict [0x28, 0x00, 0x00, 0x00, 0x00, 0x01, 0x01, 0x2F, 0x85] = .badPayload := by decide +kernel

/-- No row of the table has bits: a table word spells nothing, and placing one leaves the state. -/
theorem test_no_words : decodeTableWord 8 0x35 = none ∧ State.reset.withFetchWord 8 0x35 = State.reset := by
  decide +kernel

/-! ### Worked cases of the manual, one step each -/

/-- 00 §0.5.3 with the figures of 04 §4.4.1. -/
theorem test_isqrt : isqrt 5160000 = 2271 ∧ isqrt 12640000 = 3555 ∧ isqrt 13120000 = 3622 ∧ isqrt 0 = 0 ∧
    isqrt 360000 = 600 := by decide +kernel

/-- 02 Table 2-4, samples 1 and 2. -/
theorem test_steering : steerLaw { Settings.reset with slew := 100 } ⟨1000, 1500, -250, 48, 160, none, none, false, false, none⟩
      40 32 (-300) = -400 ∧
    steerLaw { Settings.reset with slew := 100 } ⟨1000, 1500, -250, 48, 160, none, none, false, false, none⟩
      40 40 (-400) = -370 := by decide +kernel

/-- 01 §1.10: the walk 20, 21, 22 with D_auth 12500. -/
theorem test_put_authority : (after (.putAuthority 0 ⟨22, 4500⟩) (moving .stopped (placed 20 1000))).pos.path = [20, 21, 22] ∧
    (after (.putAuthority 0 ⟨22, 4500⟩) (moving .stopped (placed 20 1000))).dAuth = some 12500 := by decide +kernel

/-- 01 Table 1-8: the states of the entries. -/
theorem test_segment_states : (authorised.segState 20, authorised.segState 21, authorised.segState 22,
    authorised.segState 30, authorised.segState 5) = (.active, .locked, .locked, .loaded, .free) := by decide +kernel

/-- The vehicle of 04 Table 4-7 at `s` with `v_cmd` `v`. -/
def curve (s v : Nat) : State :=
  let u := State.reset.setSettings { Settings.reset with vmax := 2000 }
  let t := u.setPos { Pos.reset with
    segments := [(12, ⟨8000, 1500, 0, 0, 0, some 13, none, false, false, none⟩),
      (13, ⟨4000, 600, 0, 0, 0, some 14, none, false, false, none⟩),
      (14, ⟨5000, 1200, 0, 0, 0, none, none, false, false, none⟩)]
    authority := some ⟨14, 1500⟩, active := some 12, path := [12, 13, 14], s := s, sPrev := s }
  t.setMsv { t.msv with motion := .running, vCmd := v }

/-- 04 Table 4-7, row 2: v_ceil and v_cmd 1499 at s = 6820 from v_prev 1500. -/
theorem test_curve_6820 : (after (.guidanceSample 0 0) (curve 6820 1500)).msv.vCmd = 1499 := by decide +kernel

/-- 04 Table 4-7, row 3: 1077 at s = 7500 from 1084. -/
theorem test_curve_7500 : (after (.guidanceSample 0 0) (curve 7500 1084)).msv.vCmd = 1077 := by decide +kernel

/-- 04 §4.4.2: a shortened authority under a moving vehicle enters E_STOP within the request and stands. -/
theorem test_short_authority : (after (.putAuthority 0 ⟨12, 6600⟩) (curve 6000 1500)).msv.motion = .eStop ∧
    ((after (.putAuthority 0 ⟨12, 6600⟩) (curve 6000 1500)).port.held.map (·.estopCaused)) = some true ∧
    (after (.putAuthority 0 ⟨12, 6600⟩) (curve 6000 1500)).pos.authority = some ⟨12, 6600⟩ := by decide +kernel

/-- 03 Table 3-3: the fourth good reading verifies; a DISAGREE makes VERIFIED SUSPECT. -/
theorem test_seat_verifies :
    ((after (.seatSample (readings true true 783) true true) (seat3 (.latching 3) State.reset)).seat 3).state = .verified ∧
    ((after (.seatSample (readings true false 783) true true) (seat3 .verified State.reset)).seat 3).state =
      .suspect 1 0 := by decide +kernel

/-- 03 Table 3-3, t = 4080: the third DISAGREE is FAULT, and the STOPPED vehicle enters E_STOP. -/
theorem test_seat_fault :
    ((after (.seatSample (readings true false 783) true true) (moving .stopped (seat3 (.suspect 2 1) State.reset))).seat 3).state =
      .fault .disagree ∧
    (after (.seatSample (readings true false 783) true true) (moving .stopped (seat3 (.suspect 2 1) State.reset))).msv.motion =
      .eStop := by decide +kernel

/-- 05 Table 5-8 at 200 and at 500. -/
theorem test_effect_pattern :
    (after .effectTick (withLine 4 ⟨20, 1, true, 200, 300, 3, .on, 10⟩ State.reset)).cue.lines[4]? =
      some (some ⟨20, 1, true, 200, 300, 3, .off, 300⟩) ∧
    (after .effectTick (withLine 4 ⟨20, 1, true, 200, 300, 3, .off, 10⟩ State.reset)).cue.lines[4]? =
      some (some ⟨20, 1, true, 200, 300, 2, .on, 200⟩) := by decide +kernel

/-- 05 Table 5-8 at 1400: a claim of equal level is refused with CONFLICT on both cues. -/
theorem test_effect_refused :
    let s := moving .running (withLine 4 ⟨21, 2, false, 500, 0, 0, .on, 250⟩
      (withCue 21 { plainCue .active with conflict := false } (withCue 22 { plainCue .active with conflict := false } State.reset)))
    let t := s.runEffect 22 2 0 4 100 100 5 false
    t.cue.lines[4]? = some (some ⟨21, 2, false, 500, 0, 0, .on, 250⟩) ∧
    (Table.get t.cue.cues 21).map (·.conflict) = some true ∧ (Table.get t.cue.cues 22).map (·.conflict) = some true := by
  decide +kernel

/-- The port of 06 Table 6-7: voices 1 and 4 ask, a clip is VERIFYING, a FLASH_READ waits. -/
def ring (last : Nat) (prefersHost : Bool) : State :=
  let v := { voiceOf 256 [] with refill := some ⟨10, 54⟩ }
  let s := withVoice 1 v (withVoice 4 v (withClip 5 (clip 64 .ready) (withClip 6 (clip 64 .verifying) State.reset)))
  s.setFlp { s.flp with lastHigh := last, lowPrefersHost := prefersHost, read := some ⟨0, 0, 8, 1800⟩ }

/-- 06 Table 6-7, rows 1 and 2. -/
theorem test_ring_rows_1_2 :
    ((after .flashGrant (ring 4 false)).flp.lastHigh, (after .flashGrant (ring 4 false)).flp.lowPrefersHost) = (6, true) ∧
    ((after .flashGrant (ring 6 true)).flp.lastHigh, (after .flashGrant (ring 6 true)).flp.lowPrefersHost) = (1, true) := by
  decide +kernel

/-- 06 Table 6-7, rows 3 and 4. -/
theorem test_ring_rows_3_4 :
    (after .flashGrant (ring 1 true)).flp.lastHigh = 4 ∧
    (after .flashGrant (ring 4 true)).flp.grant = some ⟨.hostRead 0 8, 0⟩ ∧
    (after .flashGrant (ring 4 true)).flp.lowPrefersHost = false := by decide +kernel

/-- The three voices of 07 Table 7-5 at a master gain. -/
def mixed (m : Nat) : State :=
  let s := withVoice 0 (voiceOf 200 [20000]) (withVoice 1 (voiceOf 256 [-12345]) (withVoice 2 (voiceOf 256 [30000])
    (withClip 5 (clip 64 .ready) State.reset)))
  s.setSnd { s.snd with m := m }

/-- 07 Table 7-5: 29900 at 230; 32767 with the clip flag at 256. -/
theorem test_mixer : (after .outputSample (mixed 230)).lines.front = 29900 ∧
    (after .outputSample (mixed 230)).snd.clipFront = false ∧ (after .outputSample (mixed 256)).lines.front = 32767 ∧
    (after .outputSample (mixed 256)).snd.clipFront = true := by decide +kernel

/-- 07 §7.7.1: acc −1000 at 230 gives −4. -/
theorem test_mixer_floor : mix [voiceOf 1 [-1000]] Buses.front 230 = -4 := by decide +kernel

/-- The sources of 08 Table 8-4 before step 9. -/
def noticed : State :=
  let s := withSource 2 ⟨5, true, 1, some (.seat 3 (.suspect 1 0))⟩ (withSource 6 ⟨2, true, 1, some (.cueFired 5)⟩
    (withSource 7 ⟨2, true, 1, some (.voiceUnderrun 1 (.cue 4))⟩ State.reset))
  s.setNtu { s.ntu with base := some 3, mask := 2, released := true }

/-- 08 Table 8-4, steps 8 and 9: asserted; then 32h, count 1, remaining 2, released. -/
theorem test_notice_take : noticed.ntu.asserted = true ∧
    (payloadAfter (.noticeTake 0) noticed).map (·.take 3) = some [0x32, 1, 2] ∧
    (after (.noticeTake 0) noticed).ntu.asserted = false := by decide +kernel

/-- 08 Table 8-4, step 10: of equal levels the lower number, 36h. -/
theorem test_notice_tie : (payloadAfter (.noticeTake 0) (after (.noticeTake 0) noticed)).map (·.take 3) =
    some [0x36, 1, 1] := by decide +kernel

/-- 06 R136: a program changes bits from 1 to 0 only, and an erased byte is not listed. -/
theorem test_program : Memory.program [(16, 0xF0)] 16 [0x3C, 0xFF] = [(16, 0x30)] ∧
    Memory.write [(16, 0x30)] 16 0xFF = [] := by decide +kernel

/-- 09 R174: NO_RESPONSE when nothing is held. -/
theorem test_fetch : ((after (.fetch 9) State.reset).port.spiOut.take 6) = [0x30, 0, 0, 0, 0, 0] := by decide +kernel

/-- The one fault: a unit that completes beyond the flash. -/
theorem test_flash_fault :
    (match exec .refillComplete (granted (.refill 0 16777215 1 true) State.reset) with
     | .fault f => some f
     | _ => none) = some (.flashAddress 16777215) := by decide +kernel

/-- 09 R172: 00h during a request frame, whatever the FETCH before it drove. -/
theorem test_spi_frame : (after (.fetch 9) State.reset).spiByte 0 = 0x30 ∧
    (after (.status 0) (after (.fetch 9) State.reset)).spiByte 0 = 0 := by decide +kernel

/-- 01 R20: the miss of 01 §1.10 is counted once per pass, reverse motion between two crossings or not. -/
theorem test_miss_once :
    let s := (placed 22 4148).setPos { (placed 22 4148).pos with residue := 3000 }
    let back := after (.guidanceSample 0 0) (after (.odometerPulse false) (after (.guidanceSample 0 0) s))
    let again := after (.guidanceSample 0 0) (after (.odometerPulse true) (later 50 back))
    back.pos.missCount = 1 ∧ back.pos.s = 4150 ∧ again.pos.s = 4151 ∧ again.pos.missCount = 1 := by decide +kernel

/-- 04 R76: the overspeed count is held at 0 in PARKED. -/
theorem test_park_overspeed :
    (after (.park 0) (moving .stopped (State.reset.setMsv { State.reset.msv with overspeed := 2 }))).msv.overspeed = 0 := by
  decide +kernel

/-- 03 R52, R53 and log 3: the hold completes where the sample before found the contacts closed and the seats well. -/
theorem test_hold_complete :
    let s := moving .stopped (later 2000000 (after (.seatSample (readings true true 783) false false) State.reset))
    let t := after .holdComplete s
    s.rsm.hold = .timing 0 ∧ t.rsm.hold = .held ∧ t.source 10 = Source.record (.release .denied) (s.source 10) := by
  decide +kernel

/-- 08 R168, 10 Table 10-12: an UNDERRUN detail carries the voice and its owner. -/
theorem test_underrun_detail : detailBytes (some (.voiceUnderrun 1 (.cue 4))) = [3, 1, 4, 0, 0, 0, 0, 0] := by decide +kernel

/-! ### Witnesses: states and operands that meet each obligation's hypotheses, clause by clause -/

/-- A reset holds the part. -/
def held : State := State.reset.setInReset true

/-- The port is BUILDING. -/
def building : State := State.reset.setPort { State.reset.port with building := true }

theorem witness_StepRunsFront : State.reset.pending = [] := by decide +kernel

theorem witness_CommandsKeepQueueAndClock : ∃ t, exec (.status 0) State.reset = .next t := ⟨_, rfl⟩

theorem witness_HardResetHoldsBlocks :
    Instr.powerReset 0 = .powerReset 0 ∧ Memory.wf (granted (.erase 4096) State.reset).flp.flash ∧
    (∀ g, (granted (.erase 4096) State.reset).flp.grant = some g → g.work.isStep = true →
      4095 < g.work.addr ∨ g.work.addr + g.work.size ≤ 4095) ∧
    (∀ g, (granted (.erase 4096) State.reset).flp.grant = some g → g.work.isStep = true →
      8192 < g.work.addr ∨ g.work.addr + g.work.size ≤ 8192) := by
  refine ⟨rfl, by decide +kernel, ?_, ?_⟩ <;> (intro g h _; cases h; decide +kernel)

theorem witness_ResetHoldsCommandsAndEnds : held.inReset = true ∧ held.port.building = false ∧
    Instr.effectTick ≠ .resetEnd ∧ (∀ e, Instr.effectTick ≠ .powerReset e) ∧ ∀ e, Instr.effectTick ≠ .pinReset e := by
  refine ⟨by decide +kernel, by decide +kernel, by decide, nofun, nofun⟩

theorem witness_SoftResetClears : State.reset.listening ∧ State.reset.msv.motion = .parked ∧
    (moving .stopped authorised).listening ∧ (moving .stopped authorised).msv.motion = .stopped := by decide +kernel

theorem witness_EveryRequestAnswered : (Instr.status 7).frame = some (0x35, 7) ∧ State.reset.listening ∧
    ∀ k a n, Instr.status 7 ≠ .flashRead k a n := ⟨rfl, by decide +kernel, nofun⟩

theorem witness_FailingFramesAnswered_overrun : building.inReset = false ∧ building.port.building = true ∧
    (Instr.status 7).frame ≠ none ∧ (∃ b bs, Instr.frameCheckFailure [1] = .frameCheckFailure (b :: bs) ∧ b ≠ 0) :=
  ⟨by decide +kernel, by decide +kernel, by decide, 1, [], rfl, by decide⟩

theorem witness_RefusedRequestChangesNothing :
    (Instr.getSegment 0).frame = some (0x02, 0) ∧ State.reset.listening ∧
    statusAfter (.getSegment 0) State.reset = some .notFound ∧
    statusAfter (.start 0) (moving .stopped (State.reset.setMsv { State.reset.msv with reasons := [.position] })) =
      some .reasonsActive := by decide +kernel

theorem witness_FailingFramesAnswered : State.reset.listening ∧
    frameVerdict [0x34, 0x00, 0x00, 0x00, 0x00, 0x00, 0x27] = .badLength ∧
    frameVerdict [0x34, 0x00, 0x00, 0x00, 0x00, 0x01, 0x27, 0x3D] = .badLength ∧
    frameVerdict [0x34, 0x00, 0x00, 0x00, 0x00, 0x00, 0x27, 0x3C] = .badCrc ∧
    frameVerdict [0x06, 0x00, 0x00, 0x00, 0x00, 0x00, 0x83, 0xF1] = .badKind ∧
    frameVerdict [0x02, 0x0A, 0x00, 0x00, 0x00, 0x00, 0xC3, 0xFE] = .badClass ∧
    frameVerdict [0x28, 0x00, 0x00, 0x00, 0x00, 0x01, 0x01, 0x2F, 0x85] = .badPayload := by decide +kernel

/-- One byte short of the response's end, and its last byte. -/
theorem witness_FetchClocksResponse :
    let s := after (.enable 0) State.reset
    s.inReset = false ∧ s.port.held = some ⟨.ok, 0x20, 0, false, false, false, [1]⟩ ∧ 8 < 8 + [1].length ∧
    8 + [1].length ≤ 9 ∧ State.reset.port.held = none := by decide +kernel

/-- A vehicle on its route, with a clip and a cue, has the shape of every state. -/
theorem witness_shaped : (withCue 5 (plainCue .armed) (withClip 5 (clip 64 .ready) authorised)).Shaped := by
  constructor <;> decide +kernel

theorem witness_StatusSnapshot :
    let s := withCue 5 (plainCue .armed) (withClip 5 (clip 64 .ready) authorised)
    s.listening ∧ -32768 ≤ s.measuredSpeed ∧ s.measuredSpeed ≤ 32767 := by decide +kernel

/-- The reset words, the same with equal travel limits, and an AMEND of the first and of the last field. -/
theorem witness_SettingsRequests :
    let ws := Settings.reset.words
    let equal := { Settings.reset with yawMin := 1800 }.words
    State.reset.listening ∧ State.reset.msv.motion = .parked ∧ (moving .stopped State.reset).msv.motion = .stopped ∧
    ws.length = 26 ∧ stopClipOk ws = true ∧ (settingsOf ws).yawMin ≤ (settingsOf ws).yawMax ∧ equal.length = 26 ∧
    (settingsOf equal).yawMin = (settingsOf equal).yawMax ∧ 1 % 2 ^ 26 ≠ 0 ∧ 2 ^ 25 % 2 ^ 26 ≠ 0 ∧
    stopClipOk (overWords 1 ws State.reset.settings.words) = true ∧
    (settingsOf (overWords (2 ^ 25) ws State.reset.settings.words)).yawMin ≤
      (settingsOf (overWords (2 ^ 25) ws State.reset.settings.words)).yawMax := by decide +kernel

/-- An AMEND SETTINGS that carries none of the 26 words. -/
theorem witness_SettingsRequests_none : 0 % 2 ^ 26 = 0 ∧ 2 ^ 26 % 2 ^ 26 = 0 := by decide +kernel

theorem witness_SettingsKept : ∃ t, exec (.master 0 100) State.reset = .next t ∧ t.settings ≠ State.reset.settings :=
  ⟨_, rfl, by decide +kernel⟩

/-- A turntable on its way to 100 with every seat verified. -/
def turning : State :=
  let s := moving .running (placed 20 1000)
  s.setGdu { s.gdu with yawTarget := 100 }

theorem witness_TurntableMovesOnlyWhenSafe : ∃ t, exec (.guidanceSample 0 0) turning = .next t ∧
    t.gdu.yawCmd ≠ turning.gdu.yawCmd := ⟨_, rfl, by decide +kernel⟩

theorem witness_SpeedChangesOnlyByRamp : ∃ t, exec (.guidanceSample 0 0) (curve 6820 1500) = .next t ∧
    t.msv.motion.moving = true := ⟨_, rfl, by decide +kernel⟩

/-- The vehicle of 04 Table 4-7 with a command waiting. -/
def riding : State := (curve 6820 1500).setPending [.guidanceSample 0 0]

theorem witness_MotionSafeKept : riding.MotionSafe ∧ ∃ t, step riding = .next t :=
  ⟨by constructor <;> decide +kernel, _, rfl⟩

theorem witness_RouteSoundKept : riding.RouteSound ∧ ∃ t, step riding = .next t := by
  refine ⟨⟨by decide +kernel, by decide +kernel, by decide +kernel, by decide +kernel, by decide +kernel,
    by decide +kernel, ⟨by decide +kernel, by decide +kernel, trivial⟩, ?_, by decide +kernel, ?_, ?_, ?_,
    by decide +kernel⟩, _, rfl⟩
  · intro a g ha hg
    cases ha; cases hg; decide +kernel
  · intro u g hu hg
    cases hu; cases hg; decide +kernel
  · intro u hu; cases hu; decide +kernel
  · intro u hu h; cases hu; exact absurd h (by decide +kernel)

/-- Voice 0 plays clip 5, clip 6 is QUEUED and clip 7 VERIFYING. -/
def sounding : State :=
  (withVoice 0 (voiceOf 256 [1, 2]) (withClip 5 (clip 64 .ready) (withClip 6 (clip 64 .queued)
    (withClip 7 (clip 64 .verifying) State.reset)))).setPending [.outputSample]

theorem witness_VoicesSoundKept : sounding.SoundSound ∧ ∃ t, step sounding = .next t := by
  have hg : ∀ id, Table.get sounding.flp.clips id =
      if 5 = id then some (clip 64 .ready) else if 6 = id then some (clip 64 .queued)
      else if 7 = id then some (clip 64 .verifying) else none := fun _ => rfl
  refine ⟨⟨by decide +kernel, by decide +kernel, by decide +kernel, ?_, ?_, by decide +kernel, by decide +kernel, ?_,
    by decide +kernel, nofun, by decide +kernel, by decide +kernel, by decide +kernel, by decide +kernel⟩, _, rfl⟩
  · intro id
    rw [hg, show sounding.flp.queue = [6] from rfl]
    split <;> [skip; split] <;> [skip; skip; split] <;> simp_all [clip] <;> omega
  · intro id
    rw [hg, show sounding.flp.verifying.clip = some 7 from rfl]
    split <;> [skip; split] <;> [skip; skip; split] <;> simp_all [clip] <;> omega
  · intro v hv r hr
    have : ∀ v ∈ sounding.snd.voices, v.refill = none := by decide +kernel
    rw [this v hv] at hr; cases hr

theorem witness_NoticesSoundKept : (noticed.setPending [.noticeTake 0]).NoticesSound ∧
    ∃ t, step (noticed.setPending [.noticeTake 0]) = .next t := by
  refine ⟨⟨by decide +kernel, ?_, by decide +kernel, by decide +kernel, ?_, by decide +kernel⟩, _, rfl⟩
  · unfold Source.sound; decide +kernel
  · intro b hb; cases hb; decide +kernel

theorem witness_ShapeKept : (authorised.setPending [.retireAuthority 0]).Shaped ∧
    ∃ t, step (authorised.setPending [.retireAuthority 0]) = .next t :=
  ⟨by constructor <;> decide +kernel, _, rfl⟩

/-- A vehicle whose last pulse qualified exactly the rejector time ago. -/
def pulsed : State :=
  let s := placed 20 1000
  later 50 (s.setPos { s.pos with lastPulse := some 0 })

theorem witness_SensorEvents :
    (placed 20 1000).inReset = false ∧ (placed 20 1000).pos.active ≠ none ∧ (placed 20 1000).pos.lastPulse = none ∧
    pulsed.pos.lastPulse = some 0 ∧ 0 + pulsed.settings.rejector ≤ pulsed.now ∧ State.reset.pos.active = none := by
  decide +kernel

theorem witness_SensorEvents_early : (pulsed.setNow 49).pos.lastPulse = some 0 ∧
    (pulsed.setNow 49).now < 0 + (pulsed.setNow 49).settings.rejector := by decide +kernel

/-- Marker 41 at 2500 ± 200 on segment 20: seen already; at both edges of the window; at or past the authority point; beyond
the window; another code. -/
theorem witness_MarkerReads :
    State.reset.pos.active = none ∧ (placed 20 2300).inReset = false ∧
    ((placed 20 2300).activeSegment.map (fun p => (p.1, p.2.marker, p.2.length))) = some (20, some ⟨41, 2500, 200⟩, 6000) ∧
    (placed 20 2300).pos.markerSeen = false ∧ (placed 20 2300).pos.authority = none ∧
    (placed 20 2300).pos.s ≤ 2500 + 200 ∧ 2500 ≤ (placed 20 2300).pos.s + 200 ∧
    (placed 20 2700).pos.s ≤ 2500 + 200 ∧ 2500 ≤ (placed 20 2700).pos.s + 200 ∧ 2500 < 6000 ∧
    ¬((placed 20 2701).pos.s ≤ 2500 + 200) ∧ (41 : Nat) ≠ 42 ∧ (placed 20 2701).ntu.sources.length = 12 ∧
    (let s := (placed 20 2400).setPos { (placed 20 2400).pos with authority := some ⟨20, 2500⟩ }
     s.pos.authority = some ⟨20, 2500⟩ ∧ 2500 ≤ 2500) ∧
    ((placed 20 2300).setPos { (placed 20 2300).pos with markerSeen := true }).pos.markerSeen = true ∧
    (moving .running (placed 20 0)).msv.motion.moving = true ∧ StopReason.position ∉ (placed 20 0).msv.reasons ∧
    (placed 20 0).msv.motion.moving = false := by decide +kernel

/-- A guide word of good quality just arrived. -/
def guided (m : Motion) : State := after (.guideWord (some ⟨40, 9⟩)) (moving m (placed 20 1000))

theorem witness_GuidanceSampleActs :
    (guided .running).inReset = false ∧ (guided .running).positionStep.1.guideValid = true ∧
    (guided .running).positionStep.1.msv.motion.moving = true ∧
    ((guided .running).positionStep.1.activeSegment.map (·.1)) = some 20 ∧
    (guided .parked).positionStep.1.guideValid = true ∧ (guided .parked).positionStep.1.msv.motion = .parked ∧
    (guided .stopped).positionStep.1.msv.motion = .stopped ∧ (guided .eStop).positionStep.1.msv.motion = .eStop ∧
    (guided .running).allVerified = true ∧
    (let s := moving .running (placed 20 1000)
     s.positionStep.1.guideValid = false ∧ s.gdu.invalid < 2 ∧
     2 ≤ (s.setGdu { s.gdu with invalid := 2 }).gdu.invalid ∧ .guideLost ∉ s.positionStep.1.msv.reasons ∧
     .guideLost ∈ (s.setMsv { s.msv with reasons := [.guideLost] }).positionStep.1.msv.reasons) ∧
    State.reset.snd.loadShare = false ∧ (State.reset.setSnd { State.reset.snd with loadShare := true }).snd.loadShare = true := by
  decide +kernel

/-- The fiftieth sample out of bound, at 51 from the command, and the fiftieth in bound, at 50. -/
theorem witness_GuidanceSampleActs_follow :
    let s (n : Nat) (recovering : Bool) := (guided .running).setGdu
      { (guided .running).gdu with followCount := n, recovering := recovering }
    50 < ((51 : Int) - (after (.guidanceSample 51 0) (s 49 false)).gdu.yawCmd).natAbs ∧
    ¬(50 < ((50 : Int) - (after (.guidanceSample 50 0) (s 49 true)).gdu.yawCmd).natAbs) ∧
    49 ≤ (s 49 false).gdu.followCount ∧ ¬(49 ≤ (s 48 true).gdu.followCount) ∧ (s 49 false).gdu.recovering = false ∧
    (s 49 true).gdu.recovering = true ∧ .yawFollow ∉ (s 49 false).msv.reasons := by decide +kernel

/-- Load-share INACTIVE with its run at 1 and at 2, ACTIVE at 8 and at 9; the threshold is 2800 and the release level 2400
at reset; m above the load ceiling. -/
theorem witness_GuidanceSampleActs_load :
    let s (active : Bool) (run : Nat) := (guided .running).setSnd
      { (guided .running).snd with loadShare := active, loadRun := run, m := 256 }
    let t := after (.guidanceSample 0 ((s false 2).settings.loadThreshold + 1)) (s false 2)
    t.snd.loadShare = true ∧ t.snd.loadRun = 0 ∧ t.snd.m = min 256 t.masterTarget ∧ (s false 1).snd.loadRun < 2 ∧
    ¬((s false 2).snd.loadRun < 2) ∧ (s true 8).snd.loadRun < 9 ∧ ¬((s true 9).snd.loadRun < 9) ∧
    (after (.guidanceSample 0 0) (s true 9)).snd.loadShare = false ∧
    (after (.guidanceSample 0 ((s false 2).settings.loadThreshold)) (s false 2)).snd.loadRun = 0 := by decide +kernel

/-- A sample that stays RUNNING, one in DWELL and one in SAFE_STOP, and the third over-speed sample at 1651 mm/s (the
tolerance is 150 above a v_cmd of 1500), with a valid guide reading. -/
theorem witness_SpeedStageRamps :
    (curve 6820 1500).inReset = false ∧ (after (.guidanceSample 0 0) (curve 6820 1500)).msv.motion = .running ∧
    (after (.guidanceSample 0 0) (moving .dwell (curve 6820 1500))).msv.motion = .dwell ∧
    (after (.guidanceSample 0 0) (moving .safeStop (curve 6820 1500))).msv.motion = .safeStop ∧
    (after (.guidanceSample 0 0) (moving .safeStop (curve 6820 8))).msv.motion.moving = false ∧
    (let s := after (.guideWord (some ⟨0, 9⟩)) (curve 6820 1500)
     let q := (s.setMsv { s.msv with overspeed := 2, window := [0, 17, 17, 17] }).setPos { s.pos with residue := 16000 }
     let r := (s.setMsv { s.msv with overspeed := 2, window := [0, 17, 17, 17] }).setPos { s.pos with residue := 15000 }
     q.positionStep.1.guideValid = true ∧ q.positionStep.1.msv.motion = .running ∧
     25 * (q.msv.window.drop 1 ++ [q.positionStep.2]).sum > ((q.msv.vCmd + q.settings.overspeedTol : Nat) : Int) ∧
     ¬(25 * (r.msv.window.drop 1 ++ [r.positionStep.2]).sum > ((r.msv.vCmd + r.settings.overspeedTol : Nat) : Int)) ∧
     2 ≤ q.msv.overspeed ∧ .overspeed ∉ q.positionStep.1.msv.reasons) := by decide +kernel

/-- In SAFE_STOP and in a RAMPING dwell at 8 mm/s, which the step of 8 brings to 0, and at 9; in a HOLDING dwell. -/
theorem witness_SpeedStageRamps_rest :
    let at_ (m : Motion) (d : Option Dwell) (v : Nat) : State :=
      (curve 6820 v).setMsv { (curve 6820 v).msv with motion := m, dwell := d }
    let go (s : State) := after (.guidanceSample 0 0) s
    (curve 6820 8).ntu.sources.length = 12 ∧ ((at_ .safeStop none 8).positionStep.1.guide 0).msv.motion = .safeStop ∧
    (go (at_ .safeStop none 8)).msv.motion ≠ .eStop ∧ (at_ .safeStop none 8).msv.vCmd ≤ max 1 (800 / 100) ∧
    ((at_ .safeStop none 9).positionStep.1.guide 0).msv.motion = .safeStop ∧
    (go (at_ .safeStop none 9)).msv.motion ≠ .eStop ∧ max 1 (800 / 100) < (at_ .safeStop none 9).msv.vCmd ∧
    (go (at_ .dwell (some (.ramping 300)) 8)).msv.motion = .dwell ∧
    (at_ .dwell (some (.ramping 300)) 8).positionStep.1.msv.dwell = some (.ramping 300) ∧
    (go (at_ .dwell (some (.ramping 300)) 8)).msv.vCmd = 0 ∧ 0 < (go (at_ .dwell (some (.ramping 300)) 9)).msv.vCmd ∧
    (go (at_ .dwell (some (.ramping 300)) 9)).msv.motion = .dwell ∧
    (go (at_ .dwell (some (.holding 5)) 0)).msv.motion = .dwell := by decide +kernel

/-- Held without an authority, the flag clear and set; at 0 under a v_auth above 0; moving off; an overrun of v_auth 692 and
the tolerance of 150 at 843, and none at 842; the overspeed count below 2. -/
theorem witness_SpeedStageRamps_held :
    let still := moving .running (placed 20 1000)
    let capped := (curve 6820 0).setSettings { (curve 6820 0).settings with vmax := 0 }
    let short (v : Nat) := (curve 6000 v).setPos { (curve 6000 v).pos with authority := some ⟨12, 6600⟩, path := [12] }
    let w := (short 843).positionStep.1.guide 0
    let go (s : State) := after (.guidanceSample 0 0) s
    still.inReset = false ∧ still.ntu.sources.length = 12 ∧ (go still).msv.motion = .running ∧ (go still).msv.vCmd = 0 ∧
    still.positionStep.1.vAuth = 0 ∧ still.msv.held = false ∧
    (go capped).msv.motion = .running ∧ (go capped).msv.vCmd = 0 ∧ 0 < capped.positionStep.1.vAuth ∧
    (go (curve 6820 0)).msv.motion = .running ∧ 0 < (go (curve 6820 0)).msv.vCmd ∧
    w.msv.motion.moving = true ∧ (short 843).positionStep.1.vAuth + (short 843).settings.overspeedTol < w.msv.vCmd ∧
    ¬((short 842).positionStep.1.vAuth + (short 842).settings.overspeedTol < (short 842).msv.vCmd) ∧
    .authorityOverrun ∉ w.msv.reasons ∧ w.msv.overspeed < 2 ∧ w.msv.motion ≠ .parked ∧
    (State.reset.positionStep.1.guide 0).msv.motion = .parked := by decide +kernel

/-- A vehicle on the route with a residue in µm. -/
def rolling (k s : Nat) (r : Int) : State := (placed k s).setPos { (placed k s).pos with residue := r }

/-- The millimetre x that a step from the state takes the vehicle to, before transitions. -/
def reach (s : State) : Nat := ((s.pos.s : Int) + s.pos.residue.tdiv 1000).toNat

/-- Within segment 20 and back to its start; onto 21 at its first and its last millimetre; the clamp at the end of 22. -/
theorem witness_GuidanceSampleMovesVehicle :
    (rolling 20 1000 999).inReset = false ∧ (rolling 20 1000 999).ntu.sources.length = 12 ∧
    ((rolling 20 1000 999).activeSegment.map (fun p => (p.1, p.2.length))) = some (20, 6000) ∧
    reach (rolling 20 5990 9999) = 5999 ∧ reach (rolling 20 100 (-101000)) = 0 ∧ reach (rolling 20 5990 10000) = 6000 ∧
    ((rolling 20 5990 10000).activeSegment.bind (fun p => successor route.pos.segments p.2)) = some 21 ∧
    ((Table.get route.pos.segments 21).map (·.length)) = some 3000 ∧ reach (rolling 20 5990 3009999) - 6000 < 3000 ∧
    ((rolling 22 4999 1000).activeSegment.bind (fun p => successor route.pos.segments p.2)) = none ∧
    5000 ≤ reach (rolling 22 4999 1000) := by decide +kernel

/-- The authority point reached at 1001, not at 1000; the miss point of marker 41 at 2700, passed at 2701 in this pass only. -/
theorem witness_GuidanceSampleMovesVehicle_points :
    let due : Authority := ⟨20, 1001⟩
    (20 = due.segment ∧ due.offset ≤ reach (rolling 20 1000 1000)) ∧ ¬(due.offset ≤ reach (rolling 20 1000 999)) ∧
    .authorityOverrun ∉ (moving .running (rolling 20 1000 1000)).msv.reasons ∧
    (moving .running (rolling 20 1000 1000)).msv.motion ≠ .parked ∧
    ((Table.get route.pos.segments 20).map (fun g => (missPassed g true 2700 2701 false, missPassed g true 2700 2700 false,
      missPassed g true 2701 2702 false, missPassed g false 2700 2701 false, missPassed g true 2700 0 true))) =
      some (true, false, false, false, true) := by decide +kernel

/-- Two transitions in one step: 50 on segment 1 and 200 mm make 50 on segment 3, the three being 100 mm long. -/
theorem witness_GuidanceSampleMovesVehicle_twice :
    let g (next : Option Nat) : Segment := ⟨100, 500, 0, 0, 0, next, none, false, false, none⟩
    let s := State.reset.setPos { Pos.reset with
      segments := [(1, g (some 2)), (2, g (some 3)), (3, g none)], active := some 1, path := [1], s := 50, residue := 200000 }
    s.inReset = false ∧ s.activeSegment = some (1, g (some 2)) ∧ successor s.pos.segments (g (some 2)) = some 2 ∧
    Table.get s.pos.segments 2 = some (g (some 3)) ∧ 100 ≤ reach s ∧ successor s.pos.segments (g (some 3)) = some 3 ∧
    Table.get s.pos.segments 3 = some (g none) ∧ 100 ≤ reach s - 100 ∧ reach s - 100 - 100 < 100 := by decide +kernel

/-- Seat 3 VERIFIED: a good, a DISAGREE and an OPENED reading; no permit, or a contact open, or no release. -/
theorem witness_VerifiedSeatReadings :
    let s := moving .running (seat3 .verified State.reset)
    s.inReset = false ∧ s.rsm.seats.length = 8 ∧ (readings true true 700).length = 8 ∧
    (readings true true 700)[3]? = some ⟨true, true, 700⟩ ∧ (s.seat 3).state = .verified ∧
    (s.seat 3).classify ⟨true, true, 700⟩ = .good ∧ (s.seat 3).classify ⟨true, true, 900⟩ = .good ∧
    (s.seat 3).classify ⟨true, true, 901⟩ = .disagree ∧ (s.seat 3).classify ⟨false, false, 199⟩ = .opened ∧
    (s.seat 3).classify ⟨false, false, 200⟩ = .disagree ∧ s.rsm.permit = none ∧
    .seatFault ∉ s.msv.reasons ∧ s.msv.motion ≠ .parked := by decide +kernel

theorem witness_SeatSampleRunsSeats :
    let s := seat3 .verified State.reset
    s.inReset = false ∧ s.rsm.seats.length = 8 ∧ (readings true true 783).length = 8 ∧
    ∀ i, i < 8 → ((after (.seatSample (readings true true 783) true false) s).seat i).state = (s.seat i).state := by
  decide +kernel

/-- Seat 3 in each state its readings move, the counts at both sides of their limits. -/
theorem witness_SeatSampleRunsSeats_rows :
    let st (x : SeatState) := ((seat3 x State.reset).seat 3).state
    st .unlatched = .unlatched ∧ st (.latching 2) = .latching 2 ∧ 2 + 1 < 4 ∧ st (.latching 3) = .latching 3 ∧
    ¬(3 + 1 < 4) ∧ st (.suspect 1 0) = .suspect 1 0 ∧ 0 + 1 < 2 ∧ 1 + 1 < 3 ∧ st (.suspect 2 1) = .suspect 2 1 ∧
    ¬(1 + 1 < 2) ∧ ¬(2 + 1 < 3) ∧ st (.fault .opened) = .fault .opened ∧ st (.releasing 9) = .releasing 9 ∧
    (State.reset.seat 0).state = .disabled := by decide +kernel

/-- Seat 3 SUSPECT at its last DISAGREE and at OPENED, on a RUNNING vehicle: FAULT, with its notice at source 2. -/
theorem witness_SeatSampleRunsSeats_fault :
    let s := withSource 2 (Source.cleared 3) (moving .running (seat3 (.suspect 2 1) State.reset))
    let t := after (.seatSample (readings true false 783) true true) s
    s.ntu.sources.length = 12 ∧ (t.seat 3).state = .fault .disagree ∧ (s.seat 3).state ≠ .fault .disagree ∧
    .seatFault ∉ s.msv.reasons ∧ s.msv.motion ≠ .parked ∧ t.msv.motion = .eStop ∧
    t.source 2 = Source.record (.seat 3 (.fault .disagree)) (s.source 2) ∧ (t.source 2).pending = true := by decide +kernel

/-- IDLE; TIMING one microsecond short of 2000 ms and at it; HELD. -/
theorem witness_ContactHold :
    State.reset.inReset = false ∧ State.reset.rsm.hold = .idle ∧
    (let s := later 1999999 (State.reset.setRsm { State.reset.rsm with hold := .timing 0 })
     s.rsm.hold = .timing 0 ∧ s.now < 0 + 2000000) ∧
    (let s := later 2000000 (State.reset.setRsm { State.reset.rsm with hold := .timing 0 })
     s.rsm.hold = .timing 0 ∧ 0 + 2000000 ≤ s.now ∧ s.rsm.permit = none ∧ s.ntu.sources.length = 12) ∧
    (State.reset.setRsm { State.reset.rsm with hold := .held }).rsm.hold = .held := by decide +kernel

/-- STOPPED at the station with a permit for seat 3 that expires now, and a hold that completes now. -/
def permitted : State :=
  let s := moving .stopped (seat3 .verified (placed 22 100))
  later 2000000 (s.setRsm { s.rsm with
    permit := some ⟨8, 2000000⟩, hold := .timing 0, sampled := ⟨readings true true 783, false, false⟩ })

/-- The state whose last seat sample found the levels `v`. -/
def lastSampled (v : SeatLevels) (s : State) : State := s.setRsm { s.rsm with sampled := v }

theorem witness_ReleaseEvents :
    permitted.inReset = false ∧ permitted.rsm.hold = .timing 0 ∧ 0 + 2000000 ≤ permitted.now ∧
    permitted.rsm.permit = some ⟨8, 2000000⟩ ∧
    permitted.rsm.sampled = ⟨readings true true 783, false, false⟩ ∧
    (permitted.sampleSeats 0 (readings true true 783)).msv.motion = .stopped ∧ permitted.atStation = true ∧
    (lastSampled ⟨readings false false 0, false, false⟩ permitted).rsm.sampled.readings = readings false false 0 ∧
    (State.sampleSeats 0 (readings false false 0)
      (lastSampled ⟨readings false false 0, false, false⟩ permitted)).msv.motion = .eStop ∧ permitted.ntu.sources.length = 12 ∧
    (permitted.setRsm { permitted.rsm with permit := none }).rsm.permit = none ∧
    ((moving .running permitted).sampleSeats 0 (readings true true 783)).msv.motion = .running ∧ 2000000 ≤ permitted.now ∧
    ((seat3 (.releasing 2000000) permitted).seat 3).state = .releasing 2000000 := by decide +kernel

theorem witness_ReasonsAct :
    .position ∈ (State.reset.setMsv { State.reset.msv with reasons := [.position] }).msv.reasons ∧
    .seatFault ∉ State.reset.msv.reasons ∧ StopReason.isE .seatFault = true ∧ StopReason.isE .position = false ∧
    State.reset.msv.motion = .parked ∧ (moving .running State.reset).msv.motion = .running ∧
    (moving .dwell State.reset).msv.motion = .dwell ∧ (moving .safeStop State.reset).msv.motion = .safeStop ∧
    (moving .eStop State.reset).msv.motion = .eStop ∧ State.reset.ntu.sources.length = 12 := by decide +kernel

/-- A stop clip that is none, absent, READY with a voice to be had, and READY with every voice PLAYING at level 3. -/
theorem witness_ReasonsAct_announcement :
    let s (id : Option Nat) := (moving .running (withClip 5 (clip 64 .ready) State.reset)).setSettings
      { Settings.reset with stopClip := id }
    let busy := (s (some 5)).setSnd { (s (some 5)).snd with voices := List.replicate 6 { voiceOf 256 [] with level := 3 } }
    (s none).settings.stopClip = none ∧ (s (some 6)).readyClip 6 = none ∧ (s (some 5)).readyClip 5 = some (clip 64 .ready) ∧
    chooseVoice ((s (some 5)).snd.voices.map (fun v =>
      if v.state = .playing ∧ v.level < 3 then { v with state := .fading } else v)) 3 = some 0 ∧
    (s (some 5)).snd.startCounter + 1 < 2 ^ 48 ∧ (clip 64 .ready).length ≠ 0 ∧
    (∀ v ∈ busy.snd.voices, v.state = .playing ∧ 3 ≤ v.level) ∧ busy.readyClip 5 = some (clip 64 .ready) := by decide +kernel

/-- 07 R153: the stop announcement, and its refusal when every voice plays at level 3. -/
theorem test_stop_announcement :
    let s := withSource 7 (Source.cleared 3) ((moving .running (withClip 5 (clip 64 .ready) State.reset)).setSettings
      { Settings.reset with stopClip := some 5 })
    let busy := s.setSnd { s.snd with voices := List.replicate 6 { voiceOf 256 [] with level := 3 } }
    let t := s.addReason .hostEstop
    (t.voice 0).level = 3 ∧ (t.voice 0).owner = .stopCall ∧ (t.voice 0).buses = ⟨true, true⟩ ∧ (t.voice 0).gv = 256 ∧
    ((busy.addReason .hostEstop).source 7).detail = some (.voiceRefused 5 true) := by decide +kernel

/-- A supply state with its run count. -/
def supply (low : Bool) (run : Nat) : State := State.reset.setMsv { State.reset.msv with supplyLow := low, supplyRun := run }

/-- The supply threshold is 2600 and the hysteresis 100 at reset: 2600 is not below, 2599 is; 2700 is not above, 2701 is. -/
theorem witness_MotionEvents :
    State.reset.inReset = false ∧ .estopInput ∉ State.reset.msv.reasons ∧
    (moving .running State.reset).msv.motion ≠ .parked ∧
    State.reset.msv.linkExpiry = some 250000 ∧ (later 250000 State.reset).now = 250000 ∧
    State.reset.msv.motion.moving = false ∧ (moving .dwell State.reset).msv.motion.moving = true ∧
    .linkLost ∉ State.reset.msv.reasons ∧
    (supply false 3).settings.supplyThreshold ≤ 2600 ∧ 2599 < (supply false 3).settings.supplyThreshold ∧
    2700 ≤ (supply true 3).settings.supplyThreshold + (supply true 3).settings.supplyHysteresis ∧
    (supply true 3).settings.supplyThreshold + (supply true 3).settings.supplyHysteresis < 2701 ∧
    (supply true 2).msv.supplyRun < 3 ∧ (supply true 3).msv.supplyRun = 3 ∧ (supply true 3).msv.supplyLow = true ∧
    (supply false 3).msv.supplyLow = false ∧
    (let s := State.reset.setMsv { State.reset.msv with motion := .dwell, dwell := some (.holding 0) }
     s.msv.motion = .dwell ∧ s.msv.dwell = some (.holding 0) ∧ 0 ≤ s.now) := by decide +kernel

/-- A motion state with these reasons. -/
def reasons (m : Motion) (l : List StopReason) (s : State) : State := s.setMsv { s.msv with motion := m, reasons := l }

theorem witness_MotionRequests :
    State.reset.listening ∧ State.reset.msv.motion = .parked ∧
    (∀ r ∈ (reasons .parked [.position] authorised).msv.reasons, r.isE = false) ∧
    (∃ r ∈ (reasons .parked [.hostEstop] authorised).msv.reasons, r.isE = true) ∧
    (reasons .stopped [.hostStop, .linkLost] authorised).listening ∧
    (∀ r ∈ (reasons .stopped [.hostStop, .linkLost] authorised).msv.reasons, r = .hostStop ∨ r = .linkLost) ∧
    (reasons .stopped [.hostStop, .linkLost] authorised).pos.authority ≠ none ∧
    (reasons .stopped [.hostStop, .linkLost] authorised).allVerified = true ∧
    (seat3 .unlatched (reasons .stopped [] authorised)).allVerified = false ∧
    (reasons .stopped [] (placed 20 0)).pos.authority = none ∧
    (∃ r ∈ (reasons .stopped [.position, .linkLost] authorised).msv.reasons, r ≠ .hostStop ∧ r ≠ .linkLost) ∧
    (reasons .running [] authorised).msv.motion ≠ .parked ∧ .hostStop ∉ (reasons .running [] authorised).msv.reasons ∧
    .hostEstop ∉ State.reset.msv.reasons ∧
    (reasons .eStop [.hostEstop] authorised).msv.motion = .eStop ∧ (reasons .eStop [.hostEstop] authorised).zeroSpeed = true ∧
    (∀ r ∈ (reasons .eStop [.hostEstop] authorised).msv.reasons,
      (reasons .eStop [.hostEstop] authorised).conditionRemains r = false) ∧
    (let s := reasons .eStop [.guideLost] authorised
     ∃ r ∈ s.msv.reasons, s.conditionRemains r = true) ∧
    (let s := reasons .eStop [] authorised
     (later 499999 (s.setPos { s.pos with lastPulse := some 0 })).zeroSpeed = false ∧
     (later 500000 (s.setPos { s.pos with lastPulse := some 0 })).zeroSpeed = true) ∧
    (moving .dwell State.reset).msv.motion = .dwell ∧ (moving .stopped State.reset).msv.motion ≠ .dwell := by
  decide +kernel

theorem witness_PlaceAndYaw :
    (moving .stopped authorised).listening ∧ (moving .stopped authorised).msv.motion = .stopped ∧ route.listening ∧
    route.msv.motion = .parked ∧ 30 ≤ 127 ∧ ((Table.get authorised.pos.segments 30).map (·.length)) = some 4000 ∧
    30 ∉ authorised.pos.path ∧ 0 < 4000 ∧ 3999 < 4000 := by decide +kernel

/-- A payload for a free key, for key 0 and for key 127; the stored record amended; an AMEND that carries nothing. -/
theorem witness_SegmentRequests :
    let w : SegmentWire := ⟨100, 5000, 0, 0, 0, 255, 127, false, false, some ⟨1, 100, 5⟩⟩
    let bad : SegmentWire := ⟨99, 0, 0, 0, 0, 0, 0, false, false, none⟩
    authorised.listening ∧ Table.wf authorised.pos.segments ∧ 0 ≤ 127 ∧ 127 ≤ 127 ∧ 127 ∉ authorised.pos.path ∧
    30 ∉ authorised.pos.path ∧ w.valid = true ∧ (Table.get authorised.pos.segments 30).isSome = true ∧
    1 % 2 ^ 10 ≠ 0 ∧ 2 ^ 10 % 2 ^ 10 = 0 ∧
    ((Table.get authorised.pos.segments 30).map (fun o => (w.over 1 o.toWire).valid)) = some true ∧
    ((Table.get authorised.pos.segments 30).map (fun o => (bad.over 512 o.toWire).valid)) = some true := by decide +kernel

/-- The walk from 20 to 22; offsets within, at and beyond the segment's length; the speed at the limit. -/
theorem witness_AuthorityRequests :
    let s := moving .stopped authorised
    s.listening ∧ (s.activeSegment.map (·.1)) = some 20 ∧ ((Table.get s.pos.segments 22).map (·.length)) = some 5000 ∧
    ¬((22 : Nat) = 20 ∧ min 5001 5000 ≤ s.pos.s) ∧ walk s.pos.segments 22 129 [20] = .reached [20, 21, 22] ∧
    [20, 21, 22].length ≤ 32 ∧ s.msv.motion.moving = false ∧ s.pos.authority ≠ none ∧ (placed 20 0).pos.authority = none ∧
    (3 : Nat).testBit 0 = true ∧ (3 : Nat).testBit 1 = true ∧
    walk s.pos.segments 20 129 [20] = .reached [20] ∧ ¬((20 : Nat) = 20 ∧ min 1001 6000 ≤ s.pos.s) ∧
    (let u := (moving .running authorised).setMsv { (moving .running authorised).msv with vCmd := 150 }
     u.msv.vCmd ≤ u.settings.overspeedTol) ∧
    (let s := curve 6000 1500
     let u := s.setPos { s.pos with authority := some ⟨12, 6600⟩, path := [12] }
     s.msv.motion.moving = true ∧ walk s.pos.segments 12 129 [12] = .reached [12] ∧
     u.vAuth + s.settings.overspeedTol < s.msv.vCmd ∧ .authorityOverrun ∉ s.msv.reasons) := by decide +kernel

/-- An AMEND of the segment alone and of the offset alone, and of neither, over an authority at 22, 4500; the speed at one
above the tolerance for a RETIRE, with no overrun present. -/
theorem witness_AuthorityRequests_amend :
    let s := moving .stopped authorised
    s.pos.authority = some ⟨22, 4500⟩ ∧ 1 % 4 ≠ 0 ∧ 2 % 4 ≠ 0 ∧ 4 % 4 = 0 ∧
    (if (1 : Nat).testBit 0 then 21 else 22) = 21 ∧ (if (1 : Nat).testBit 1 then 7 else 4500) = 4500 ∧
    ((Table.get s.pos.segments 21).map (·.length)) = some 3000 ∧ walk s.pos.segments 21 129 [20] = .reached [20, 21] ∧
    (if (2 : Nat).testBit 0 then 21 else 22) = 22 ∧ (if (2 : Nat).testBit 1 then 7 else 4500) = 7 ∧
    (after (.amendAuthority 0 1 ⟨21, 7⟩) s).pos.authority = some ⟨21, 3000⟩ ∧
    (after (.amendAuthority 0 2 ⟨21, 7⟩) s).pos.authority = some ⟨22, 7⟩ ∧
    (let u := (moving .running authorised).setMsv { (moving .running authorised).msv with vCmd := 151 }
     u.listening ∧ u.msv.motion.moving = true ∧ u.settings.overspeedTol < u.msv.vCmd ∧ u.pos.authority ≠ none ∧
     .authorityOverrun ∉ u.msv.reasons ∧ u.ntu.sources.length = 12) := by decide +kernel

theorem witness_SeatRequests :
    let w : SeatWire := ⟨true, false, false, 1023, 1023, 0⟩
    let s := seat3 .verified State.reset
    s.listening ∧ s.msv.motion = .parked ∧ (moving .stopped s).msv.motion = .stopped ∧ 0 ≤ 7 ∧ 7 ≤ 7 ∧
    s.rsm.seats.length = 8 ∧ w.valid = true ∧ (s.seat 3).state.energised = false ∧ 64 % 64 = 0 ∧ 1 % 64 ≠ 0 ∧
    (w.over 32 (s.seat 3).toWire).valid = true ∧ (s.seat 3).enabled = true ∧ (s.seat 0).enabled = false ∧
    ((seat3 (.fault .opened) s).seat 3).state = .fault .opened := by decide +kernel

theorem witness_SeatRequests_free : ∀ f, ((seat3 .verified State.reset).seat 3).state ≠ .fault f := by
  intro f; cases f <;> decide +kernel

theorem witness_ReleaseRequests :
    (moving .stopped (placed 22 0)).listening ∧ 1 ≤ 1 ∧ 255 ≤ 255 ∧ (moving .stopped (placed 22 0)).msv.motion = .stopped ∧
    (moving .stopped (placed 22 0)).atStation = true ∧ State.reset.msv.motion = .parked := by decide +kernel

/-- A cue of segment 20 from 100 to 200, evaluated on 20 at 99, 100, 199 and 200, jumped from 99 to 200, on another segment,
and left; a free effect line, the cue's own, one of a lower, an equal level. -/
theorem witness_CuesAtAnEvaluation :
    let at_ (k x x0 : Nat) (st : CueState) (e : Option Nat) :=
      let u := withCue 5 (plainCue st) (placed k x)
      (u.setPos { u.pos with sPrev := x0 }).setCue { u.cue with evaluated := e }
    ((at_ 20 100 99 .armed none).activeSegment.map (·.1)) = some 20 ∧ Table.wf (at_ 20 100 99 .armed none).cue.cues ∧
    Table.get (at_ 20 100 99 .armed none).cue.cues 5 = some (plainCue .armed) ∧
    (plainCue .armed).segment = 20 ∧ min (plainCue .armed).stop 6000 = 200 ∧ (plainCue .armed).start = 100 ∧
    ¬(100 ≤ (at_ 20 99 98 .armed none).pos.s) ∧ 100 ≤ (at_ 20 100 99 .armed none).pos.s ∧
    (at_ 20 199 198 .armed none).pos.s < 200 ∧ 200 ≤ (at_ 20 200 99 .armed none).pos.s ∧
    (at_ 20 200 99 .armed none).pos.sPrev < 100 ∧ ¬((at_ 20 200 100 .armed none).pos.sPrev < 100) ∧
    ((at_ 21 0 0 .active (some 20)).activeSegment.map (·.1)) = some 21 ∧ (plainCue .active).segment ≠ 21 ∧
    (at_ 21 0 0 .active (some 20)).cue.evaluated = some (plainCue .active).segment ∧
    (moving .running State.reset).msv.motion ≠ .parked ∧ State.reset.cue.lines[4]? = some none ∧
    (withLine 4 ⟨21, 2, false, 500, 0, 0, .on, 250⟩ State.reset).cue.lines[4]? =
      some (some ⟨21, 2, false, 500, 0, 0, .on, 250⟩) ∧ (2 : Nat) < 3 ∧ ¬((2 : Nat) < 2) ∧
    (at_ 20 150 0 .spent (some 20)).cue.evaluated = some (plainCue .spent).segment ∧ (plainCue .spent).everyPass = false ∧
    { plainCue .spent with everyPass := true }.everyPass = true := by decide +kernel

/-- The turntable free, the claimer's own, held at a lower and at an equal level; a READY clip with and without a voice to be
had; a beacon queue of 7 and of 8 codes; RUNNING, both phases of DWELL, and STOPPED. -/
theorem witness_CuesAtAnEvaluation_actions :
    let turn (h : TurnHold) := State.reset.setCue { CueUnit.reset with turntable := some h }
    let clipped := withClip 5 (clip 64 .ready) State.reset
    let full := clipped.setSnd { clipped.snd with voices := List.replicate 6 (voiceOf 256 []) }
    let queue (n : Nat) := State.reset.setCue { CueUnit.reset with beacon := List.replicate n 1 }
    let dwelling (d : Dwell) := State.reset.setMsv { State.reset.msv with motion := .dwell, dwell := some d }
    State.reset.cue.turntable = none ∧ (turn ⟨7, 1⟩).cue.turntable = some ⟨7, 1⟩ ∧ (TurnHold.mk 7 1).holder = 7 ∧
    (TurnHold.mk 7 1).holder ≠ 8 ∧ (TurnHold.mk 7 1).level < 2 ∧ ¬((TurnHold.mk 7 1).level < 1) ∧
    clipped.readyClip 5 = some (clip 64 .ready) ∧ chooseVoice clipped.snd.voices 1 = some 0 ∧
    clipped.readyClip 6 = none ∧ chooseVoice full.snd.voices 1 = none ∧ chooseVoice full.snd.voices 2 = some 0 ∧
    State.reset.msv.motion = .parked ∧ (moving .eStop State.reset).msv.motion = .eStop ∧
    (queue 7).cue.beacon.length < 8 ∧ 8 ≤ (queue 8).cue.beacon.length ∧ (moving .running State.reset).msv.motion = .running ∧
    (dwelling (.ramping 300)).msv.dwell = some (.ramping 300) ∧ (dwelling (.holding 9)).msv.dwell = some (.holding 9) ∧
    (moving .stopped State.reset).msv.motion ≠ .running ∧ (moving .stopped State.reset).msv.motion ≠ .dwell := by
  decide +kernel

/-- Cue 5 ACTIVE at its end and at a left segment, with a line, the turntable and a voice of its own. -/
theorem witness_CuesAtAnEvaluation_exit :
    let u := withLine 4 ⟨5, 1, false, 500, 0, 0, .on, 250⟩ (withVoice 0 { voiceOf 256 [] with owner := .cue 5, exitFade := true }
      (withCue 5 (plainCue .active) (placed 20 200)))
    u.activeSegment.isSome = true ∧ Table.wf u.cue.cues ∧ Table.get u.cue.cues 5 = some (plainCue .active) ∧
    min (plainCue .active).stop 6000 ≤ u.pos.s ∧
    (u.evaluate false).cue.lines[4]? = some none ∧ ((u.evaluate false).voice 0).state = .fading := by decide +kernel

/-- A cue payload for an absent and for a present key; an amended one; both kinds of RETIRE. -/
theorem witness_CueRequests :
    let w : CueWire := ⟨20, 0, 100, 3, false, false, [⟨3, 7, 0, 0, 0, 0⟩, ⟨6, 0, 200, 0, 0, 0⟩]⟩
    let s := withCue 5 (plainCue .spent) (withCue 6 (plainCue .active) State.reset)
    s.listening ∧ Table.wf s.cue.cues ∧ 0 ≤ 95 ∧ 95 ≤ 95 ∧
    w.parse s.settings = some ([.beacon 7, .slow 200], false) ∧ Table.get s.cue.cues 95 = none ∧
    (Table.get s.cue.cues 5).map (·.state) = some .spent ∧ (Table.get s.cue.cues 6).map (·.state) = some .active ∧
    1 % 2 ^ 7 ≠ 0 ∧ 2 ^ 7 % 2 ^ 7 = 0 ∧ ((w.over 1 (plainCue .spent).toWire).parse s.settings).isSome = true := by decide +kernel

theorem witness_RearmAndDisarm :
    let s := withCue 5 (plainCue .spent) (withCue 6 (plainCue .active) State.reset)
    s.listening ∧ (5 : Nat) ≤ 95 ∧ 95 < 96 ∧ Table.get s.cue.cues 95 = none ∧
    (Table.get s.cue.cues 6).map (·.state) = some .active ∧ Table.get s.cue.cues 5 = some (plainCue .spent) ∧
    (plainCue .spent).state ≠ .active := by decide +kernel

/-- A line in ON and in OFF, with 11, 10 and 0 ms left, of each remaining count; a burst that ends now. -/
theorem witness_EffectEvents :
    let l (rem : Nat) (timed : Bool) (ph : EffectPhase) (off timer : Nat) : LineHold := ⟨5, 1, timed, 200, off, rem, ph, timer⟩
    State.reset.inReset = false ∧
    (withLine 4 (l 3 true .on 300 11) State.reset).cue.lines[4]? = some (some (l 3 true .on 300 11)) ∧
    (l 3 true .on 300 11).phase ≠ .ended ∧ 10 < (l 3 true .on 300 11).timer ∧ (l 3 true .on 300 10).timer ≤ 10 ∧
    0 < (l 3 true .on 300 10).offMs ∧ (l 3 true .on 0 10).offMs = 0 ∧ (l 3 true .off 300 10).phase = .off ∧
    (l 0 true .off 300 10).remaining = 0 ∧ 2 ≤ (l 2 true .off 300 10).remaining ∧ (l 1 true .off 300 10).remaining = 1 ∧
    (l 1 true .off 300 10).timed = true ∧ (l 1 false .off 300 10).timed = false ∧ (l 1 false .on 300 0).timer = 0 ∧
    State.reset.cue.lines[0]? = some none ∧ (l 0 false .ended 300 0).phase = .ended ∧
    (State.reset.setCue { CueUnit.reset with beacon := [9], beaconEnd := some 0 }).cue.beaconEnd = some 0 ∧
    0 ≤ State.reset.now := by decide +kernel

/-- A clip payload for a free key and for the stored clip 5; its gain amended, and its address. -/
theorem witness_ClipRequests :
    let w : ClipWire := ⟨8192, 100, 300, none⟩
    let s := withClip 5 (clip 64 .ready) State.reset
    s.listening ∧ Table.wf s.flp.clips ∧ 0 ≤ 63 ∧ 63 ≤ 63 ∧ s.clipPlayed 5 = false ∧ w.valid = true ∧
    s.underHostOp (w.clip .queued) = false ∧ Table.get s.flp.clips 5 = some (clip 64 .ready) ∧ 4 % 16 ≠ 0 ∧
    (w.over 4 (clip 64 .ready).toWire).valid = true ∧ (w.over 4 (clip 64 .ready).toWire).addr = (clip 64 .ready).addr ∧
    (w.over 4 (clip 64 .ready).toWire).length = (clip 64 .ready).length ∧
    (w.over 1 (clip 64 .ready).toWire).valid = true ∧ (w.over 1 (clip 64 .ready).toWire).addr ≠ (clip 64 .ready).addr ∧
    s.underHostOp ((w.over 1 (clip 64 .ready).toWire).clip .queued) = false ∧ 16 % 16 = 0 ∧
    (withClip 5 (clip 64 .verifying) State.reset).flp.verifying.clip = some 5 ∧ s.flp.verifying.clip ≠ some 5 := by
  decide +kernel

/-- The port of 06 Table 6-7: voice 1 from voice0 on, LOW for HOSTOP, LOW for VERIFY; and a queue with none VERIFYING. -/
theorem witness_FlashGrantFollowsRing :
    (ring 6 true).inReset = false ∧ (ring 6 true).flp.grant = none ∧ (ring 6 true).flp.lastHigh ≤ 6 ∧
    (ring 6 true).asks 1 = true ∧
    (∀ j, j ≤ 6 → (ring 6 true).asks j = true → ringPlace (ring 6 true).flp.lastHigh 1 ≤ ringPlace (ring 6 true).flp.lastHigh j) ∧
    ((ring 6 true).voice 1).refill = some ⟨10, 54⟩ ∧ (ring 6 true).clipOf ((ring 6 true).voice 1) = some (clip 64 .ready) ∧
    (ring 4 true).asks 6 = true ∧
    (∀ j, j ≤ 6 → (ring 4 true).asks j = true → ringPlace (ring 4 true).flp.lastHigh 6 ≤ ringPlace (ring 4 true).flp.lastHigh j) ∧
    (ring 4 true).flp.hostAsks = true ∧ (ring 4 true).flp.lowPrefersHost = true ∧
    (ring 4 true).flp.read = some ⟨0, 0, 8, 1800⟩ ∧ (ring 4 false).flp.verifyAsks = true ∧
    (ring 4 false).flp.lowPrefersHost = false ∧ (ring 4 false).flp.verifying.clip = some 6 ∧
    Table.get (ring 4 false).flp.clips 6 = some (clip 64 .verifying) ∧
    (withClip 6 (clip 64 .queued) State.reset).flp.verifying.clip = none ∧
    (withClip 6 (clip 64 .queued) State.reset).flp.queue = [6] ∧
    (withClip 6 (clip 64 .queued) State.reset).asks 6 = true := by decide +kernel

/-- HOSTOP with a program that crosses a page at 256, its first and its second step, and with an erase. -/
theorem witness_FlashGrantFollowsRing_host :
    let s (op : HostOpKind) (first done : Nat) := State.reset.setFlp { State.reset.flp with
      slot := ⟨op, first, first + 1, done, 2, .running, none, [0x12, 0x34]⟩ }
    (s .program 255 0).flp.grant = none ∧ (s .program 255 0).asks 6 = true ∧ (s .program 255 0).flp.hostAsks = true ∧
    (s .program 255 0).flp.verifyAsks = false ∧ (s .program 255 0).flp.read = none ∧
    (∀ j, j ≤ 6 → (s .program 255 0).asks j = true → ringPlace 6 6 ≤ ringPlace 6 j) ∧
    (after .flashGrant (s .program 255 0)).flp.grant = some ⟨.program 255 [0x12], 0⟩ ∧
    (after .flashGrant (s .program 255 1)).flp.grant = some ⟨.program 256 [0x34], 0⟩ ∧
    (after .flashGrant (s .erase 4096 1)).flp.grant = some ⟨.erase 8192, 0⟩ := by decide +kernel

/-- A flash with the header of a clip of 64 samples at 4096. -/
def withHeader (bs : List (Nat × Byte)) (s : State) : State := s.setFlp { s.flp with flash := bs }

/-- The header's first twelve bytes: "IVCL", 64 samples, and a CRC. -/
def header : List (Nat × Byte) := [(4096, 0x49), (4097, 0x56), (4098, 0x43), (4099, 0x4C), (4100, 64), (4101, 0), (4102, 0),
  (4103, 0), (4104, 1), (4105, 0), (4106, 0), (4107, 0)]

/-- A first burst and a later one, of the clip that is VERIFYING, ending before and at its extent; a wrong tag, a wrong
length; a burst that is to be discarded. -/
theorem witness_VerifyBurstChecks :
    let s := granted (.verify 4096 144 true) (withHeader header (withClip 6 (clip 64 .verifying) State.reset))
    let bs := Memory.readRange s.flp.flash 4096 144
    s.inReset = false ∧ s.flp.grant = some ⟨.verify 4096 144 true, 0⟩ ∧ 4096 + 144 ≤ 16777216 ∧
    s.flp.verifying.clip = some 6 ∧ s.flp.verifying.done = 0 ∧ Table.get s.flp.clips 6 = some (clip 64 .verifying) ∧
    bs.take 4 = [0x49, 0x56, 0x43, 0x4C] ∧ le32 bs 4 = 64 ∧ 16 + 2 * 64 ≤ 0 + 144 ∧ 0 + 143 < 16 + 2 * 64 ∧
    (Memory.readRange [] 4096 144).take 4 ≠ [0x49, 0x56, 0x43, 0x4C] ∧ le32 bs 4 ≠ 65 ∧
    (~~~(0xFFFFFFFF : Crc32)) = 0 ∧ (~~~(0xFFFFFFFF : Crc32)) ≠ 1 ∧ 16777216 - 144 + 144 ≤ 16777216 := by decide +kernel

/-- A refill for voice 0 of clip 5: the last samples of a clip without a loop, and those up to a loop's end. -/
theorem witness_RefillDelivers :
    let s := granted (.refill 0 (4096 + 16 + 20) 54 true)
      (withVoice 0 { voiceOf 256 [] with refill := some ⟨10, 54⟩ } (withClip 5 (clip 64 .ready) State.reset))
    let looped := withVoice 0 { voiceOf 256 [] with loop := true, fetch := 10 }
      (withClip 5 { clip 64 .ready with loop := some (0, 20) } State.reset)
    s.inReset = false ∧ s.flp.grant = some ⟨.refill 0 4132 54 true, 0⟩ ∧ 4132 + 2 * 54 ≤ 16777216 ∧
    0 < s.snd.voices.length ∧ s.clipOf (s.voice 0) = some (clip 64 .ready) ∧ (s.voice 0).loop = false ∧
    looped.clipOf (looped.voice 0) = some { clip 64 .ready with loop := some (0, 20) } ∧ (looped.voice 0).loop = true ∧
    (looped.voice 0).fetch + 10 = 20 ∧ (looped.voice 0).fetch + 9 ≠ 20 ∧ (looped.voice 0).sounding = true ∧
    (looped.voice 0).buffer.length + 256 ≤ 256 ∧ 256 < (looped.voice 0).buffer.length + 257 ∧ (s.voice 0).sounding = true ∧
    (s.voice 0).buffer.length + 54 ≤ 256 ∧ (s.voice 0).fetch + 54 = (clip 64 .ready).length ∧
    (s.voice 1).sounding = false := by decide +kernel

/-- A FLASH_READ under way whose deadline passes now. -/
theorem witness_FlashReadEnds :
    let s := later 1800 (granted (.hostRead 16777208 8) (State.reset.setFlp { State.reset.flp with
      read := some ⟨3, 16777208, 8, 1800⟩ }))
    s.inReset = false ∧ s.flp.read = some ⟨3, 16777208, 8, 1800⟩ ∧ s.flp.grant = some ⟨.hostRead 16777208 8, 0⟩ ∧
    16777208 + 8 ≤ 16777216 ∧ 1800 ≤ s.now := by decide +kernel

/-- A host operation of `total` steps with the unit granted. -/
def operating (op : HostOpKind) (w : Work) (total : Nat) : State :=
  granted w (State.reset.setFlp { State.reset.flp with
    slot := ⟨op, w.addr, w.addr + w.size - 1, 0, total, .running, none, [0x12, 0x34]⟩ })

theorem witness_HostStepWrites :
    let s := operating .program (.program 255 [0x12]) 2
    let e := operating .erase (.erase 0) 1
    s.inReset = false ∧ Memory.wf s.flp.flash ∧ s.flp.grant = some ⟨.program 255 [0x12], 0⟩ ∧
    (Work.program 255 [0x12]).isStep = true ∧ (Work.program 255 [0x12]).addr + (Work.program 255 [0x12]).size ≤ 16777216 ∧
    s.flp.slot.done + 1 < s.flp.slot.total ∧ (Work.erase 0).isStep = true ∧ e.flp.grant = some ⟨.erase 0, 0⟩ ∧
    e.flp.slot.total ≤ e.flp.slot.done + 1 ∧ (Work.erase 0).size = 4096 := by decide +kernel

/-- Each kind of unit at its time limit. -/
theorem witness_FlashUnitTimesOut :
    let at_ (us : Nat) (s : State) := later us s
    let p := at_ 5000 (operating .program (.program 0 [1]) 1)
    let v := at_ 1000 (granted (.verify 4096 144 true) (withClip 6 (clip 64 .verifying) State.reset))
    p.inReset = false ∧ Memory.wf p.flp.flash ∧ p.flp.grant = some ⟨.program 0 [1], 0⟩ ∧
    0 + (Work.program 0 [1]).limit ≤ p.now ∧ 0 + (Work.erase 0).limit = 500000 ∧
    v.flp.grant = some ⟨.verify 4096 144 true, 0⟩ ∧ 0 + (Work.verify 4096 144 true).limit ≤ v.now ∧
    v.flp.verifying.clip = some 6 ∧ (Work.refill 0 0 1 true).limit = 1000 ∧ (Work.hostRead 0 8).limit = 1000 ∧
    (Work.hostRead 0 8).isStep = false := by decide +kernel

theorem witness_HostFlashRequests :
    let s := withClip 5 (clip 64 .ready) State.reset
    s.listening ∧ s.flp.slot.result ≠ .running ∧ 1 ≤ 128 ∧ 16777216 - 128 + 128 ≤ 16777216 ∧
    (∀ v ∈ s.snd.voices, v.state = .idle) ∧ [(0 : Byte)].length ≤ 236 ∧ (List.replicate 236 (0 : Byte)).length ≤ 236 ∧
    s.liveClipIn 0 4095 = false ∧ s.liveClipIn (4096 + 144) 8191 = false ∧ 4096 % 4096 = 0 ∧
    0 + 4096 * 4096 ≤ 16777216 ∧ State.reset.liveClipIn 0 (0 + 4096 * 4096 - 1) = false := by decide +kernel

theorem witness_OutputSampleMixes : (mixed 256).inReset = false := by decide +kernel

/-- A sample before the clip's end, the last one, the last of a loop; an empty buffer before and after priming. -/
theorem witness_OutputSampleAdvancesVoice :
    let s (v : Voice) (l : Option (Nat × Nat)) := withVoice 2 v (withClip 5 { clip 64 .ready with loop := l } State.reset)
    let v := voiceOf 256 [7]
    (s v none).inReset = false ∧ (s v none).snd.voices.length = 6 ∧ ((s v none).voice 2).sounding = true ∧
    (s v none).clipOf ((s v none).voice 2) = some (clip 64 .ready) ∧ ((s v none).voice 2).buffer = [7] ∧
    ((s v none).voice 2).position + 1 ≠ 64 ∧
    ((s { v with position := 63 } none).voice 2).position + 1 = 64 ∧
    ((s { v with loop := true, position := 19 } (some (0, 20))).voice 2).position + 1 = 20 ∧
    (s { v with loop := true } (some (0, 20))).clipOf ((s { v with loop := true } (some (0, 20))).voice 2) =
      some { clip 64 .ready with loop := some (0, 20) } ∧
    ((s { v with buffer := [] } none).voice 2).primed = true ∧
    ((s { v with buffer := [], primed := false } none).voice 2).primed = false := by decide +kernel

/-- Voice 2 at its clip's last sample, voice 4 at the first sample of an underrun and voice 5 within one: two notices. -/
theorem witness_OutputSampleAdvancesVoice_notices :
    let s := withSource 7 (Source.cleared 3) (withVoice 5 { voiceOf 256 [] with underrun := true }
      (withVoice 4 (voiceOf 256 []) (withVoice 2 { voiceOf 256 [7] with position := 63 }
        (withClip 5 (clip 64 .ready) State.reset))))
    s.snd.voices.length = 6 ∧ (s.voice 2).sounding = true ∧ s.clipOf (s.voice 2) = some (clip 64 .ready) ∧
    (after .outputSample s).source 7 =
      Source.record (.voiceUnderrun 4 .request) (Source.record (.voiceEnded 2 .request) (s.source 7)) ∧
    ((after .outputSample s).source 7).count = 2 := by decide +kernel

/-- A FADING voice above, at and below the slew of 8, and at 0. -/
theorem witness_FadeAndMasterTick :
    let s (g : Nat) := withVoice 0 { voiceOf g [] with state := .fading } State.reset
    (s 9).inReset = false ∧ (s 9).snd.voices.length = 6 ∧ ((s 9).voice 0).state = .fading ∧
    (s 9).settings.voiceSlew < ((s 9).voice 0).gv ∧ ((s 8).voice 0).gv ≤ (s 8).settings.voiceSlew ∧
    ((s 0).voice 0).gv = 0 ∧ ((s 9).voice 1).state ≠ .fading := by decide +kernel

theorem witness_ClaimChoosesVoice :
    chooseVoice State.reset.snd.voices 0 = some 0 ∧
    chooseVoice [voiceOf 256 [], { voiceOf 256 [] with state := .fading }] 0 = some 1 ∧
    chooseVoice [voiceOf 256 [], { voiceOf 256 [] with level := 0 }] 1 = some 1 ∧
    chooseVoice [voiceOf 256 []] 1 = none ∧ (withVoice 0 (voiceOf 256 []) State.reset).snd.voices.length = 6 := by
  decide +kernel

theorem witness_VoiceRequests :
    let s := withVoice 5 (voiceOf 200 []) (withClip 5 (clip 64 .ready) State.reset)
    let w : PlayWire := ⟨5, 1, 300, 1, 3⟩
    s.listening ∧ w.clip ≤ 63 ∧ w.buses.testBit 0 = true ∧ w.level ≤ 3 ∧ s.readyClip 5 = some (clip 64 .ready) ∧
    chooseVoice s.snd.voices 3 = some 0 ∧ s.snd.startCounter + 1 < 2 ^ 48 ∧ 0 < (clip 64 .ready).length ∧
    5 ≤ 5 ∧ (s.voice 5).state ≠ .idle := by decide +kernel

theorem witness_NoticeRecorded : State.reset.ntu.sources.length = 12 ∧
    (State.reset.source (Notice.badCrc).source).level = 0 ∧ 0 < (State.reset.source (Notice.estop .seatFault).source).level := by
  decide +kernel

/-- Keys 2 and 12, levels 0 and 7; bases 1 and 15, masks 0 and 7, and their refused neighbours; a source to hand over. -/
theorem witness_NoticeRequests :
    noticed.listening ∧ noticed.ntu.sources.length = 12 ∧ 2 ≤ 2 ∧ 12 ≤ 12 ∧ 7 ≤ 7 ∧ 1 % 2 = 1 ∧ 1 ≤ 1 ∧ 15 ≤ 15 ∧
    15 < 16 ∧ 7 < 8 ∧ (noticed.source 2).pending = true ∧
    (∀ j, j < 13 → 1 ≤ j → (noticed.source j).pending = true →
      (noticed.source j).level < (noticed.source 2).level ∨ ((noticed.source j).level = (noticed.source 2).level ∧ 2 ≤ j)) ∧
    (∀ j, j < 13 → 1 ≤ j → (State.reset.source j).pending = false) ∧ 0 % 2 = 0 ∧ 1 < 2 ∧ 12 < 13 ∧ 7 < 8 := by decide +kernel

/-- 08 R169: an AMEND SOURCE without a level changes nothing and answers the source as it stands; one with level 8 is refused. -/
theorem test_amend_source :
    let t := after (.amendSource 2 0 8) noticed
    t.ntu = noticed.ntu ∧ t.port.held.map (·.status) = some .ok ∧
    (after (.amendSource 2 1 8) noticed).port.held.map (·.status) = some .badField := by decide +kernel

/-- A record of each class present, at the boundary keys of the fixed classes. -/
theorem witness_GetRequests :
    let s := withLine 11 ⟨5, 1, true, 200, 300, 3, .on, 200⟩ (withCue 5 (plainCue .armed) (withClip 5 (clip 64 .ready) authorised))
    s.listening ∧ (Table.get s.pos.segments 20).isSome = true ∧ s.pos.authority = some ⟨22, 4500⟩ ∧ 7 ≤ 7 ∧
    Table.get s.cue.cues 5 = some (plainCue .armed) ∧ Table.get s.flp.clips 5 = some (clip 64 .ready) ∧ 1 ≤ 12 ∧ 5 ≤ 5 ∧
    s.cue.lines[11]? = some (some ⟨5, 1, true, 200, 300, 3, .on, 200⟩) ∧ s.cue.lines[0]? = some none ∧
    s.cue.turntable = none ∧ (s.setCue { s.cue with turntable := some ⟨5, 1⟩ }).cue.turntable = some ⟨5, 1⟩ := by
  decide +kernel

theorem witness_ListRequests :
    (withCue 5 (plainCue .armed) (withClip 5 (clip 64 .ready) authorised)).listening := by decide +kernel

end Sys2Proof.Tests
end

section
/-! SUPPORT. The frame of every command: which units it may change. `SameBut` composes, so one lemma per operation says what
the operation leaves, and `exec_sameBut` says it of every command that is no reset. -/

namespace Sys2Proof.Machine

/-! ### The frame relation -/

/-- A statement about every unit, unit by unit. -/
theorem Block.forall_iff {p : Block → Prop} : (∀ b, p b) ↔
    p .settings ∧ p .pos ∧ p .gdu ∧ p .msv ∧ p .rsm ∧ p .cue ∧ p .flp ∧ p .snd ∧ p .ntu ∧ p .port ∧ p .lines ∧ p .free :=
  ⟨fun h => ⟨h _, h _, h _, h _, h _, h _, h _, h _, h _, h _, h _, h _⟩,
    fun ⟨h1, h2, h3, h4, h5, h6, h7, h8, h9, h10, h11, h12⟩ b => by cases b <;> assumption⟩

theorem Block.same_refl (s : State) (b : Block) : b.same s s := by cases b <;> rfl

theorem Block.same_trans {s t u : State} {b : Block} (h : b.same s t) (h' : b.same t u) : b.same s u := by
  cases b <;> exact h'.trans h

/-- The frame, written out. -/
theorem sameBut_iff (bs : List Block) (s t : State) : SameBut bs s t ↔
    t.now = s.now ∧ t.inReset = s.inReset ∧ t.pending = s.pending ∧ (.settings ∉ bs → t.settings = s.settings) ∧
    (.pos ∉ bs → t.pos = s.pos) ∧ (.gdu ∉ bs → t.gdu = s.gdu) ∧ (.msv ∉ bs → t.msv = s.msv) ∧
    (.rsm ∉ bs → t.rsm = s.rsm) ∧ (.cue ∉ bs → t.cue = s.cue) ∧ (.flp ∉ bs → t.flp = s.flp) ∧
    (.snd ∉ bs → t.snd = s.snd) ∧ (.ntu ∉ bs → t.ntu = s.ntu) ∧ (.port ∉ bs → t.port = s.port) ∧
    (.lines ∉ bs → t.lines = s.lines) ∧ (.free ∉ bs → t.free = s.free) := by
  simp only [SameBut, Block.forall_iff, Block.same]

theorem SameBut.refl (bs : List Block) (s : State) : SameBut bs s s := ⟨rfl, rfl, rfl, fun b _ => b.same_refl s⟩

theorem SameBut.trans {bs : List Block} {s t u : State} (h : SameBut bs s t) (h' : SameBut bs t u) : SameBut bs s u :=
  ⟨h'.1.trans h.1, h'.2.1.trans h.2.1, h'.2.2.1.trans h.2.2.1,
    fun b hb => Block.same_trans (h.2.2.2 b hb) (h'.2.2.2 b hb)⟩

theorem SameBut.mono {bs cs : List Block} {s t : State} (h : SameBut bs s t) (hs : bs ⊆ cs := by decide) :
    SameBut cs s t :=
  ⟨h.1, h.2.1, h.2.2.1, fun b hb => h.2.2.2 b fun hb' => hb (hs hb')⟩

/-- The frames of two operations, one after the other. -/
theorem SameBut.andThen {bs cs ds : List Block} {s t u : State} (h : SameBut bs s t) (h' : SameBut cs t u)
    (hs : bs ⊆ ds := by decide) (hs' : cs ⊆ ds := by decide) : SameBut ds s u := (h.mono hs).trans (h'.mono hs')

/-- The frames of operations in a row. -/
theorem SameBut.append {bs cs : List Block} {s t u : State} (h : SameBut bs s t) (h' : SameBut cs t u) :
    SameBut (bs ++ cs) s u := (h.mono (by simp)).trans (h'.mono (by simp))

/-- One unit of a frame. -/
theorem SameBut.same {bs : List Block} {s t : State} (h : SameBut bs s t) (b : Block) (hb : b ∉ bs := by decide) :
    b.same s t := h.2.2.2 b hb

theorem SameBut.pos {bs : List Block} {s t : State} (h : SameBut bs s t) (hb : .pos ∉ bs := by decide) :
    t.pos = s.pos := h.same .pos hb

theorem SameBut.settings {bs : List Block} {s t : State} (h : SameBut bs s t) (hb : .settings ∉ bs := by decide) :
    t.settings = s.settings := h.same .settings hb

theorem SameBut.gdu {bs : List Block} {s t : State} (h : SameBut bs s t) (hb : .gdu ∉ bs := by decide) :
    t.gdu = s.gdu := h.same .gdu hb

theorem SameBut.msv {bs : List Block} {s t : State} (h : SameBut bs s t) (hb : .msv ∉ bs := by decide) :
    t.msv = s.msv := h.same .msv hb

theorem SameBut.ntu {bs : List Block} {s t : State} (h : SameBut bs s t) (hb : .ntu ∉ bs := by decide) :
    t.ntu = s.ntu := h.same .ntu hb

theorem SameBut.port {bs : List Block} {s t : State} (h : SameBut bs s t) (hb : .port ∉ bs := by decide) :
    t.port = s.port := h.same .port hb

/-! ### Shared operations -/

variable (s : State)

theorem State.raise_sameBut (n : Notice) : SameBut [.ntu] s (s.raise n) := by simp [sameBut_iff]

theorem State.setVoice_sameBut (i : Nat) (v : Voice) : SameBut [.snd] s (s.setVoice i v) := by simp [sameBut_iff]

theorem State.endVoice_sameBut (i : Nat) : SameBut [.flp, .snd, .ntu] s (s.endVoice i) := by simp [sameBut_iff]

theorem State.placeRefill_sameBut (i : Nat) : SameBut [.snd] s (s.placeRefill i) := by simp [sameBut_iff]

theorem State.claimVoice_sameBut {q : Claim} {s t : State} {i : Nat} (h : s.claimVoice q = some (t, i)) :
    SameBut [.flp, .snd, .ntu, .free] s t := by
  simp [sameBut_iff, State.claimVoice_now h, State.claimVoice_inReset h, State.claimVoice_pending h,
    State.claimVoice_settings h, State.claimVoice_pos h, State.claimVoice_gdu h, State.claimVoice_msv h,
    State.claimVoice_rsm h, State.claimVoice_cue h, State.claimVoice_port h, State.claimVoice_lines h]

theorem State.addReason_sameBut (r : StopReason) : SameBut [.msv, .cue, .flp, .snd, .ntu, .free] s (s.addReason r) := by
  simp [sameBut_iff]

theorem State.hearFrame_sameBut : SameBut [.port, .msv] s s.hearFrame := by simp [sameBut_iff]

theorem State.respond_sameBut (k j : Nat) (st : Status) (c e : Bool) (p : List Byte) :
    SameBut [.port] s (s.respond k j st c e p) := by simp [sameBut_iff]

theorem State.overrunFrame_sameBut : SameBut [.port, .ntu] s s.overrunFrame := by simp [sameBut_iff]

/-- What each step leaves, all leave. -/
theorem eachId_sameBut {bs : List Block} {f : Nat → State → State} (h : ∀ i s, SameBut bs s (f i s)) (ids : List Nat)
    (s : State) : SameBut bs s (eachId f ids s) := by
  unfold eachId
  induction ids generalizing s with
  | nil => exact .refl _ _
  | cons i ids ih => exact (h i s).trans (ih _)

theorem State.evaluate_sameBut (moved : Bool) :
    SameBut [.gdu, .msv, .cue, .flp, .snd, .ntu, .free] s (s.evaluate moved) := by simp [sameBut_iff]

/-! ### Answers, requests and events -/

/-- A taken request leaves a state with `p`; a refused one leaves none. -/
def Answer.Leaves (p : State → Prop) : Answer → Prop
  | .refuse _ _ => True
  | .take t _ _ _ => p t

@[simp] theorem leaves_refuse (p : State → Prop) (st : Status) (b : List Byte) : (Answer.refuse st b).Leaves p := trivial
@[simp] theorem leaves_deny (p : State → Prop) (st : Status) : (deny st).Leaves p := trivial
@[simp] theorem leaves_take (p : State → Prop) (t : State) (st : Status) (c : Bool) (b : List Byte) :
    (Answer.take t st c b).Leaves p ↔ p t := Iff.rfl
@[simp] theorem leaves_ok (p : State → Prop) (t : State) (b : List Byte) : (ok t b).Leaves p ↔ p t := Iff.rfl

/-- A request changes the port, MSV and NTU, and what its answer changes (09 R173, R175, R176). -/
theorem request_sameBut {bs : List Block} {kind key : Nat} {act : State → Answer}
    (h : ∀ u, (act u).Leaves (SameBut bs u)) (s : State) :
    SameBut (.port :: .msv :: .ntu :: bs) s (request kind key act s) := by
  have hear : SameBut (.port :: .msv :: .ntu :: bs) s s.hearFrame := s.hearFrame_sameBut.mono (by simp)
  obtain ⟨-, e⟩ | ⟨-, -, e⟩ | ⟨-, -, st, p, -, e⟩ | ⟨-, -, t, st, c, p, ha, e⟩ := request_cases s kind key act
  · rw [e]; exact .refl _ _
  · exact e ▸ s.overrunFrame_sameBut.mono (by simp)
  · exact e ▸ hear.trans ((State.respond_sameBut _ _ _ _ _ _ _).mono (by simp))
  · have ht : SameBut bs s.hearFrame t := by simpa [ha] using h s.hearFrame
    exact e ▸ hear.trans ((ht.mono fun b hb => by simp [hb]).trans
      ((State.respond_sameBut _ _ _ _ _ _ _).mono (by simp)))

/-- An event changes what its meaning changes. -/
theorem event_sameBut {bs : List Block} {f : State → State} (h : ∀ u, SameBut bs u (f u)) (s : State) :
    SameBut bs s (event f s) := by
  obtain ⟨-, e⟩ | ⟨-, e⟩ := event_cases s f
  · rw [e]; exact .refl _ _
  · exact e ▸ h s

/-- The completion of a flash unit changes FLP, and what its meaning changes. -/
theorem completion_sameBut {bs : List Block} {mine : Work → Bool} {f : Work → State → State} {s t : State}
    (h : ∀ w u, SameBut (.flp :: bs) u (f w u)) (ht : completion mine f s = .next t) : SameBut (.flp :: bs) s t := by
  unfold completion notDue at ht
  split at ht
  · cases ht; exact .refl _ _
  · split at ht
    · cases ht; exact .refl _ _
    · split at ht
      · split at ht
        · cases ht
          have free : SameBut (.flp :: bs) s s.freePort := by simp [sameBut_iff, State.freePort]
          exact free.trans (h _ _)
        · cases ht
      · cases ht; exact .refl _ _

end Sys2Proof.Machine
end

section
/-! SUPPORT. The frame of each unit's operations and requests. -/

namespace Sys2Proof.Machine

variable (s : State)

/-! ### Position (01) -/

theorem State.dropAuthority_sameBut : SameBut [.pos] s s.dropAuthority := by simp [sameBut_iff, State.dropAuthority]

theorem State.checkPoint_sameBut : SameBut [.pos, .msv, .cue, .flp, .snd, .ntu, .free] s s.checkPoint := by
  unfold State.checkPoint
  split
  · exact .refl _ _
  · split
    · exact s.dropAuthority_sameBut.andThen (State.addReason_sameBut _ _)
    · exact .refl _ _

theorem State.missCheck_sameBut (a : Nat) (g : Segment) (leaving : Bool) :
    SameBut [.pos, .msv, .cue, .flp, .snd, .ntu, .free] s (s.missCheck a g leaving) := by
  unfold State.missCheck
  split
  · exact .refl _ _
  · split
    · dsimp only
      split <;> simp [sameBut_iff]
    · exact .refl _ _

theorem State.transition_sameBut (a : Nat) (g : Segment) (b : Nat) :
    SameBut [.pos, .msv, .cue, .flp, .snd, .ntu, .free] s (s.transition a g b) := by
  have left := State.missCheck_sameBut (s.setPos { s.pos with s := s.pos.s - g.length }) a g true
  have moved (t : State) (p : Pos) : SameBut [.pos, .msv, .cue, .flp, .snd, .ntu, .free] t (t.setPos p) := by
    simp [sameBut_iff]
  exact (moved s _).trans (left.trans ((moved _ _).trans (State.checkPoint_sameBut _)))

theorem State.clampEnd_sameBut (a : Nat) (g : Segment) :
    SameBut [.pos, .msv, .cue, .flp, .snd, .ntu, .free] s (s.clampEnd a g) := by
  have left := State.missCheck_sameBut (s.setPos { s.pos with s := g.length - 1, residue := 0 }) a g true
  have stood : SameBut [.pos] s (s.setPos { s.pos with s := g.length - 1, residue := 0 }) := by simp [sameBut_iff]
  exact (((stood.append left).append (State.addReason_sameBut _ _)).append (State.raise_sameBut _ _)).mono

theorem advance_sameBut (fuel : Nat) (moved : Bool) (s : State) :
    SameBut [.pos, .msv, .cue, .flp, .snd, .ntu, .free] s (advance fuel moved s).state := by
  induction fuel generalizing moved s with
  | zero => exact .refl _ _
  | succ fuel ih =>
    unfold advance
    split
    · exact .refl _ _
    · split
      · exact .refl _ _
      · split
        · exact (s.transition_sameBut _ _ _).trans (ih _ _)
        · exact s.clampEnd_sameBut _ _

theorem State.stepCheck_sameBut : SameBut [.pos, .msv, .cue, .flp, .snd, .ntu, .free] s s.stepCheck := by
  unfold State.stepCheck
  split
  · exact .refl _ _
  · exact s.missCheck_sameBut _ _ _

theorem State.takeResidue_sameBut : SameBut [.pos] s s.takeResidue := by simp [sameBut_iff, State.takeResidue]

theorem State.positionStep_sameBut :
    SameBut [.pos, .gdu, .msv, .cue, .flp, .snd, .ntu, .free] s s.positionStep.1 := by
  unfold State.positionStep
  split
  · exact .refl _ _
  · have point := s.takeResidue_sameBut.append s.takeResidue.checkPoint_sameBut
    have stepped (n : Nat) := (point.append (advance_sameBut n false _)).append (State.stepCheck_sameBut _)
    exact ((stepped _).append (State.evaluate_sameBut _ _)).mono

theorem odometerPulse_sameBut (forward : Bool) : SameBut [.pos] s (odometerPulse forward s) := by
  unfold odometerPulse
  split
  · exact .refl _ _
  · split <;> simp [sameBut_iff]

theorem State.correct_sameBut (offset : Nat) :
    SameBut [.pos, .gdu, .msv, .cue, .flp, .snd, .ntu, .free] s (s.correct offset) := by
  have stood (p : Pos) : SameBut [.pos] s (s.setPos p) := by simp [sameBut_iff]
  exact (((stood _).append (State.checkPoint_sameBut _)).append (State.evaluate_sameBut _ _)).mono

theorem State.mismatch_sameBut (a code : Nat) :
    SameBut [.msv, .cue, .flp, .snd, .ntu, .free] s (s.mismatch a code) :=
  (s.addReason_sameBut _).andThen (State.raise_sameBut _ _)

theorem markerRead_sameBut (code : Nat) :
    SameBut [.pos, .gdu, .msv, .cue, .flp, .snd, .ntu, .free] s (markerRead code s) := by
  unfold markerRead
  split
  · exact .refl _ _
  · split
    · exact .refl _ _
    · split
      · exact (s.mismatch_sameBut _ _).mono
      · split
        · exact .refl _ _
        · split
          · exact s.correct_sameBut _
          · exact (s.mismatch_sameBut _ _).mono

theorem State.takeSegment_frame (key : Nat) (w : SegmentWire) : (s.takeSegment key w).Leaves (SameBut [.pos] s) := by
  unfold State.takeSegment
  split <;> simp [sameBut_iff, State.storeSegment]

theorem putSegment_frame (key : Nat) (w : SegmentWire) : (putSegment key w s).Leaves (SameBut [.pos] s) := by
  unfold putSegment
  split
  · simp
  · split
    · simp
    · exact s.takeSegment_frame key w

theorem amendSegment_frame (key presence : Nat) (w : SegmentWire) :
    (amendSegment key presence w s).Leaves (SameBut [.pos] s) := by
  unfold amendSegment
  split
  · simp
  · split
    · simp
    · split
      · simp
      · split
        · exact .refl _ _
        · exact s.takeSegment_frame key _

theorem retireSegment_frame (key : Nat) : (retireSegment key s).Leaves (SameBut [.pos] s) := by
  unfold retireSegment
  repeat' split
  all_goals simp [sameBut_iff]

theorem getSegment_frame (key : Nat) : (getSegment key s).Leaves (SameBut [] s) := by
  unfold getSegment
  repeat' split
  all_goals simp [SameBut.refl]

theorem State.overrunCheck_sameBut : SameBut [.msv, .cue, .flp, .snd, .ntu, .free] s s.overrunCheck := by
  unfold State.overrunCheck
  split
  · exact s.addReason_sameBut _
  · exact .refl _ _

theorem State.grantAuthority_sameBut (u : Authority) (path : List Nat) :
    SameBut [.pos, .msv, .cue, .flp, .snd, .ntu, .free] s (s.grantAuthority u path) := by
  have stored : SameBut [.pos] s (s.storeAuthority u path) := by simp [sameBut_iff, State.storeAuthority]
  have checked := stored.append (State.overrunCheck_sameBut _)
  unfold State.grantAuthority
  dsimp only
  split
  · exact (checked.append (State.raise_sameBut _ _)).mono
  · exact checked.mono

theorem putAuthority_frame (key : Nat) (w : AuthorityWire) :
    (putAuthority key w s).Leaves (SameBut [.pos, .msv, .cue, .flp, .snd, .ntu, .free] s) := by
  unfold putAuthority
  dsimp only
  repeat' split
  all_goals simp [State.grantAuthority_sameBut]

theorem amendAuthority_frame (key presence : Nat) (w : AuthorityWire) :
    (amendAuthority key presence w s).Leaves (SameBut [.pos, .msv, .cue, .flp, .snd, .ntu, .free] s) := by
  unfold amendAuthority
  split
  · simp
  · split
    · split <;> simp [SameBut.refl]
    · exact putAuthority_frame s key _

theorem retireAuthority_frame (key : Nat) :
    (retireAuthority key s).Leaves (SameBut [.pos, .msv, .cue, .flp, .snd, .ntu, .free] s) := by
  unfold retireAuthority
  repeat' split
  · simp
  · simp
  · exact s.dropAuthority_sameBut.andThen (State.overrunCheck_sameBut _)

theorem getAuthority_frame (key : Nat) : (getAuthority key s).Leaves (SameBut [] s) := by
  unfold getAuthority
  repeat' split
  all_goals simp [SameBut.refl]

theorem listAuthority_frame (key : Nat) : (listAuthority key s).Leaves (SameBut [] s) := by
  unfold listAuthority
  split <;> simp [SameBut.refl]

theorem State.placeAt_sameBut (g position : Nat) :
    SameBut [.pos, .gdu, .msv, .cue, .flp, .snd, .ntu, .free] s (s.placeAt g position) := by
  simp [sameBut_iff, State.placeAt]

theorem placeVehicle_frame (segment position : Nat) :
    (placeVehicle segment position s).Leaves (SameBut [.pos, .gdu, .msv, .cue, .flp, .snd, .ntu, .free] s) := by
  unfold placeVehicle
  repeat' split
  all_goals simp [State.placeAt_sameBut]

/-! ### Guidance and speed (02, 04) -/

theorem guideWord_sameBut (word : Option GuideWord) : SameBut [.gdu] s (guideWord word s) := by
  unfold guideWord
  split <;> simp [sameBut_iff]

theorem State.judgeGuide_sameBut : SameBut [.gdu, .msv, .cue, .flp, .snd, .ntu, .free] s s.judgeGuide := by
  unfold State.judgeGuide
  generalize (if s.guideValid then 0 else min 3 (s.gdu.invalid + 1)) = n
  dsimp only
  split <;> simp [sameBut_iff]

theorem State.superviseYaw_sameBut (encoder : Int) :
    SameBut [.gdu, .msv, .cue, .flp, .snd, .ntu, .lines, .free] s (s.superviseYaw encoder) := by
  unfold State.superviseYaw
  dsimp only
  repeat' split
  all_goals simp [sameBut_iff]

theorem State.guide_sameBut (encoder : Int) :
    SameBut [.gdu, .msv, .cue, .flp, .snd, .ntu, .lines, .free] s (s.guide encoder) := by
  have steered (t : State) (e : Int) : SameBut [.gdu, .lines] t (t.steer e) := by simp [sameBut_iff, State.steer]
  have turned (t : State) : SameBut [.gdu, .lines] t t.moveTurntable := by simp [sameBut_iff, State.moveTurntable]
  have moved := (s.judgeGuide_sameBut.append (steered _ s.guideOffset)).append (turned _)
  exact (moved.append (State.superviseYaw_sameBut _ encoder)).mono

theorem State.overspeedCheck_sameBut : SameBut [.msv, .cue, .flp, .snd, .ntu, .free] s s.overspeedCheck := by
  unfold State.overspeedCheck
  repeat' split
  all_goals simp [sameBut_iff]

theorem State.heldTest_sameBut : SameBut [.msv, .ntu] s s.heldTest := by
  unfold State.heldTest
  repeat' split
  all_goals simp [sameBut_iff]

theorem State.restStep_sameBut : SameBut [.msv, .ntu] s s.restStep := by
  unfold State.restStep
  repeat' split
  all_goals simp [sameBut_iff]

theorem State.speedStage_sameBut (ds : Int) : SameBut [.msv, .cue, .flp, .snd, .ntu, .free] s (s.speedStage ds) := by
  have windowed : SameBut [.msv] s (s.windowStep ds) := by simp [sameBut_iff, State.windowStep]
  have ramped (t : State) : SameBut [.msv] t t.ramp := by simp [sameBut_iff, State.ramp]
  have checked := (windowed.append (State.overspeedCheck_sameBut _)).append (State.overrunCheck_sameBut _)
  exact (((checked.append (ramped _)).append (State.heldTest_sameBut _)).append (State.restStep_sameBut _)).mono

theorem State.readLoad_sameBut (current : Nat) : SameBut [.snd] s (s.readLoad current) := by
  unfold State.readLoad
  repeat' split
  all_goals simp [sameBut_iff]

theorem guidanceSample_sameBut (encoder : Int) (current : Nat) :
    SameBut [.pos, .gdu, .msv, .cue, .flp, .snd, .ntu, .lines, .free] s (guidanceSample encoder current s) := by
  have guided := s.positionStep_sameBut.append (State.guide_sameBut _ encoder)
  exact ((guided.append (State.speedStage_sameBut _ _)).append (State.readLoad_sameBut _ current)).mono

theorem hostYaw_frame (target : Int) : (hostYaw target s).Leaves (SameBut [.gdu, .cue] s) := by
  unfold hostYaw
  split <;> simp [sameBut_iff]

/-! ### Motion (04) -/

theorem enableVehicle_frame : (enableVehicle s).Leaves (SameBut [.msv, .cue, .flp, .snd, .ntu, .free] s) := by
  unfold enableVehicle
  split
  · simp
  · simp only [leaves_ok]
    split <;> simp [sameBut_iff]

theorem State.withdrawPermit_sameBut : SameBut [.rsm, .ntu] s s.withdrawPermit := by
  unfold State.withdrawPermit
  split <;> simp [sameBut_iff]

theorem parkVehicle_frame : (parkVehicle s).Leaves (SameBut [.gdu, .msv, .rsm, .ntu] s) := by
  unfold parkVehicle
  split
  · simp only [leaves_ok]
    refine SameBut.trans ?_ ((State.withdrawPermit_sameBut _).mono)
    simp [sameBut_iff]
  · simp

theorem startVehicle_frame : (startVehicle s).Leaves (SameBut [.msv, .rsm, .ntu] s) := by
  unfold startVehicle
  repeat' split
  · simp
  · simp
  · simp
  · simp
  · simp only [leaves_ok]
    refine SameBut.trans ?_ ((State.withdrawPermit_sameBut _).mono)
    simp [sameBut_iff]

theorem stopVehicle_frame : (stopVehicle s).Leaves (SameBut [.msv, .cue, .flp, .snd, .ntu, .free] s) := by
  unfold stopVehicle
  split <;> simp [State.addReason_sameBut]

theorem estopVehicle_frame : (estopVehicle s).Leaves (SameBut [.msv, .cue, .flp, .snd, .ntu, .free] s) :=
  s.addReason_sameBut _

theorem resumeVehicle_frame : (resumeVehicle s).Leaves (SameBut [.msv] s) := by
  unfold resumeVehicle
  dsimp only
  repeat' split
  all_goals simp [sameBut_iff]

theorem skipDwell_frame : (skipDwell s).Leaves (SameBut [.msv] s) := by
  unfold skipDwell
  split <;> simp [sameBut_iff]

theorem estopInputCheck_sameBut (high : Bool) :
    SameBut [.msv, .cue, .flp, .snd, .ntu, .free] s (estopInputCheck high s) := by
  unfold estopInputCheck
  dsimp only
  split <;> simp [sameBut_iff]

theorem linkExpiry_sameBut : SameBut [.msv, .cue, .flp, .snd, .ntu, .free] s (linkExpiry s) := by
  unfold linkExpiry notDue
  dsimp only
  repeat' split
  all_goals simp [sameBut_iff]

theorem supplyReading_sameBut (count : Nat) : SameBut [.msv, .snd, .ntu] s (supplyReading count s) := by
  unfold supplyReading
  repeat' split
  all_goals simp [sameBut_iff]

theorem dwellExpiry_sameBut : SameBut [.msv, .ntu] s (dwellExpiry s) := by
  unfold dwellExpiry notDue
  repeat' split
  all_goals simp [sameBut_iff]

/-! ### Seats (03) -/

theorem State.setSeatState_sameBut (i : Nat) (st : SeatState) : SameBut [.rsm] s (s.setSeatState i st) := by
  simp [sameBut_iff, State.setSeatState]

theorem State.sampleSeat_sameBut (i : Nat) (r : SeatReading) :
    SameBut [.rsm, .msv, .cue, .flp, .snd, .ntu, .free] s (s.sampleSeat i r) := by
  have set (st : SeatState) := s.setSeatState_sameBut i st
  unfold State.sampleSeat
  dsimp only
  split
  · exact (set _).mono
  · split
    · exact (((set _).append (State.addReason_sameBut _ _)).append (State.raise_sameBut _ _)).mono
    · exact (set _).andThen (State.raise_sameBut _ _)

theorem State.sampleSeats_sameBut (i : Nat) (rs : List SeatReading) (s : State) :
    SameBut [.rsm, .msv, .cue, .flp, .snd, .ntu, .free] s (State.sampleSeats i rs s) := by
  induction rs generalizing i s with
  | nil => exact .refl _ _
  | cons r rs ih => exact (s.sampleSeat_sameBut i r).trans (ih _ _)

theorem raiseEach_sameBut {α : Type} (f : α → Notice) (l : List α) (s : State) :
    SameBut [.ntu] s (l.foldl (fun u i => u.raise (f i)) s) := by
  induction l generalizing s with
  | nil => exact .refl _ _
  | cons i l ih => exact (s.raise_sameBut _).trans (ih _)

theorem State.fireRelease_sameBut (mask : Nat) : SameBut [.rsm, .ntu] s (s.fireRelease mask) := by
  have released : SameBut [.rsm] s ((s.releaseSeats mask).setRsm { (s.releaseSeats mask).rsm with permit := none }) := by
    simp [sameBut_iff, State.releaseSeats]
  exact ((released.append (raiseEach_sameBut _ _ _)).append (State.raise_sameBut _ _)).mono

theorem State.completeHold_sameBut : SameBut [.rsm, .ntu] s s.completeHold := by
  have held : SameBut [.rsm] s (s.setRsm { s.rsm with hold := .held }) := by simp [sameBut_iff]
  unfold State.completeHold
  dsimp only
  split
  · split
    · exact held.andThen (State.fireRelease_sameBut _ _)
    · exact held.andThen (State.raise_sameBut _ _)
  · exact held.andThen (State.raise_sameBut _ _)

theorem State.updateHold_sameBut (closed : Bool) : SameBut [.rsm, .ntu] s (s.updateHold closed) := by
  unfold State.updateHold
  split
  · split
    · simp [sameBut_iff]
    · split
      · exact s.completeHold_sameBut
      · exact .refl _ _
    · exact .refl _ _
  · simp [sameBut_iff]

theorem State.takeLevels_sameBut (v : SeatLevels) :
    SameBut [.rsm, .msv, .cue, .flp, .snd, .ntu, .free] s (s.takeLevels v) := by
  have sampled : SameBut [.rsm] s (s.setRsm { s.rsm with sampled := v }) := by simp [sameBut_iff]
  exact ((sampled.append (State.sampleSeats_sameBut _ _ _)).append (State.updateHold_sameBut _ _)).mono

theorem holdComplete_sameBut : SameBut [.rsm, .msv, .cue, .flp, .snd, .ntu, .free] s (holdComplete s) := by
  unfold holdComplete notDue
  repeat' split
  all_goals simp [State.takeLevels_sameBut, SameBut.refl]

theorem permitExpiry_sameBut : SameBut [.rsm, .ntu] s (permitExpiry s) := by
  unfold permitExpiry notDue
  repeat' split
  all_goals simp [sameBut_iff]

theorem releasePulseEnd_sameBut (i : Nat) : SameBut [.rsm, .ntu] s (releasePulseEnd i s) := by
  unfold releasePulseEnd notDue
  repeat' split
  · exact (s.setSeatState_sameBut _ _).andThen (State.raise_sameBut _ _)
  · exact .refl _ _
  · exact .refl _ _

theorem State.takeSeat_frame (i : Nat) (t : Seat) : (s.takeSeat i t).Leaves (SameBut [.rsm] s) := by
  simp [State.takeSeat, sameBut_iff, State.setSeat]

theorem putSeat_frame (key : Nat) (w : SeatWire) : (putSeat key w s).Leaves (SameBut [.rsm] s) := by
  unfold putSeat
  repeat' split
  all_goals simp [State.takeSeat_frame]

theorem amendSeat_frame (key presence : Nat) (w : SeatWire) : (amendSeat key presence w s).Leaves (SameBut [.rsm] s) := by
  unfold amendSeat
  dsimp only
  repeat' split
  all_goals simp [State.takeSeat_frame, SameBut.refl]

theorem getSeat_frame (key : Nat) : (getSeat key s).Leaves (SameBut [] s) := by
  unfold getSeat
  split <;> simp [SameBut.refl]

theorem seatClear_frame (key : Nat) : (seatClear key s).Leaves (SameBut [.rsm] s) := by
  unfold seatClear
  repeat' split
  all_goals simp [State.setSeatState_sameBut]

theorem releasePermit_frame (mask : Nat) : (releasePermit mask s).Leaves (SameBut [.rsm] s) := by
  unfold releasePermit
  repeat' split
  all_goals simp [sameBut_iff]

theorem releaseImmediate_frame (mask : Nat) : (releaseImmediate mask s).Leaves (SameBut [.rsm] s) := by
  unfold releaseImmediate
  repeat' split
  all_goals simp [sameBut_iff, State.releaseSeats]

/-! ### Cues and effects (05) -/

theorem putCue_frame (key : Nat) (w : CueWire) : (putCue key w s).Leaves (SameBut [.cue] s) := by
  unfold putCue
  dsimp only
  repeat' split
  all_goals simp [sameBut_iff, State.releaseCue]

theorem amendCue_frame (key presence : Nat) (w : CueWire) : (amendCue key presence w s).Leaves (SameBut [.cue] s) := by
  unfold amendCue
  dsimp only
  repeat' split
  all_goals simp [sameBut_iff]

theorem retireCue_frame (key : Nat) (force : Bool) : (retireCue key force s).Leaves (SameBut [.cue, .snd] s) := by
  unfold retireCue
  repeat' split
  all_goals simp [sameBut_iff, State.releaseCue, State.dropCue]

theorem getCue_frame (key : Nat) : (getCue key s).Leaves (SameBut [] s) := by
  unfold getCue
  repeat' split
  all_goals simp [SameBut.refl]

theorem rearmCue_frame (key : Nat) : (rearmCue key s).Leaves (SameBut [.cue] s) := by
  unfold rearmCue
  repeat' split
  all_goals simp [sameBut_iff]

theorem rearmAllCues_frame : (rearmAllCues s).Leaves (SameBut [.cue] s) := by simp [rearmAllCues, sameBut_iff]

theorem disarmCue_frame (key : Nat) : (disarmCue key s).Leaves (SameBut [.cue] s) := by
  unfold disarmCue
  repeat' split
  all_goals simp [sameBut_iff]

theorem effectTick_sameBut : SameBut [.cue] s (effectTick s) := by simp [sameBut_iff, effectTick]

theorem effectPhaseEnd_sameBut (line : Nat) : SameBut [.cue] s (effectPhaseEnd line s) := by
  unfold effectPhaseEnd notDue
  repeat' split
  all_goals simp [sameBut_iff]

theorem beaconTxComplete_sameBut : SameBut [.cue] s (beaconTxComplete s) := by
  unfold beaconTxComplete notDue
  dsimp only
  repeat' split
  all_goals simp [sameBut_iff]

theorem State.freeBytes_sameBut (n : Nat) : SameBut [.free] s (s.freeBytes n).1 := by
  simp [sameBut_iff, State.freeBytes]

theorem getLine_frame (key : Nat) : (getLine key s).Leaves (SameBut [.free] s) := by
  unfold getLine
  dsimp only
  repeat' split
  all_goals simp [State.freeBytes_sameBut, SameBut.refl]

/-! ### Clips and flash (06) -/

theorem State.abandonVerify_sameBut (id : Nat) : SameBut [.flp] s (s.abandonVerify id) := by
  unfold State.abandonVerify
  split <;> simp [sameBut_iff]

theorem State.unqueue_sameBut (id : Nat) : SameBut [.flp] s (s.unqueue id) := by
  refine (s.abandonVerify_sameBut id).trans ?_
  simp [sameBut_iff, State.unqueue]

theorem State.queueClip_sameBut (id : Nat) (c : Clip) : SameBut [.flp] s (s.queueClip id c) := by
  refine (s.unqueue_sameBut id).trans ?_
  simp [sameBut_iff, State.queueClip]

theorem State.takeQueued_frame (id : Nat) (c : Clip) (clamped : Bool) :
    (s.takeQueued id c clamped).Leaves (SameBut [.flp] s) := s.queueClip_sameBut id c

theorem putClip_frame (key : Nat) (w : ClipWire) : (putClip key w s).Leaves (SameBut [.flp] s) := by
  unfold putClip
  repeat' split
  all_goals simp [State.takeQueued_frame]

theorem amendClip_frame (key presence : Nat) (w : ClipWire) : (amendClip key presence w s).Leaves (SameBut [.flp] s) := by
  unfold amendClip
  dsimp only
  repeat' split
  all_goals simp [State.takeQueued_frame, sameBut_iff]

theorem retireClip_frame (key : Nat) : (retireClip key s).Leaves (SameBut [.flp] s) := by
  unfold retireClip
  repeat' split
  · simp
  · simp
  · simp
  · refine (s.unqueue_sameBut key).trans ?_
    simp [sameBut_iff]

theorem getClip_frame (key : Nat) : (getClip key s).Leaves (SameBut [] s) := by
  unfold getClip
  repeat' split
  all_goals simp [SameBut.refl]

theorem flashGrant_sameBut : SameBut [.flp] s (flashGrant s) := by
  unfold flashGrant notDue
  repeat' split
  · exact .refl _ _
  · unfold State.grantMember State.beginVerify
    dsimp only
    repeat' split
    all_goals simp [sameBut_iff, State.grantUnit]
  · exact .refl _ _

theorem State.verifyBad_sameBut (id : Nat) (r : BadReason) : SameBut [.flp, .ntu] s (s.verifyBad id r) := by
  simp [sameBut_iff, State.verifyBad, State.setClipState]

theorem State.verifyDone_sameBut (size id : Nat) (v : Verify) : SameBut [.flp, .ntu] s (s.verifyDone size id v) := by
  unfold State.verifyDone
  repeat' split
  · simp [sameBut_iff]
  · simp [sameBut_iff, State.verifyReady, State.setClipState]
  · exact s.verifyBad_sameBut _ _

theorem verifyBurst_sameBut (w : Work) : SameBut [.flp, .ntu] s (verifyBurst w s) := by
  unfold verifyBurst State.verifyBytes
  dsimp only
  repeat' split
  all_goals simp [State.verifyBad_sameBut, State.verifyDone_sameBut, SameBut.refl]

theorem refillRead_sameBut (w : Work) : SameBut [.flp, .snd] s (refillRead w s) := by
  unfold refillRead State.deliver
  repeat' split
  · exact .refl _ _
  · exact (s.setVoice_sameBut _ _).andThen (State.placeRefill_sameBut _ _)
  · exact .refl _ _

theorem State.answerRead_sameBut (bs : Option (List Byte)) : SameBut [.flp, .port, .ntu] s (s.answerRead bs) := by
  unfold State.answerRead
  dsimp only
  repeat' split
  all_goals simp [sameBut_iff]

theorem flashReadDeadline_sameBut : SameBut [.flp, .port, .ntu] s (flashReadDeadline s) := by
  have free : SameBut [.flp] s s.freePort := by simp [sameBut_iff, State.freePort]
  unfold flashReadDeadline notDue
  repeat' split
  · exact .refl _ _
  · exact free.andThen (State.answerRead_sameBut _ _)
  · exact s.answerRead_sameBut _
  · exact .refl _ _

theorem State.stepDone_sameBut : SameBut [.flp, .ntu] s s.stepDone := by
  unfold State.stepDone
  dsimp only
  split <;> simp [sameBut_iff]

theorem State.unitTimeout_sameBut (w : Work) : SameBut [.flp, .port, .ntu, .free] s (s.unitTimeout w) := by
  have failed (a : Nat) : SameBut [.flp, .ntu, .free] s ((s.havocUnit w).stepTimeout a) := by
    unfold State.havocUnit State.stepTimeout
    split <;> simp [sameBut_iff]
  unfold State.unitTimeout
  split
  · exact (s.raise_sameBut _).mono
  · split
    · exact (s.verifyBad_sameBut _ _).mono
    · exact .refl _ _
  · exact .refl _ _
  · exact (s.answerRead_sameBut _).mono
  · exact (failed _).mono
  · exact (failed _).mono

theorem flashUnitTimeout_sameBut : SameBut [.flp, .port, .ntu, .free] s (flashUnitTimeout s) := by
  have free : SameBut [.flp] s s.freePort := by simp [sameBut_iff, State.freePort]
  unfold flashUnitTimeout notDue
  repeat' split
  · exact .refl _ _
  · exact free.andThen (State.unitTimeout_sameBut _ _)
  · exact .refl _ _

theorem flashRead_sameBut (key addr len : Nat) : SameBut [.port, .msv, .ntu, .flp] s (flashRead key addr len s) := by
  unfold flashRead
  dsimp only
  repeat' split
  all_goals simp [sameBut_iff]

theorem State.acceptOp_frame (op : HostOpKind) (first last total : Nat) (data : List Byte) :
    (s.acceptOp op first last total data).Leaves (SameBut [.flp] s) := by
  unfold State.acceptOp
  split <;> simp [sameBut_iff]

theorem flashProgram_frame (addr : Nat) (data : List Byte) : (flashProgram addr data s).Leaves (SameBut [.flp] s) := by
  unfold flashProgram
  split <;> simp [State.acceptOp_frame]

theorem flashErase_frame (addr sectors : Nat) : (flashErase addr sectors s).Leaves (SameBut [.flp] s) := by
  unfold flashErase
  split <;> simp [State.acceptOp_frame]

/-! ### Sound (07) -/

theorem State.playVoice_sameBut (i : Nat) : SameBut [.flp, .snd, .ntu] s (s.playVoice i) := by
  have set (v : Voice) := s.setVoice_sameBut i v
  unfold State.playVoice
  dsimp only
  repeat' split
  · exact (set _).andThen (State.endVoice_sameBut _ _)
  · exact (set _).mono
  · exact .refl _ _
  · exact (set _).andThen (State.raise_sameBut _ _)
  · exact .refl _ _
  · exact .refl _ _

theorem outputSample_sameBut : SameBut [.flp, .snd, .ntu, .lines] s (outputSample s) := by
  have written : SameBut [.snd, .lines] s s.writeBuses := by simp [sameBut_iff, State.writeBuses]
  have played := written.append (eachId_sameBut (fun i s => State.playVoice_sameBut s i) voiceIds s.writeBuses)
  exact (played.append (eachId_sameBut (fun i s => State.placeRefill_sameBut s i) voiceIds _)).mono

theorem State.fadeVoice_sameBut (i : Nat) : SameBut [.flp, .snd, .ntu] s (s.fadeVoice i) := by
  have set (v : Voice) := s.setVoice_sameBut i v
  unfold State.fadeVoice
  dsimp only
  repeat' split
  · exact (set _).andThen (State.endVoice_sameBut _ _)
  · exact (set _).mono
  · exact .refl _ _

theorem fadeMasterTick_sameBut : SameBut [.flp, .snd, .ntu] s (fadeMasterTick s) := by
  refine (eachId_sameBut (fun i s => State.fadeVoice_sameBut s i) voiceIds s).trans ?_
  unfold fadeMasterTick State.climbMaster
  split <;> simp [sameBut_iff]

theorem voiceFadeEnd_sameBut (i : Nat) : SameBut [.flp, .snd, .ntu] s (voiceFadeEnd i s) := by
  unfold voiceFadeEnd notDue
  split
  · exact s.endVoice_sameBut i
  · exact .refl _ _

theorem hostPlay_frame (w : PlayWire) : (hostPlay w s).Leaves (SameBut [.flp, .snd, .ntu, .free] s) := by
  unfold hostPlay
  repeat' split
  · simp
  · simp
  · simp
  · simp
  · rename_i h
    exact s.claimVoice_sameBut h

theorem hushVoice_frame (key : Nat) : (hushVoice key s).Leaves (SameBut [.snd] s) := by
  unfold hushVoice
  repeat' split
  all_goals simp [State.setVoice_sameBut]

theorem hushAll_frame : (hushAll s).Leaves (SameBut [.snd] s) := by simp [hushAll, sameBut_iff]

theorem hostMaster_frame (gain : Nat) : (hostMaster gain s).Leaves (SameBut [.settings, .snd] s) := by
  simp [hostMaster, sameBut_iff]

theorem getVoice_frame (key : Nat) : (getVoice key s).Leaves (SameBut [] s) := by
  unfold getVoice
  split <;> simp [SameBut.refl]

/-! ### Notices, settings and port (08, 09) -/

theorem State.takeSource_frame (key level : Nat) : (s.takeSource key level).Leaves (SameBut [.ntu] s) := by
  simp [State.takeSource, sameBut_iff, State.setSource]

theorem putSource_frame (key level : Nat) : (putSource key level s).Leaves (SameBut [.ntu] s) := by
  unfold putSource
  split <;> simp [State.takeSource_frame]

theorem amendSource_frame (key presence level : Nat) : (amendSource key presence level s).Leaves (SameBut [.ntu] s) := by
  unfold amendSource
  repeat' split
  all_goals simp [State.takeSource_frame, SameBut.refl]

theorem getSource_frame (key : Nat) : (getSource key s).Leaves (SameBut [] s) := by
  unfold getSource
  split <;> simp [SameBut.refl]

theorem noticeSetup_frame (base mask : Nat) : (noticeSetup base mask s).Leaves (SameBut [.ntu] s) := by
  unfold noticeSetup
  split <;> simp [sameBut_iff]

theorem noticeTake_frame : (noticeTake s).Leaves (SameBut [.ntu] s) := by
  unfold noticeTake
  split <;> simp [sameBut_iff, State.setSource]

theorem State.storeSettings_sameBut (t : Settings) : SameBut [.settings, .gdu, .msv, .snd] s (s.storeSettings t) := by
  unfold State.storeSettings State.sndSettings State.msvSettings State.gduSettings
  repeat' split
  all_goals simp [sameBut_iff]

theorem State.takeSettings_frame (ws : List Nat) :
    (s.takeSettings ws).Leaves (SameBut [.settings, .gdu, .msv, .snd] s) := by
  unfold State.takeSettings
  dsimp only
  repeat' split
  all_goals simp [State.storeSettings_sameBut]

theorem putSettings_frame (key : Nat) (ws : List Nat) :
    (putSettings key ws s).Leaves (SameBut [.settings, .gdu, .msv, .snd] s) := by
  unfold putSettings
  repeat' split
  all_goals simp [State.takeSettings_frame]

theorem amendSettings_frame (key presence : Nat) (ws : List Nat) :
    (amendSettings key presence ws s).Leaves (SameBut [.settings, .gdu, .msv, .snd] s) := by
  unfold amendSettings
  repeat' split
  all_goals simp [State.takeSettings_frame, SameBut.refl]

theorem getSettings_frame (key : Nat) : (getSettings key s).Leaves (SameBut [] s) := by
  unfold getSettings
  split <;> simp [SameBut.refl]

theorem fetchTransfer_sameBut (clocked : Nat) : SameBut [.port] s (fetchTransfer clocked s) := by
  unfold fetchTransfer
  dsimp only
  repeat' split
  all_goals simp [sameBut_iff]

theorem State.failFrame_sameBut (bs : List Byte) : SameBut [.port, .msv, .ntu] s (s.failFrame bs) := by
  unfold State.failFrame notDue
  split <;> simp [sameBut_iff, State.refuseFrame]

theorem frameCheckFailure_sameBut (bs : List Byte) : SameBut [.port, .msv, .ntu] s (frameCheckFailure bs s) := by
  unfold frameCheckFailure notDue
  repeat' split
  · exact .refl _ _
  · exact s.overrunFrame_sameBut.mono
  · exact s.failFrame_sameBut bs

theorem hostStatus_frame : (hostStatus s).Leaves (SameBut [.snd, .free] s) := by
  unfold hostStatus State.speedBytes
  dsimp only
  split <;> simp [sameBut_iff]

theorem softReset_frame :
    (softReset s).Leaves (SameBut [.pos, .gdu, .msv, .rsm, .cue, .flp, .snd, .ntu, .port] s) := by
  unfold softReset
  split <;> simp [sameBut_iff, State.softReset]

end Sys2Proof.Machine
end

section
/-! SUPPORT. The frame of every command. -/

namespace Sys2Proof

open Machine

/-- The units a command other than a reset may change; a request also answers at the port, is link activity in MSV and may
be an overrun at NTU. -/
def Instr.blocks : Instr → List Block
  | .guidanceSample _ _ => [.pos, .gdu, .msv, .cue, .flp, .snd, .ntu, .lines, .free]
  | .odometerPulse _ => [.pos]
  | .markerRead _ => [.pos, .gdu, .msv, .cue, .flp, .snd, .ntu, .free]
  | .guideWord _ => [.gdu]
  | .seatSample _ _ _ | .holdComplete => [.rsm, .msv, .cue, .flp, .snd, .ntu, .free]
  | .permitExpiry | .releasePulseEnd _ => [.rsm, .ntu]
  | .estopInputCheck _ | .linkExpiry => [.msv, .cue, .flp, .snd, .ntu, .free]
  | .supplyReading _ => [.msv, .snd, .ntu]
  | .dwellExpiry => [.msv, .ntu]
  | .effectTick | .effectPhaseEnd _ | .beaconTxComplete => [.cue]
  | .flashGrant => [.flp]
  | .verifyBurstComplete | .hostStepComplete => [.flp, .ntu]
  | .refillComplete => [.flp, .snd]
  | .flashReadComplete | .flashReadDeadline => [.flp, .port, .ntu]
  | .flashUnitTimeout => [.flp, .port, .ntu, .free]
  | .outputSample => [.flp, .snd, .ntu, .lines]
  | .fadeMasterTick | .voiceFadeEnd _ => [.flp, .snd, .ntu]
  | .powerReset _ | .pinReset _ => [.settings, .pos, .gdu, .msv, .rsm, .cue, .flp, .snd, .ntu, .port, .lines, .free]
  | .resetEnd => [.port, .msv]
  | .frameOverrun => [.port, .ntu]
  | .fetch _ => [.port]
  | .frameCheckFailure _ => [.port, .msv, .ntu]
  | .putSegment _ _ | .amendSegment _ _ _ | .retireSegment _ => [.port, .msv, .ntu, .pos]
  | .putAuthority _ _ | .amendAuthority _ _ _ | .retireAuthority _ =>
    [.port, .msv, .ntu, .pos, .msv, .cue, .flp, .snd, .ntu, .free]
  | .getSegment _ | .listSegment _ | .getAuthority _ | .listAuthority _ | .getSeat _ | .listSeat _ | .getCue _
  | .listCue _ | .getClip _ | .listClip _ | .getSource _ | .listSource _ | .getSettings _ | .listSettings _
  | .getVoice _ | .listVoice _ | .listLine _ => [.port, .msv, .ntu]
  | .getLine _ => [.port, .msv, .ntu, .free]
  | .putSeat _ _ | .amendSeat _ _ _ | .seatClear _ | .release _ _ | .releaseImmediate _ _ => [.port, .msv, .ntu, .rsm]
  | .putCue _ _ | .amendCue _ _ _ | .rearm _ | .rearmAll _ | .disarm _ => [.port, .msv, .ntu, .cue]
  | .retireCue _ | .retireCueForce _ => [.port, .msv, .ntu, .cue, .snd]
  | .putClip _ _ | .amendClip _ _ _ | .retireClip _ | .flashRead _ _ _ | .flashProgram _ _ _ | .flashErase _ _ _ =>
    [.port, .msv, .ntu, .flp]
  | .putSource _ _ | .amendSource _ _ _ | .noticeSetup _ _ _ | .noticeTake _ => [.port, .msv, .ntu, .ntu]
  | .putSettings _ _ | .amendSettings _ _ _ => [.port, .msv, .ntu, .settings, .gdu, .msv, .snd]
  | .enable _ | .stop _ | .estop _ => [.port, .msv, .ntu, .msv, .cue, .flp, .snd, .ntu, .free]
  | .park _ => [.port, .msv, .ntu, .gdu, .msv, .rsm, .ntu]
  | .start _ => [.port, .msv, .ntu, .msv, .rsm, .ntu]
  | .resume _ | .skipDwell _ => [.port, .msv, .ntu, .msv]
  | .place _ _ _ => [.port, .msv, .ntu, .pos, .gdu, .msv, .cue, .flp, .snd, .ntu, .free]
  | .yaw _ _ => [.port, .msv, .ntu, .gdu, .cue]
  | .play _ _ => [.port, .msv, .ntu, .flp, .snd, .ntu, .free]
  | .hush _ | .hushAll _ => [.port, .msv, .ntu, .snd]
  | .master _ _ => [.port, .msv, .ntu, .settings, .snd]
  | .status _ => [.port, .msv, .ntu, .snd, .free]
  | .softReset _ => [.port, .msv, .ntu, .pos, .gdu, .msv, .rsm, .cue, .flp, .snd, .ntu, .port]

/-- The commands that begin or end a POWER or PIN reset. -/
def Instr.isReset : Instr → Bool
  | .powerReset _ | .pinReset _ | .resetEnd => true
  | _ => false

end Sys2Proof

namespace Sys2Proof.Machine

/-- A result that goes on leaves a state with `p`. -/
def Result.Leaves (p : State → Prop) (r : Result) : Prop := ∀ t, r = .next t → p t

theorem next_leaves {p : State → Prop} {t : State} (h : p t) : Result.Leaves p (.next t) := by
  rintro u ⟨⟩
  exact h

/-- An answer that only reports leaves every unit as it was. -/
theorem ok_frame (s : State) (p : List Byte) : (ok s p).Leaves (SameBut [] s) := SameBut.refl [] s

/-- Every command that is no reset leaves the clock, the queue and every unit but its `blocks` as they were. -/
theorem exec_sameBut (c : Instr) (s : State) (hc : c.isReset = false) : Result.Leaves (SameBut c.blocks s) (exec c s) := by
  cases c
  case powerReset | pinReset | resetEnd => cases hc
  case guidanceSample => exact next_leaves (event_sameBut (fun u => guidanceSample_sameBut u _ _) s)
  case odometerPulse => exact next_leaves (event_sameBut (fun u => odometerPulse_sameBut u _) s)
  case markerRead => exact next_leaves (event_sameBut (fun u => markerRead_sameBut u _) s)
  case guideWord => exact next_leaves (event_sameBut (fun u => guideWord_sameBut u _) s)
  case seatSample => exact next_leaves (event_sameBut (fun u => u.takeLevels_sameBut _) s)
  case holdComplete => exact next_leaves (event_sameBut holdComplete_sameBut s)
  case permitExpiry => exact next_leaves (event_sameBut permitExpiry_sameBut s)
  case releasePulseEnd => exact next_leaves (event_sameBut (fun u => releasePulseEnd_sameBut u _) s)
  case estopInputCheck => exact next_leaves (event_sameBut (fun u => estopInputCheck_sameBut u _) s)
  case linkExpiry => exact next_leaves (event_sameBut linkExpiry_sameBut s)
  case supplyReading => exact next_leaves (event_sameBut (fun u => supplyReading_sameBut u _) s)
  case dwellExpiry => exact next_leaves (event_sameBut dwellExpiry_sameBut s)
  case effectTick => exact next_leaves (event_sameBut effectTick_sameBut s)
  case effectPhaseEnd => exact next_leaves (event_sameBut (fun u => effectPhaseEnd_sameBut u _) s)
  case beaconTxComplete => exact next_leaves (event_sameBut beaconTxComplete_sameBut s)
  case flashGrant => exact next_leaves (event_sameBut flashGrant_sameBut s)
  case verifyBurstComplete => exact fun t => completion_sameBut fun w u => verifyBurst_sameBut u w
  case refillComplete => exact fun t => completion_sameBut fun w u => refillRead_sameBut u w
  case flashReadComplete => exact fun t => completion_sameBut fun w u => u.answerRead_sameBut (some (u.unitBytes w))
  case hostStepComplete =>
    have written (w : Work) (u : State) : SameBut [.flp] u (u.setFlp { u.flp with flash := w.written u.flp.flash }) := by
      simp [sameBut_iff]
    exact fun t => completion_sameBut (bs := [.ntu]) fun w u => (written w u).andThen (State.stepDone_sameBut _)
  case flashReadDeadline => exact next_leaves (event_sameBut flashReadDeadline_sameBut s)
  case flashUnitTimeout => exact next_leaves (event_sameBut flashUnitTimeout_sameBut s)
  case outputSample => exact next_leaves (event_sameBut outputSample_sameBut s)
  case fadeMasterTick => exact next_leaves (event_sameBut fadeMasterTick_sameBut s)
  case voiceFadeEnd => exact next_leaves (event_sameBut (fun u => voiceFadeEnd_sameBut u _) s)
  case frameOverrun => exact next_leaves (event_sameBut State.overrunFrame_sameBut s)
  case fetch => exact next_leaves (event_sameBut (fun u => fetchTransfer_sameBut u _) s)
  case frameCheckFailure => exact next_leaves (event_sameBut (fun u => frameCheckFailure_sameBut u _) s)
  case putSegment => exact next_leaves (request_sameBut (fun u => putSegment_frame u _ _) s)
  case amendSegment => exact next_leaves (request_sameBut (fun u => amendSegment_frame u _ _ _) s)
  case retireSegment => exact next_leaves (request_sameBut (fun u => retireSegment_frame u _) s)
  case getSegment => exact next_leaves (request_sameBut (fun u => getSegment_frame u _) s)
  case putAuthority => exact next_leaves (request_sameBut (fun u => putAuthority_frame u _ _) s)
  case amendAuthority => exact next_leaves (request_sameBut (fun u => amendAuthority_frame u _ _ _) s)
  case retireAuthority => exact next_leaves (request_sameBut (fun u => retireAuthority_frame u _) s)
  case getAuthority => exact next_leaves (request_sameBut (fun u => getAuthority_frame u _) s)
  case listAuthority => exact next_leaves (request_sameBut (fun u => listAuthority_frame u _) s)
  case putSeat => exact next_leaves (request_sameBut (fun u => putSeat_frame u _ _) s)
  case amendSeat => exact next_leaves (request_sameBut (fun u => amendSeat_frame u _ _ _) s)
  case getSeat => exact next_leaves (request_sameBut (fun u => getSeat_frame u _) s)
  case putCue => exact next_leaves (request_sameBut (fun u => putCue_frame u _ _) s)
  case amendCue => exact next_leaves (request_sameBut (fun u => amendCue_frame u _ _ _) s)
  case retireCue | retireCueForce => exact next_leaves (request_sameBut (fun u => retireCue_frame u _ _) s)
  case getCue => exact next_leaves (request_sameBut (fun u => getCue_frame u _) s)
  case putClip => exact next_leaves (request_sameBut (fun u => putClip_frame u _ _) s)
  case amendClip => exact next_leaves (request_sameBut (fun u => amendClip_frame u _ _ _) s)
  case retireClip => exact next_leaves (request_sameBut (fun u => retireClip_frame u _) s)
  case getClip => exact next_leaves (request_sameBut (fun u => getClip_frame u _) s)
  case putSource => exact next_leaves (request_sameBut (fun u => putSource_frame u _ _) s)
  case amendSource => exact next_leaves (request_sameBut (fun u => amendSource_frame u _ _ _) s)
  case getSource => exact next_leaves (request_sameBut (fun u => getSource_frame u _) s)
  case putSettings => exact next_leaves (request_sameBut (fun u => putSettings_frame u _ _) s)
  case amendSettings => exact next_leaves (request_sameBut (fun u => amendSettings_frame u _ _ _) s)
  case getSettings => exact next_leaves (request_sameBut (fun u => getSettings_frame u _) s)
  case getVoice => exact next_leaves (request_sameBut (fun u => getVoice_frame u _) s)
  case getLine => exact next_leaves (request_sameBut (fun u => getLine_frame u _) s)
  case listSegment | listSeat | listCue | listClip | listSource | listSettings | listVoice | listLine =>
    exact next_leaves (request_sameBut (fun u => ok_frame u _) s)
  case enable => exact next_leaves (request_sameBut enableVehicle_frame s)
  case park => exact next_leaves (request_sameBut parkVehicle_frame s)
  case place => exact next_leaves (request_sameBut (fun u => placeVehicle_frame u _ _) s)
  case start => exact next_leaves (request_sameBut startVehicle_frame s)
  case stop => exact next_leaves (request_sameBut stopVehicle_frame s)
  case estop => exact next_leaves (request_sameBut estopVehicle_frame s)
  case resume => exact next_leaves (request_sameBut resumeVehicle_frame s)
  case skipDwell => exact next_leaves (request_sameBut skipDwell_frame s)
  case yaw => exact next_leaves (request_sameBut (fun u => hostYaw_frame u _) s)
  case release => exact next_leaves (request_sameBut (fun u => releasePermit_frame u _) s)
  case releaseImmediate => exact next_leaves (request_sameBut (fun u => releaseImmediate_frame u _) s)
  case seatClear => exact next_leaves (request_sameBut (fun u => seatClear_frame u _) s)
  case rearm => exact next_leaves (request_sameBut (fun u => rearmCue_frame u _) s)
  case rearmAll => exact next_leaves (request_sameBut rearmAllCues_frame s)
  case disarm => exact next_leaves (request_sameBut (fun u => disarmCue_frame u _) s)
  case play => exact next_leaves (request_sameBut (fun u => hostPlay_frame u _) s)
  case hush => exact next_leaves (request_sameBut (fun u => hushVoice_frame u _) s)
  case hushAll => exact next_leaves (request_sameBut hushAll_frame s)
  case master => exact next_leaves (request_sameBut (fun u => hostMaster_frame u _) s)
  case flashRead => exact next_leaves (flashRead_sameBut s _ _ _)
  case flashProgram => exact next_leaves (request_sameBut (fun u => flashProgram_frame u _ _) s)
  case flashErase => exact next_leaves (request_sameBut (fun u => flashErase_frame u _ _) s)
  case noticeSetup => exact next_leaves (request_sameBut (fun u => noticeSetup_frame u _ _) s)
  case noticeTake => exact next_leaves (request_sameBut noticeTake_frame s)
  case status => exact next_leaves (request_sameBut hostStatus_frame s)
  case softReset => exact next_leaves (request_sameBut softReset_frame s)

end Sys2Proof.Machine
end

section
/-! SUPPORT. What the operations of the route and position unit do to it (01), as functions of `Pos` alone, each tied to the
model's operation by an equation. -/

namespace Sys2Proof.Machine

variable (s : State)

/-! ### The active segment, the successor and the locked entries -/

theorem State.activeSegment_eq_some {a : Nat} {g : Segment} :
    s.activeSegment = some (a, g) ↔ s.pos.active = some a ∧ Table.get s.pos.segments a = some g := by
  unfold State.activeSegment
  cases s.pos.active with
  | none => simp
  | some k =>
    simp only [Option.bind_some, Option.map_eq_some_iff, Option.some.injEq, Prod.mk.injEq]
    constructor
    · rintro ⟨_, hk, rfl, rfl⟩
      exact ⟨rfl, hk⟩
    · rintro ⟨rfl, hk⟩
      exact ⟨g, hk, rfl, rfl⟩

/-- With the active segment present, there is none only where nothing is placed. -/
theorem State.activeSegment_eq_none :
    s.activeSegment = none ↔ ∀ a, s.pos.active = some a → Table.get s.pos.segments a = none := by
  unfold State.activeSegment
  cases s.pos.active <;> simp

/-- The segment that take_alt selects, present or not (01 R5). -/
def Segment.candidate (g : Segment) : Option Nat := if g.takeAlt && g.alt.isSome then g.alt else g.next

theorem successor_eq_some {segs : Table Segment} {g : Segment} {b : Nat} :
    successor segs g = some b ↔ g.candidate = some b ∧ (Table.get segs b).isSome = true := by
  simp [successor, Segment.candidate, Option.filter_eq_some_iff]

/-- The path locks an entry exactly while it is present and a member (01 R1 to R4). -/
theorem State.onPath_iff (k : Nat) :
    s.onPath k = true ↔ (Table.get s.pos.segments k).isSome = true ∧ k ∈ s.pos.path := by
  have headMem : s.pos.path.head? = some k → k ∈ s.pos.path := List.mem_of_mem_head?
  unfold State.onPath State.segState
  cases Table.get s.pos.segments k with
  | none => simp
  | some g =>
    by_cases hm : k ∈ s.pos.path
    · by_cases hh : s.pos.path.head? = some k <;> simp [hm, hh]
    · simp [hm, mt headMem hm]

/-- An entry off the path that is present is LOADED (01 R1). -/
theorem State.segState_of_not_mem {k : Nat} {g : Segment} (hg : Table.get s.pos.segments k = some g)
    (hk : k ∉ s.pos.path) : s.segState k = .loaded := by
  have headMem : s.pos.path.head? = some k → k ∈ s.pos.path := List.mem_of_mem_head?
  simp [State.segState, hg, hk, mt headMem hk]

/-! ### The authority point (01 R10, R15) -/

/-- The authority deleted, the path the active segment alone. -/
def Pos.dropped (p : Pos) : Pos := { p with authority := none, path := p.alone }

/-- The authority point is on the active segment, at or behind s. -/
def Pos.pointPassed (p : Pos) : Bool := p.authority.any (fun u => decide (p.active = some u.segment ∧ u.offset ≤ p.s))

/-- What the check for passing the authority point leaves. -/
def Pos.checked (p : Pos) : Pos := if p.pointPassed then p.dropped else p

@[simp] theorem State.dropAuthority_pos : s.dropAuthority.pos = s.pos.dropped := rfl
@[simp] theorem State.dropAuthority_msv : s.dropAuthority.msv = s.msv := rfl
@[simp] theorem State.dropAuthority_ntu : s.dropAuthority.ntu = s.ntu := rfl

theorem State.checkPoint_eq :
    s.checkPoint = if s.pos.pointPassed then s.dropAuthority.addReason .authorityOverrun else s := by
  unfold State.checkPoint Pos.pointPassed
  cases s.pos.authority <;> simp

@[simp] theorem State.checkPoint_pos : s.checkPoint.pos = s.pos.checked := by
  rw [State.checkPoint_eq, Pos.checked]
  split <;> simp

@[simp] theorem Pos.checked_segments (p : Pos) : p.checked.segments = p.segments := by
  unfold Pos.checked
  split <;> rfl

@[simp] theorem Pos.checked_active (p : Pos) : p.checked.active = p.active := by
  unfold Pos.checked
  split <;> rfl

@[simp] theorem Pos.checked_s (p : Pos) : p.checked.s = p.s := by
  unfold Pos.checked
  split <;> rfl

/-! ### The missed marker (01 R20) -/

/-- The miss point of segment `g` is passed and its marker neither read nor counted as missed in this pass. -/
def Pos.misses (p : Pos) (g : Segment) (leaving : Bool) : Bool :=
  missPassed g (!p.markerSeen && !p.missCounted) p.sPrev p.s leaving

/-- The miss counted, or nothing. -/
def Pos.noted (p : Pos) (missed : Bool) : Pos :=
  { p with missCount := countMiss missed p.missCount, missCounted := p.missCounted || missed }

@[simp] theorem Pos.noted_false (p : Pos) : p.noted false = p := by simp [Pos.noted, countMiss]

/-- A counted miss: MISSED, and POSITION with the second in a row (01 R20). -/
def State.countedMiss (a : Nat) (s : State) : State :=
  let t := (s.setPos (s.pos.noted true)).raise (.missed a (countMiss true s.pos.missCount))
  if countMiss true s.pos.missCount = 2 then t.addReason .position else t

theorem State.missCheck_eq (a : Nat) (g : Segment) (leaving : Bool) :
    s.missCheck a g leaving = if s.pos.misses g leaving then s.countedMiss a else s := by
  unfold State.missCheck Pos.misses missPassed State.countedMiss Pos.noted countMiss
  cases g.marker <;> simp

@[simp] theorem State.countedMiss_pos (a : Nat) : (s.countedMiss a).pos = s.pos.noted true := by
  unfold State.countedMiss
  dsimp only
  split <;> simp

@[simp] theorem State.missCheck_pos (a : Nat) (g : Segment) (leaving : Bool) :
    (s.missCheck a g leaving).pos = s.pos.noted (s.pos.misses g leaving) := by
  rw [State.missCheck_eq]
  cases s.pos.misses g leaving <;> simp

/-! ### The position step (01 R14, R16, R17) -/

/-- Steps 1 to 3 of 01 R14. -/
def Pos.advanced (p : Pos) : Pos :=
  let q := wholeMm p.residue
  let sum := (p.s : Int) + q
  { p with sPrev := p.s, s := sum.toNat, residue := if sum < 0 then 0 else p.residue - q * 1000 }

@[simp] theorem State.takeResidue_pos : s.takeResidue.pos = s.pos.advanced := rfl
@[simp] theorem State.takeResidue_msv : s.takeResidue.msv = s.msv := rfl
@[simp] theorem State.takeResidue_ntu : s.takeResidue.ntu = s.ntu := rfl

/-- s brought behind the end of segment `g` (01 R16). -/
def Pos.beyond (p : Pos) (g : Segment) : Pos := { p with s := p.s - g.length }

/-- Segment `b` active, a new pass of it begun (01 R16). -/
def Pos.entered (p : Pos) (b : Nat) : Pos :=
  { p with
    active := some b
    path := if 1 < p.path.length then p.path.drop 1 else [b]
    sPrev := 0
    markerSeen := false
    missCounted := false }

/-- Standing at the end of segment `g` (01 R17). -/
def Pos.stopped (p : Pos) (g : Segment) : Pos := { p with s := g.length - 1, residue := 0 }

theorem State.transition_eq (a : Nat) (g : Segment) (b : Nat) :
    s.transition a g b =
      (((s.setPos (s.pos.beyond g)).missCheck a g true).setPos
        (((s.pos.beyond g).noted ((s.pos.beyond g).misses g true)).entered b)).checkPoint := by
  have left := State.missCheck_pos (s.setPos (s.pos.beyond g)) a g true
  rw [State.setPos_pos] at left
  rw [← left]
  rfl

@[simp] theorem State.transition_pos (a : Nat) (g : Segment) (b : Nat) :
    (s.transition a g b).pos = (((s.pos.beyond g).noted ((s.pos.beyond g).misses g true)).entered b).checked := by
  simp [State.transition_eq]

@[simp] theorem State.clampEnd_pos (a : Nat) (g : Segment) :
    (s.clampEnd a g).pos = (s.pos.stopped g).noted ((s.pos.stopped g).misses g true) := by
  simp [State.clampEnd, Pos.stopped]

end Sys2Proof.Machine
end

section
/-! PROOFS. The route invariant (01): what a path is, what each operation of POS does to it, and that every step keeps it. -/

namespace Sys2Proof.Machine

/-! ### Chains of usable successors -/

/-- `b` follows `a` by a usable successor (01 R5). -/
def follows (segs : Table Segment) (a b : Nat) : Prop := (Table.get segs a).bind (successor segs) = some b

theorem follows_iff {segs : Table Segment} {a b : Nat} : follows segs a b ↔
    ∃ g, Table.get segs a = some g ∧ g.candidate = some b ∧ (Table.get segs b).isSome = true := by
  simp [follows, Option.bind_eq_some_iff, successor_eq_some]

@[simp] theorem chained_cons_cons (segs : Table Segment) (a b : Nat) (l : List Nat) :
    chained segs (a :: b :: l) ↔ follows segs a b ∧ chained segs (b :: l) := Iff.rfl

/-- A chain grows by a successor of its last member. -/
theorem chained_concat {segs : Table Segment} {l : List Nat} {x b : Nat} (h : chained segs l)
    (hx : l.getLast? = some x) (hb : follows segs x b) : chained segs (l ++ [b]) := by
  induction l with
  | nil => simp at hx
  | cons a l ih =>
    cases l with
    | nil =>
      obtain rfl : a = x := by simpa using hx
      exact ⟨hb, trivial⟩
    | cons c l => exact ⟨h.1, ih h.2 (by simpa using hx)⟩

/-- A chain of present members stands while its members read as before. -/
theorem chained_congr {segs segs' : Table Segment} {l : List Nat}
    (hsame : ∀ k ∈ l, Table.get segs' k = Table.get segs k) (h : chained segs l) : chained segs' l := by
  induction l with
  | nil => trivial
  | cons a l ih =>
    cases l with
    | nil => trivial
    | cons b l =>
      obtain ⟨hab, hl⟩ := h
      obtain ⟨g, hg, hc, hb⟩ := follows_iff.1 hab
      refine ⟨follows_iff.2 ⟨g, ?_, hc, ?_⟩, ih (fun k hk => hsame k (List.mem_cons_of_mem a hk)) hl⟩
      · rw [hsame a (by simp), hg]
      · rw [hsame b (by simp), hb]

/-! ### The invariant, on POS alone -/

/-- The part of the route invariant that a position inside its step keeps too: all but where s stands. -/
structure Pos.Routed (p : Pos) : Prop where
  lengths : ∀ e ∈ p.segments, 100 ≤ e.2.length ∧ e.2.length ≤ 60000
  sorted : Table.wf p.segments
  head : p.path.head? = p.active
  nodup : p.path.Nodup
  short : p.path.length ≤ 32
  here : ∀ k ∈ p.path, (Table.get p.segments k).isSome = true
  chain : chained p.segments p.path
  alone : p.authority = none → p.path = p.alone
  within : ∀ u g, p.authority = some u → Table.get p.segments u.segment = some g → u.offset ≤ g.length
  last : ∀ u, p.authority = some u → p.path.getLast? = some u.segment
  misses : p.missCount ≤ 2

/-- s lies inside the active segment. -/
def Pos.Inside (p : Pos) : Prop := ∀ a g, p.active = some a → Table.get p.segments a = some g → p.s < g.length

/-- The authority point lies ahead of s. -/
def Pos.Ahead (p : Pos) : Prop := ∀ u, p.authority = some u → p.active = some u.segment → p.s < u.offset

theorem routeSound_iff (s : State) : s.RouteSound ↔ s.pos.Routed ∧ s.pos.Inside ∧ s.pos.Ahead :=
  ⟨fun h => ⟨⟨h.lengths, h.sorted, h.head, h.nodup, h.short, h.here, h.chain, h.alone, h.within, h.last, h.misses⟩,
      h.inside, h.ahead⟩,
    fun ⟨h, inside, ahead⟩ => ⟨h.lengths, h.sorted, h.head, h.nodup, h.short, h.here, h.chain, inside, h.alone, h.within,
      h.last, ahead, h.misses⟩⟩

/-- The route invariant is about POS alone. -/
theorem State.RouteSound.of_pos {s t : State} (h : s.RouteSound) (hp : t.pos = s.pos) : t.RouteSound := by
  rw [routeSound_iff, hp]
  exact (routeSound_iff s).1 h

/-- The route does not depend on where the vehicle stands on it. -/
theorem Pos.Routed.move {p q : Pos} (h : p.Routed) (hseg : q.segments = p.segments) (hauth : q.authority = p.authority)
    (hact : q.active = p.active) (hpath : q.path = p.path) (hm : q.missCount ≤ 2) : q.Routed where
  lengths := hseg ▸ h.lengths
  sorted := hseg ▸ h.sorted
  head := by rw [hpath, hact, h.head]
  nodup := hpath ▸ h.nodup
  short := hpath ▸ h.short
  here := by rw [hpath, hseg]; exact h.here
  chain := by rw [hpath, hseg]; exact h.chain
  alone := by rw [hauth, hpath, Pos.alone, hact]; exact h.alone
  within := by rw [hauth, hseg]; exact h.within
  last := by rw [hauth, hpath]; exact h.last
  misses := hm

namespace Pos.Routed

variable {p : Pos}

/-- The active segment is a present member. -/
theorem active_mem (h : p.Routed) {a : Nat} (ha : p.active = some a) : a ∈ p.path :=
  List.mem_of_mem_head? (h.head.trans ha)

theorem active_present (h : p.Routed) {a : Nat} (ha : p.active = some a) : (Table.get p.segments a).isSome = true :=
  h.here a (h.active_mem ha)

theorem authority_mem (h : p.Routed) {u : Authority} (hu : p.authority = some u) : u.segment ∈ p.path :=
  List.mem_of_mem_getLast? (h.last u hu)

theorem length_of_get (h : p.Routed) {a : Nat} {g : Segment} (hg : Table.get p.segments a = some g) :
    100 ≤ g.length := (h.lengths _ (Table.mem_of_get hg)).1

theorem noted (h : p.Routed) (missed : Bool) : (p.noted missed).Routed :=
  h.move rfl rfl rfl rfl (by
    have hm := h.misses
    simp only [Pos.noted, countMiss]
    split <;> omega)

theorem advanced (h : p.Routed) : p.advanced.Routed := h.move rfl rfl rfl rfl h.misses

/-- Without an authority the path is the active segment alone (01 R10, R15, R22). -/
theorem dropped (h : p.Routed) : p.dropped.Routed where
  lengths := h.lengths
  sorted := h.sorted
  head := by cases ha : p.active <;> simp [Pos.dropped, Pos.alone, ha]
  nodup := by cases ha : p.active <;> simp [Pos.dropped, Pos.alone, ha]
  short := by cases ha : p.active <;> simp [Pos.dropped, Pos.alone, ha]
  here := by
    intro k hk
    exact h.active_present (by simpa [Pos.dropped, Pos.alone] using hk)
  chain := by cases ha : p.active <;> simp [Pos.dropped, Pos.alone, ha, chained]
  alone := fun _ => rfl
  within := by simp [Pos.dropped]
  last := by simp [Pos.dropped]
  misses := h.misses

theorem checked (h : p.Routed) : p.checked.Routed := by
  unfold Pos.checked
  split
  · exact h.dropped
  · exact h

/-- A transition to the usable successor, the authority point still ahead (01 R16). -/
theorem entered (h : p.Routed) {a b : Nat} {g : Segment} (ha : p.active = some a) (hg : Table.get p.segments a = some g)
    (hb : successor p.segments g = some b) (hu : ∀ u, p.authority = some u → u.segment ≠ a) : (p.entered b).Routed := by
  have hfollows : follows p.segments a b := by simp [follows, hg, hb]
  have hpresent : (Table.get p.segments b).isSome = true := (successor_eq_some.1 hb).2
  match hpath : p.path, h.head.trans ha with
  | [_], hhead =>
    obtain rfl : _ = a := by simpa using hhead
    have hnone : p.authority = none := by
      cases hauth : p.authority with
      | none => rfl
      | some u => exact absurd (by simpa [hpath] using (h.last u hauth).symm) (hu u hauth)
    exact {
      lengths := h.lengths
      sorted := h.sorted
      head := by simp [Pos.entered, hpath]
      nodup := by simp [Pos.entered, hpath]
      short := by simp [Pos.entered, hpath]
      here := by simpa [Pos.entered, hpath] using hpresent
      chain := by simp [Pos.entered, hpath, chained]
      alone := by simp [Pos.entered, hpath, Pos.alone]
      within := by simp [Pos.entered, hnone]
      last := by simp [Pos.entered, hnone]
      misses := h.misses }
  | _ :: c :: rest, hhead =>
    obtain rfl : _ = a := by simpa using hhead
    have hchain := h.chain
    have hnodup := h.nodup
    have hshort := h.short
    have hhere := h.here
    have hlast := h.last
    rw [hpath] at hchain hnodup hshort hhere hlast
    obtain ⟨hc, hrest⟩ := hchain
    obtain rfl : c = b := Option.some.inj (hc.symm.trans hfollows)
    have hpath' : (p.entered c).path = c :: rest := by simp [Pos.entered, hpath]
    exact {
      lengths := h.lengths
      sorted := h.sorted
      head := by rw [hpath']; rfl
      nodup := by rw [hpath']; exact hnodup.of_cons
      short := by rw [hpath']; exact (Nat.le_succ _).trans hshort
      here := fun k hk => hhere k (List.mem_cons_of_mem _ (hpath' ▸ hk))
      chain := hpath' ▸ hrest
      alone := fun hnone => by
        have halone := h.alone hnone
        simp [Pos.alone, ha, hpath] at halone
      within := h.within
      last := fun u hauth => by rw [hpath']; simpa using hlast u hauth
      misses := h.misses }

/-- An entry off the path stored or freed (01 R2 to R4). -/
theorem edited (h : p.Routed) {segs : Table Segment} {key : Nat} (hkey : key ∉ p.path)
    (hlen : ∀ e ∈ segs, 100 ≤ e.2.length ∧ e.2.length ≤ 60000) (hwf : Table.wf segs)
    (hget : ∀ k, k ≠ key → Table.get segs k = Table.get p.segments k) : ({ p with segments := segs } : Pos).Routed := by
  have hsame : ∀ k ∈ p.path, Table.get segs k = Table.get p.segments k := fun k hk => hget k (by rintro rfl; exact hkey hk)
  exact {
    lengths := hlen
    sorted := hwf
    head := h.head
    nodup := h.nodup
    short := h.short
    here := fun k hk => by rw [hsame k hk]; exact h.here k hk
    chain := chained_congr hsame h.chain
    alone := h.alone
    within := fun u g hu hg => h.within u g hu (by rw [← hsame _ (h.authority_mem hu)]; exact hg)
    last := h.last
    misses := h.misses }

end Pos.Routed

/-- After its check the authority point lies ahead (01 R15). -/
theorem Pos.ahead_checked (p : Pos) : p.checked.Ahead := by
  unfold Pos.checked
  split
  · intro u hu
    cases hu
  · rename_i h
    intro u hu ha
    by_contra hlt
    exact h (by simpa [Pos.pointPassed, hu, ha] using hlt)

/-! ### The position step -/

/-- A vehicle at or beyond the end of the active segment has the authority point on another one. -/
theorem Pos.Ahead.authority_elsewhere {p : Pos} (ahead : p.Ahead) (h : p.Routed) {a : Nat} {g : Segment}
    (ha : p.active = some a) (hg : Table.get p.segments a = some g) (hs : g.length ≤ p.s) :
    ∀ u, p.authority = some u → u.segment ≠ a := by
  rintro u hu rfl
  have := ahead u hu ha
  have := h.within u g hu hg
  omega

/-- Where the transitions of a position step end, the vehicle stands inside the active segment (01 R14, R16, R17). -/
theorem advance_sound (fuel : Nat) (moved : Bool) (s : State) (h : s.pos.Routed) (ahead : s.pos.Ahead)
    (hfuel : s.pos.s < fuel) :
    (advance fuel moved s).state.pos.Routed ∧ (advance fuel moved s).state.pos.Inside ∧
      (advance fuel moved s).state.pos.Ahead := by
  induction fuel generalizing moved s with
  | zero => omega
  | succ fuel ih =>
    unfold advance
    split
    · rename_i hnone
      refine ⟨h, fun a g ha hg => ?_, ahead⟩
      exact absurd (State.activeSegment_eq_none s |>.1 hnone a ha) (by simp [hg])
    · rename_i a g hact
      obtain ⟨ha, hg⟩ := s.activeSegment_eq_some.1 hact
      have hlen := h.length_of_get hg
      split
      · rename_i hlt
        refine ⟨h, fun a' g' ha' hg' => ?_, ahead⟩
        obtain rfl : a = a' := Option.some.inj (ha.symm.trans ha')
        obtain rfl : g = g' := Option.some.inj (hg.symm.trans hg')
        exact hlt
      · rename_i hge
        have elsewhere := ahead.authority_elsewhere h ha hg (by omega)
        split
        · rename_i b hb
          have back : (s.pos.beyond g).Routed := h.move rfl rfl rfl rfl h.misses
          refine ih true _ ?_ ?_ ?_
          · rw [State.transition_pos]
            exact ((back.noted _).entered ha hg hb elsewhere).checked
          · rw [State.transition_pos]
            exact Pos.ahead_checked _
          · simp only [State.transition_pos, Pos.checked_s, Pos.entered, Pos.noted, Pos.beyond]
            omega
        · have stood : (s.pos.stopped g).Routed := h.move rfl rfl rfl rfl h.misses
          simp only [State.clampEnd_pos]
          refine ⟨stood.noted _, fun a' g' ha' hg' => ?_, fun u hu ha' => ?_⟩
          · obtain rfl : a = a' := Option.some.inj (ha.symm.trans ha')
            obtain rfl : g = g' := Option.some.inj (hg.symm.trans hg')
            simp only [Pos.noted, Pos.stopped]
            omega
          · exact absurd (Option.some.inj (ha'.symm.trans ha)) (elsewhere u hu)

theorem State.stepCheck_pos (s : State) : ∃ missed, s.stepCheck.pos = s.pos.noted missed := by
  unfold State.stepCheck
  split
  · exact ⟨false, by simp⟩
  · exact ⟨_, State.missCheck_pos _ _ _ _⟩

theorem State.RouteSound.positionStep {s : State} (h : s.RouteSound) : s.positionStep.1.RouteSound := by
  unfold State.positionStep
  split
  · exact h
  · obtain ⟨routed, -, -⟩ := (routeSound_iff s).1 h
    obtain ⟨routed', inside, ahead⟩ := advance_sound (s.takeResidue.checkPoint.pos.s + 1) false s.takeResidue.checkPoint
      (by rw [State.checkPoint_pos]; exact routed.advanced.checked)
      (by rw [State.checkPoint_pos]; exact Pos.ahead_checked _) (by omega)
    obtain ⟨missed, hpos⟩ := (advance (s.takeResidue.checkPoint.pos.s + 1) false s.takeResidue.checkPoint).state.stepCheck_pos
    rw [routeSound_iff]
    simp only [State.evaluate_pos, hpos]
    exact ⟨routed'.noted missed, inside, ahead⟩

theorem State.RouteSound.guidanceSample {s : State} (h : s.RouteSound) (encoder : Int) (current : Nat) :
    (guidanceSample encoder current s).RouteSound := by
  have rest := ((s.positionStep.1.guide_sameBut encoder).append (State.speedStage_sameBut _ s.positionStep.2)).append
    (State.readLoad_sameBut _ current)
  exact h.positionStep.of_pos rest.pos

/-! ### Odometer and markers -/

theorem State.RouteSound.odometerPulse {s : State} (h : s.RouteSound) (forward : Bool) :
    (odometerPulse forward s).RouteSound := by
  obtain ⟨routed, inside, ahead⟩ := (routeSound_iff s).1 h
  unfold Machine.odometerPulse
  split
  · exact h
  · split
    · exact (routeSound_iff _).2 ⟨routed.move rfl rfl rfl rfl routed.misses, inside, ahead⟩
    · exact h

/-- A correction puts s at the marker, which lies inside the active segment (01 R18). -/
theorem State.RouteSound.correct {s : State} (h : s.RouteSound) {a offset : Nat} {g : Segment}
    (hact : s.activeSegment = some (a, g)) (hoff : offset < g.length) : (s.correct offset).RouteSound := by
  obtain ⟨routed, -, -⟩ := (routeSound_iff s).1 h
  obtain ⟨ha, hg⟩ := s.activeSegment_eq_some.1 hact
  rw [routeSound_iff]
  simp only [State.correct, State.evaluate_pos, State.checkPoint_pos, State.setPos_pos]
  refine ⟨Pos.Routed.checked (routed.move rfl rfl rfl rfl (Nat.zero_le 2)), fun a' g' ha' hg' => ?_, Pos.ahead_checked _⟩
  simp only [Pos.checked_active, Pos.checked_segments, Pos.checked_s] at ha' hg' ⊢
  obtain rfl : a = a' := Option.some.inj (ha.symm.trans ha')
  obtain rfl : g = g' := Option.some.inj (hg.symm.trans hg')
  exact hoff

theorem State.RouteSound.markerRead {s : State} (h : s.RouteSound) (code : Nat) : (markerRead code s).RouteSound := by
  have mismatched (a : Nat) : (s.mismatch a code).RouteSound := h.of_pos (s.mismatch_sameBut a code).pos
  unfold Machine.markerRead
  split
  · exact h
  · rename_i hact
    split
    · exact h
    · split
      · exact mismatched _
      · split
        · exact h
        · split
          · rename_i hwindow
            exact h.correct hact hwindow.2.2.2
          · exact mismatched _

/-! ### Requests -/

/-- A request keeps the route when its answer does. -/
theorem State.RouteSound.request {s : State} (h : s.RouteSound) {kind key : Nat} {act : State → Answer}
    (hact : s.hearFrame.RouteSound → (act s.hearFrame).Leaves State.RouteSound) :
    (request kind key act s).RouteSound := by
  have heard : s.hearFrame.RouteSound := h.of_pos rfl
  obtain ⟨-, e⟩ | ⟨-, -, e⟩ | ⟨-, -, st, p, -, e⟩ | ⟨-, -, t, st, c, p, ha, e⟩ := request_cases s kind key act
  · rwa [e]
  · exact e ▸ h.of_pos rfl
  · exact e ▸ heard.of_pos rfl
  · have ht : t.RouteSound := by simpa [ha] using hact heard
    exact e ▸ ht.of_pos rfl

/-- An entry off the path, edited (01 R2 to R4). -/
theorem State.RouteSound.edit {s : State} (h : s.RouteSound) {segs : Table Segment} {key : Nat} (hkey : key ∉ s.pos.path)
    (hlen : ∀ e ∈ segs, 100 ≤ e.2.length ∧ e.2.length ≤ 60000) (hwf : Table.wf segs)
    (hget : ∀ k, k ≠ key → Table.get segs k = Table.get s.pos.segments k) :
    (s.setPos { s.pos with segments := segs }).RouteSound := by
  obtain ⟨routed, inside, ahead⟩ := (routeSound_iff s).1 h
  refine (routeSound_iff _).2 ⟨routed.edited hkey hlen hwf hget, fun a g ha hg => ?_, ahead⟩
  have hne : a ≠ key := by
    rintro rfl
    exact hkey (routed.active_mem ha)
  exact inside a g ha ((hget a hne).symm.trans hg)

/-- An entry that is not locked is not on the path. -/
theorem State.RouteSound.not_mem_path {s : State} (h : s.RouteSound) {key : Nat} (hk : ¬s.onPath key = true) :
    key ∉ s.pos.path := fun hm => hk ((s.onPath_iff key).2 ⟨h.here key hm, hm⟩)

theorem SegmentWire.length_of_valid {w : SegmentWire} (h : w.valid = true) : 100 ≤ w.length ∧ w.length ≤ 60000 := by
  simp only [SegmentWire.valid, Bool.and_eq_true, decide_eq_true_eq] at h
  exact h.1.1.1

theorem State.RouteSound.takeSegment {s : State} (h : s.RouteSound) {key : Nat} (hk : ¬s.onPath key = true)
    (w : SegmentWire) : (s.takeSegment key w).Leaves State.RouteSound := by
  unfold State.takeSegment
  split
  · rename_i hv
    refine h.edit (key := key) (h.not_mem_path hk) (fun e he => ?_) (Table.wf_put _ _ h.sorted) (fun k hne => ?_)
    · obtain rfl | he := Table.mem_put_key he
      · exact SegmentWire.length_of_valid hv
      · exact h.lengths e he
    · rw [Table.get_put _ _ h.sorted, if_neg hne]
  · trivial

theorem State.RouteSound.putSegment {s : State} (h : s.RouteSound) (key : Nat) (w : SegmentWire) :
    (putSegment key w s).Leaves State.RouteSound := by
  unfold Machine.putSegment
  split
  · trivial
  · split
    · trivial
    · rename_i hk
      exact h.takeSegment hk w

theorem State.RouteSound.amendSegment {s : State} (h : s.RouteSound) (key presence : Nat) (w : SegmentWire) :
    (amendSegment key presence w s).Leaves State.RouteSound := by
  unfold Machine.amendSegment
  split
  · trivial
  · split
    · trivial
    · split
      · trivial
      · rename_i hk
        split
        · exact h
        · exact h.takeSegment hk _

theorem State.RouteSound.retireSegment {s : State} (h : s.RouteSound) (key : Nat) :
    (retireSegment key s).Leaves State.RouteSound := by
  unfold Machine.retireSegment
  split
  · trivial
  · split
    · trivial
    · split
      · trivial
      · rename_i hk
        refine h.edit (key := key) (h.not_mem_path hk) (fun e he => h.lengths e (List.mem_filter.1 he).1)
          (Table.wf_del _ h.sorted) (fun k hne => ?_)
        rw [Table.get_del, if_neg hne]

/-- What a walk finds: a path without repeats along usable successors, from where it began to its target (01 R7). -/
theorem walk_reached {segs : Table Segment} {target fuel : Nat} {path q : List Nat}
    (h : walk segs target fuel path = .reached q) (hne : path ≠ []) (hnodup : path.Nodup)
    (hhere : ∀ k ∈ path, (Table.get segs k).isSome = true) (hchain : chained segs path) :
    q.head? = path.head? ∧ q.getLast? = some target ∧ q.Nodup ∧ (∀ k ∈ q, (Table.get segs k).isSome = true) ∧
      chained segs q := by
  induction fuel generalizing path with
  | zero => cases h
  | succ fuel ih =>
    have hlast : path.getLast? = some (path.getLastD 0) := by
      rw [List.getLastD_eq_getLast?, List.getLast?_eq_some_getLast hne, Option.getD_some]
    unfold walk at h
    dsimp only at h
    split at h
    · rename_i htarget
      cases h
      exact ⟨rfl, htarget ▸ hlast, hnodup, hhere, hchain⟩
    · split at h
      · cases h
      · rename_i b hb
        split at h
        · cases h
        · rename_i hnew
          have hpresent : (Table.get segs b).isSome = true := by
            obtain ⟨g, -, -, hsome⟩ := follows_iff.1 hb
            exact hsome
          obtain ⟨hhead, rest⟩ := ih h (by simp)
            (List.nodup_append.2 ⟨hnodup, by simp, by
              rintro x hx y hy rfl
              obtain rfl : x = b := by simpa using hy
              exact hnew (by simpa using hx)⟩)
            (by
              intro k hk
              rcases List.mem_append.1 hk with hk | hk
              · exact hhere k hk
              · obtain rfl : k = b := by simpa using hk
                exact hpresent)
            (chained_concat hchain hlast hb)
          refine ⟨hhead.trans ?_, rest⟩
          cases path with
          | nil => exact absurd rfl hne
          | cons a l => rfl

/-- A granted authority stands at the end of its path, its point ahead (01 R7, R8). -/
theorem State.RouteSound.grantAuthority {s : State} (h : s.RouteSound) {a : Nat} {ga g : Segment} {u : Authority}
    {path : List Nat} (hact : s.activeSegment = some (a, ga)) (hg : Table.get s.pos.segments u.segment = some g)
    (hoff : u.offset ≤ g.length) (hahead : u.segment = a → s.pos.s < u.offset)
    (hwalk : walk s.pos.segments u.segment 129 [a] = .reached path) (hshort : path.length ≤ 32) :
    (s.grantAuthority u path).RouteSound := by
  obtain ⟨routed, inside, -⟩ := (routeSound_iff s).1 h
  obtain ⟨ha, hga⟩ := s.activeSegment_eq_some.1 hact
  obtain ⟨hhead, hlast, hnodup, hhere, hchain⟩ := walk_reached hwalk (by simp) (by simp) (by simp [hga]) trivial
  have stored : (s.storeAuthority u path).RouteSound := by
    refine (routeSound_iff _).2 ⟨?_, inside, ?_⟩
    · exact {
        lengths := routed.lengths
        sorted := routed.sorted
        head := hhead.trans ha.symm
        nodup := hnodup
        short := hshort
        here := hhere
        chain := hchain
        alone := nofun
        within := by
          rintro _ g' ⟨⟩ hg'
          obtain rfl : g = g' := Option.some.inj (hg.symm.trans hg')
          exact hoff
        last := by
          rintro _ ⟨⟩
          exact hlast
        misses := routed.misses }
    · rintro _ ⟨⟩ hseg
      exact hahead (Option.some.inj (hseg.symm.trans ha))
  unfold State.grantAuthority
  dsimp only
  split
  · exact stored.of_pos ((State.overrunCheck_sameBut _).append (State.raise_sameBut _ _)).pos
  · exact stored.of_pos (State.overrunCheck_sameBut _).pos

theorem State.RouteSound.putAuthority {s : State} (h : s.RouteSound) (key : Nat) (w : AuthorityWire) :
    (putAuthority key w s).Leaves State.RouteSound := by
  unfold Machine.putAuthority
  split
  · trivial
  · split
    · rename_i hact hg
      dsimp only
      split
      · trivial
      · rename_i hahead
        split
        · trivial
        · trivial
        · rename_i hwalk
          split
          · trivial
          · rename_i hshort
            exact h.grantAuthority hact hg (Nat.min_le_right _ _)
              (fun hseg => Nat.lt_of_not_le fun hle => hahead ⟨hseg, hle⟩) hwalk (Nat.le_of_not_lt hshort)
    · trivial

theorem State.RouteSound.amendAuthority {s : State} (h : s.RouteSound) (key presence : Nat) (w : AuthorityWire) :
    (amendAuthority key presence w s).Leaves State.RouteSound := by
  unfold Machine.amendAuthority
  split
  · trivial
  · split
    · split
      · trivial
      · exact h
    · exact h.putAuthority key _

theorem State.RouteSound.dropAuthority {s : State} (h : s.RouteSound) : s.dropAuthority.RouteSound := by
  obtain ⟨routed, inside, -⟩ := (routeSound_iff s).1 h
  exact (routeSound_iff _).2 ⟨routed.dropped, inside, nofun⟩

theorem State.RouteSound.retireAuthority {s : State} (h : s.RouteSound) (key : Nat) :
    (retireAuthority key s).Leaves State.RouteSound := by
  unfold Machine.retireAuthority
  split
  · trivial
  · split
    · trivial
    · exact h.dropAuthority.of_pos (State.overrunCheck_sameBut _).pos

/-- A vehicle placed inside a present segment has that segment as its path (01 R11). -/
theorem State.RouteSound.placeAt {s : State} (h : s.RouteSound) {k position : Nat} {g : Segment}
    (hg : Table.get s.pos.segments k = some g) (hp : position < g.length) : (s.placeAt k position).RouteSound := by
  rw [routeSound_iff]
  simp only [State.placeAt, State.evaluate_pos, State.setGdu_pos, State.removeReason_pos, State.setPos_pos]
  refine ⟨?_, ?_, nofun⟩
  · exact {
      lengths := h.lengths
      sorted := h.sorted
      head := rfl
      nodup := by simp
      short := by simp
      here := by simp [hg]
      chain := trivial
      alone := fun _ => rfl
      within := nofun
      last := nofun
      misses := Nat.zero_le 2 }
  · rintro _ g' ⟨⟩ hg'
    obtain rfl : g = g' := Option.some.inj (hg.symm.trans hg')
    exact hp

theorem State.RouteSound.placeVehicle {s : State} (h : s.RouteSound) (segment position : Nat) :
    (placeVehicle segment position s).Leaves State.RouteSound := by
  unfold Machine.placeVehicle
  split
  · trivial
  · split
    · trivial
    · split
      · trivial
      · rename_i hg
        split
        · trivial
        · split
          · trivial
          · rename_i hp
            exact h.placeAt hg (Nat.lt_of_not_le hp)

/-! ### Resets -/

theorem State.RouteSound.of_reset {s : State} (h : s.pos = Pos.reset) : s.RouteSound := by
  rw [routeSound_iff, h]
  refine ⟨?_, nofun, nofun⟩
  constructor <;> simp [Pos.reset, Pos.alone, chained]

theorem State.RouteSound.softReset {s : State} (h : s.RouteSound) : (Machine.softReset s).Leaves State.RouteSound := by
  obtain ⟨routed, inside, -⟩ := (routeSound_iff s).1 h
  unfold Machine.softReset
  split
  · exact (routeSound_iff _).2 ⟨routed.dropped.move rfl rfl rfl rfl (Nat.zero_le 2), inside, nofun⟩
  · trivial

/-! ### The step -/

/-- Every command keeps the route: those that do not change POS by their frame, the others each by its own rule. -/
theorem State.RouteSound.exec {s : State} (h : s.RouteSound) (c : Instr) :
    Result.Leaves State.RouteSound (exec c s) := by
  have others (hr : c.isReset = false) (hb : .pos ∉ c.blocks) : Result.Leaves State.RouteSound (Machine.exec c s) :=
    fun t ht => h.of_pos ((exec_sameBut c s hr t ht).pos hb)
  have events {f : State → State} (hf : (f s).RouteSound) : (event f s).RouteSound := by
    obtain ⟨-, e⟩ | ⟨-, e⟩ := event_cases s f
    · rwa [e]
    · rwa [e]
  cases c
  case guidanceSample e i => exact next_leaves (events (h.guidanceSample e i))
  case odometerPulse f => exact next_leaves (events (h.odometerPulse f))
  case markerRead k => exact next_leaves (events (h.markerRead k))
  case powerReset | pinReset => exact next_leaves (State.RouteSound.of_reset rfl)
  case resetEnd =>
    refine next_leaves (h.of_pos ?_)
    unfold resetEnd notDue
    split <;> rfl
  case putSegment => exact next_leaves (h.request fun hu => hu.putSegment _ _)
  case amendSegment => exact next_leaves (h.request fun hu => hu.amendSegment _ _ _)
  case retireSegment => exact next_leaves (h.request fun hu => hu.retireSegment _)
  case putAuthority => exact next_leaves (h.request fun hu => hu.putAuthority _ _)
  case amendAuthority => exact next_leaves (h.request fun hu => hu.amendAuthority _ _ _)
  case retireAuthority => exact next_leaves (h.request fun hu => hu.retireAuthority _)
  case place => exact next_leaves (h.request fun hu => hu.placeVehicle _ _)
  case softReset => exact next_leaves (h.request fun hu => hu.softReset)
  all_goals exact others rfl (by simp [Instr.blocks])

/-- Settles O18: a step runs a command on the queue's rest, or lets a microsecond pass, and each keeps the route. -/
theorem routeSoundKept : Obligations.RouteSoundKept := by
  intro s t hs ht
  unfold step at ht
  split at ht
  · cases ht
    exact hs.of_pos rfl
  · rename_i c rest _
    have rest : (s.setPending rest).RouteSound := hs.of_pos rfl
    exact rest.exec c t ht

end Sys2Proof.Machine
end

section
/-! PROOFS. What a taken request answers (09 R173 to R176), and with it the requests that report or edit one record: GET and
LIST of every class, and the requests on SEGMENT. -/

namespace Sys2Proof.Machine

/-! ### A taken request -/

/-- A request taken in IDLE is answered as `Answers` says, its frame that of the owning block's answer. -/
theorem request_answers {s u : State} {bs : List Block} {kind key : Nat} {act : State → Answer} {st : Status} {c : Bool}
    {p : List Byte} (hl : s.listening) (ha : act s.hearFrame = .take u st c p) (hf : SameBut bs s.hearFrame u)
    (hport : .port ∉ bs := by decide) :
    Answers s (request kind key act s) bs st kind key c (entersEStop s.hearFrame u) p := by
  rw [request_take hl.1 hl.2 ha]
  refine ⟨?_, fun hmsv => ?_, ?_⟩
  · rw [State.respond_port, hf.port hport]
    rfl
  · rw [State.respond_msv, hf.msv hmsv]
    rfl
  · exact (s.hearFrame_sameBut.mono (by simp)).trans
      ((hf.mono fun b hb => by simp [hb]).trans ((State.respond_sameBut _ _ _ _ _ _ _).mono (by simp)))

/-- A request that leaves the motion state did not make the vehicle enter E_STOP. -/
theorem entersEStop_of_motion {s t : State} (h : t.msv.motion = s.msv.motion) : entersEStop s t = false := by
  simp [entersEStop, h]

/-- The answer of a request that leaves MSV alone never carries ESTOP_CAUSED. -/
theorem request_answers_calm {s u : State} {bs : List Block} {kind key : Nat} {act : State → Answer} {st : Status}
    {c : Bool} {p : List Byte} (hl : s.listening) (ha : act s.hearFrame = .take u st c p)
    (hf : SameBut bs s.hearFrame u) (hport : .port ∉ bs := by decide) (hmsv : .msv ∉ bs := by decide) :
    Answers s (request kind key act s) bs st kind key c false p := by
  rw [← entersEStop_of_motion (s := s.hearFrame) (t := u) (by rw [hf.msv hmsv])]
  exact request_answers hl ha hf hport

/-- A request that only reports. -/
theorem request_reports {s : State} {kind key : Nat} {act : State → Answer} {p : List Byte} (hl : s.listening)
    (ha : act s.hearFrame = ok s.hearFrame p) : Answers s (request kind key act s) [] .ok kind key false false p :=
  request_answers_calm hl ha (.refl _ _)

/-! ### GET -/

theorem getSegment_taken {key : Nat} {g : Segment} {s : State} (hk : key ≤ 127) (hg : Table.get s.pos.segments key = some g) :
    getSegment key s = ok s (g.bytes (s.segState key)) := by simp [getSegment, Nat.not_lt.2 hk, hg]

theorem getAuthority_taken {s : State} {u : Authority} (hu : s.pos.authority = some u) :
    getAuthority 0 s = ok s (u8 u.segment ++ u16 u.offset ++ u32 (s.dAuth.getD 0) ++ u8 s.pos.path.length ++
      s.pos.path.flatMap u8) := by simp [getAuthority, State.authorityBytes, hu]

theorem getCue_taken {key : Nat} {c : Cue} {s : State} (hk : key ≤ 95) (hc : Table.get s.cue.cues key = some c) :
    getCue key s = ok s c.bytes := by simp [getCue, Nat.not_lt.2 hk, hc]

theorem getClip_taken {key : Nat} {c : Clip} {s : State} (hk : key ≤ 63) (hc : Table.get s.flp.clips key = some c) :
    getClip key s = ok s (c.bytes (s.clipProgress key c)) := by
  simp [getClip, State.clipBytes, Nat.not_lt.2 hk, hc]

theorem getLine_held {key : Nat} {h : LineHold} {s : State} (hk : key ≤ 11) (hh : s.cue.lines[key]? = some (some h)) :
    getLine key s = ok s h.bytes := by
  have hk' : ¬13 < key := by omega
  simp [getLine, hk, hk', List.getD_eq_getElem?_getD, hh]

theorem getLine_free {key : Nat} {s : State} (hk : key ≤ 11) (hh : s.cue.lines[key]? = some none) :
    getLine key s = ok (s.freeBytes 10).1 ([0xFF] ++ (s.freeBytes 10).2 ++ [0]) := by
  have hk' : ¬13 < key := by omega
  simp only [getLine, hk, hk', List.getD_eq_getElem?_getD, hh, if_true, if_false, Option.getD_some]
  rfl

theorem getLine_turntable_held {h : TurnHold} {s : State} (hh : s.cue.turntable = some h) :
    getLine 12 s =
      ok s (u8 h.holder ++ u8 h.level ++ s16 s.gdu.yawTarget ++ s16 s.gdu.yawCmd ++ s16 s.lines.encoder) := by
  simp [getLine, hh]

theorem getLine_turntable_free {s : State} (hh : s.cue.turntable = none) :
    getLine 12 s = ok (s.freeBytes 1).1
      ([0xFF] ++ (s.freeBytes 1).2 ++ s16 s.gdu.yawTarget ++ s16 s.gdu.yawCmd ++ s16 s.lines.encoder) := by
  simp [getLine, hh, u8]

theorem getLine_beacon (s : State) :
    getLine 13 s = ok s (u8 (if s.cue.beaconEnd = none then 0 else 1) ++ u8 s.cue.beacon.length ++
      s.cue.beacon.flatMap u8) := by
  cases h : s.cue.beaconEnd <;> simp [getLine, bit, h]

/-- The free bytes of a GET LINE response. -/
theorem State.freeBytes_length (n : Nat) (s : State) : (s.freeBytes n).2.length = n := by simp [State.freeBytes]

/-- Settles O59: each GET reports its record, by the equations above. -/
theorem getRequests : Obligations.GetRequests := by
  intro s key hl
  refine ⟨fun g hk hg => ⟨_, rfl, request_reports hl (getSegment_taken hk hg)⟩, ?_,
    fun hk => ⟨_, rfl, request_reports hl (if_neg (Nat.not_lt.2 hk))⟩,
    fun c hk hc => ⟨_, rfl, request_reports hl (getCue_taken hk hc)⟩,
    fun c hk hc => ⟨_, rfl, request_reports hl (getClip_taken hk hc)⟩,
    fun h1 h12 => ⟨_, rfl, request_reports hl (if_neg (by omega))⟩, ?_,
    fun hk => ⟨_, rfl, request_reports hl (if_neg (Nat.not_lt.2 hk))⟩,
    fun h hk hh => ⟨_, rfl, request_reports hl (getLine_held hk hh)⟩,
    fun hk hh => ⟨_, _, rfl, State.freeBytes_length 10 s.hearFrame,
      request_answers_calm hl (getLine_free hk hh) (State.freeBytes_sameBut _ 10)⟩, ?_, ?_, ?_⟩
  · rintro u rfl hu
    exact ⟨_, rfl, request_reports hl (getAuthority_taken hu)⟩
  · rintro rfl
    exact ⟨_, rfl, request_reports hl rfl⟩
  · rintro h rfl hh
    exact ⟨_, rfl, request_reports hl (getLine_turntable_held hh)⟩
  · rintro rfl hh
    exact ⟨_, _, rfl, State.freeBytes_length 1 s.hearFrame,
      request_answers_calm hl (getLine_turntable_free hh) (State.freeBytes_sameBut _ 1)⟩
  · rintro rfl
    exact ⟨_, rfl, request_reports hl (getLine_beacon _)⟩

/-! ### LIST -/

/-- The keys of a LIST response rise strictly. -/
abbrev Rising (l : List (Nat × Nat)) : Prop := l.Pairwise (fun a b => a.1 < b.1)

theorem rising_of_wf {α : Type} {t : Table α} (f : Nat × α → Nat) (h : Table.wf t) :
    Rising (t.map (fun p => (p.1, f p))) := List.Pairwise.map _ (fun _ _ hab => hab) h

theorem rising_range (n k : Nat) (f : Nat → Nat) : Rising ((List.range n).map (fun i => (i + k, f i))) :=
  List.Pairwise.map _ (fun _ _ hab => Nat.add_lt_add_right hab k) List.pairwise_lt_range

/-- The entries of a list of known length with their places. -/
theorem map_zipIdx_eq_range {α β : Type} (l : List α) (d : α) (f : α → Nat → β) :
    l.zipIdx.map (fun p => f p.1 p.2) = (List.range l.length).map (fun i => f (l.getD i d) i) := by
  apply List.ext_getElem <;> simp +contextual

/-- A LIST request answers its entries and changes nothing. -/
theorem list_answers {s : State} {key : Nat} {act : State → Answer} {l : List (Nat × Nat)} (hl : s.listening)
    (ha : act s.hearFrame = ok s.hearFrame (listBytes l)) (hr : Rising l) :
    ∃ t, Host.Outcome.next (request 0x05 key act s) = (.next t : Result) ∧
      Answers s t [] .ok 0x05 key false false (u8 l.length ++ l.flatMap (fun p => u8 p.1 ++ u8 p.2)) ∧ Rising l :=
  ⟨_, rfl, request_reports hl ha, hr⟩

/-- The entries that LIST SEAT, SOURCE, VOICE and LINE give, key by key. -/
theorem seatList_eq {s : State} (h : s.rsm.seats.length = 8) :
    s.rsm.seats.zipIdx.map (fun p => (p.2, p.1.state.code)) = (List.range 8).map (fun i => (i, (s.seat i).state.code)) := by
  rw [map_zipIdx_eq_range _ Seat.reset (fun t i => (i, t.state.code)), h]
  rfl

theorem sourceList_eq {s : State} (h : s.ntu.sources.length = 12) :
    s.ntu.sources.zipIdx.map (fun p => (p.2 + 1, p.1.listByte)) = (List.range 12).map (fun i =>
      (i + 1, (s.source (i + 1)).level + if (s.source (i + 1)).pending then 128 else 0)) := by
  rw [map_zipIdx_eq_range _ (Source.cleared 0) (fun t i => (i + 1, t.listByte)), h]
  rfl

theorem voiceList_eq {s : State} (h : s.snd.voices.length = 6) :
    s.snd.voices.zipIdx.map (fun p => (p.2, p.1.state.code)) = (List.range 6).map (fun i => (i, (s.voice i).state.code)) := by
  rw [map_zipIdx_eq_range _ Voice.reset (fun t i => (i, t.state.code)), h]
  rfl

theorem lineList_eq {s : State} (h : s.cue.lines.length = 12) :
    lineList s = (List.range 12).map (fun i => (i, ((s.cue.lines.getD i none).map (·.holder)).getD 255)) ++
      [(12, (s.cue.turntable.map (·.holder)).getD 255), (13, s.cue.beacon.length)] := by
  rw [lineList, map_zipIdx_eq_range _ none (fun (t : Option LineHold) i => (i, idByte (t.map (·.holder)))), h]
  rfl

theorem rising_lines (f : Nat → Nat) (a b : Nat) :
    Rising ((List.range 12).map (fun i => (i, f i)) ++ [(12, a), (13, b)]) := by
  refine List.pairwise_append.2 ⟨rising_range 12 0 f, by simp, ?_⟩
  simp only [List.mem_map, List.mem_range, List.mem_cons, List.not_mem_nil, or_false]
  rintro _ ⟨i, hi, rfl⟩ _ (rfl | rfl) <;> simp only <;> omega

/-- Settles O60: each LIST answers its class's entries, whose keys rise as the tables' do. -/
theorem listRequests : Obligations.ListRequests := by
  intro s key hl hs
  refine ⟨list_answers hl rfl (rising_of_wf _ hs.segments), ?_, ?_, list_answers hl rfl (rising_of_wf _ hs.cues),
    list_answers hl rfl (rising_of_wf _ hs.clips), ?_, list_answers hl rfl (by simp), ?_, ?_⟩
  · rintro rfl
    cases hu : s.pos.authority with
    | none => exact list_answers (act := listAuthority 0) hl (by simp [listAuthority, hu]) .nil
    | some u => exact list_answers (act := listAuthority 0) hl (by simp [listAuthority, hu]) (List.pairwise_singleton _ _)
  · rw [← seatList_eq hs.seats]
    exact list_answers hl rfl (seatList_eq hs.seats ▸ rising_range 8 0 _)
  · rw [← sourceList_eq hs.sources]
    exact list_answers hl rfl (sourceList_eq hs.sources ▸ rising_range 12 1 _)
  · rw [← voiceList_eq hs.voices]
    exact list_answers hl rfl (voiceList_eq hs.voices ▸ rising_range 6 0 _)
  · rw [← lineList_eq hs.lines]
    exact list_answers hl rfl (lineList_eq hs.lines ▸ rising_lines _ _ _)

/-! ### Requests on SEGMENT (01 R2 to R4) -/

/-- A checked payload for an entry off the path is stored, clamped, and answered as LOADED. -/
theorem takeSegment_valid {s : State} {key : Nat} {w : SegmentWire} (hwf : Table.wf s.pos.segments)
    (hk : key ∉ s.pos.path) (hw : w.valid = true) :
    s.takeSegment key w = .take (s.storeSegment key (w.clamped s.settings)) .ok
      (decide ((w.clamped s.settings).toWire ≠ w)) ((w.clamped s.settings).bytes .loaded) := by
  have loaded : (s.storeSegment key (w.clamped s.settings)).segState key = .loaded :=
    State.segState_of_not_mem _ (g := w.clamped s.settings)
      (by rw [State.storeSegment, State.setPos_pos, Table.get_put _ _ hwf, if_pos rfl]) hk
  simp [State.takeSegment, hw, loaded]

/-- A segment request that edits one entry: its answer, and the table read at every key. -/
theorem segment_edit_answers {s : State} {kind key : Nat} {act : State → Answer} {segs : Table Segment} {c : Bool}
    {p : List Byte} {f : Nat → Option Segment} (hl : s.listening)
    (ha : act s.hearFrame = .take (s.hearFrame.setPos { s.pos with segments := segs }) .ok c p)
    (hget : ∀ k, Table.get segs k = f k) :
    ∃ t, Host.Outcome.next (request kind key act s) = (.next t : Result) ∧ Answers s t [.pos] .ok kind key c false p ∧
      t.pos = { s.pos with segments := t.pos.segments } ∧ ∀ k, Table.get t.pos.segments k = f k := by
  have hpos : (request kind key act s).pos = { s.pos with segments := segs } := by rw [request_take hl.1 hl.2 ha]; rfl
  refine ⟨_, rfl, request_answers_calm hl ha (by simp [sameBut_iff]), ?_, ?_⟩
  · rw [hpos]
  · rw [hpos]
    exact hget

/-- An entry off the path is not locked. -/
theorem onPath_of_not_mem {s : State} {key : Nat} (hk : key ∉ s.pos.path) : s.onPath key = false :=
  Bool.eq_false_iff.2 fun h => hk ((s.onPath_iff key).1 h).2

theorem putSegment_taken {s : State} {key : Nat} {w : SegmentWire} (hkey : key ≤ 127) (hk : key ∉ s.pos.path) :
    putSegment key w s = s.takeSegment key w := by
  simp [putSegment, Nat.not_lt.2 hkey, onPath_of_not_mem hk]

theorem amendSegment_taken {s : State} {key presence : Nat} {w : SegmentWire} {o : Segment} (hkey : key ≤ 127)
    (hk : key ∉ s.pos.path) (ho : Table.get s.pos.segments key = some o) :
    amendSegment key presence w s =
      if noPresence presence 10 then ok s (o.bytes .loaded) else s.takeSegment key (w.over presence o.toWire) := by
  simp [amendSegment, Nat.not_lt.2 hkey, onPath_of_not_mem hk, ho, State.segState_of_not_mem s ho hk]

theorem retireSegment_taken {s : State} {key : Nat} {o : Segment} (hkey : key ≤ 127) (hk : key ∉ s.pos.path)
    (ho : Table.get s.pos.segments key = some o) :
    retireSegment key s = ok (s.setPos { s.pos with segments := Table.del key s.pos.segments }) [] := by
  simp [retireSegment, Nat.not_lt.2 hkey, onPath_of_not_mem hk, ho]

/-- Settles O36: each request edits the entry under its key, and the tables' laws say what every key reads. -/
theorem segmentRequests : Obligations.SegmentRequests := by
  intro s key presence w hl hwf hkey hk
  have stored (v : SegmentWire) (hv : v.valid = true) :=
    takeSegment_valid (s := s.hearFrame) (key := key) (w := v) hwf hk hv
  refine ⟨fun hw => ?_, fun o ho => ⟨fun hp hw => ?_, fun hp => ?_, ?_⟩⟩
  · exact segment_edit_answers hl ((putSegment_taken (s := s.hearFrame) hkey hk).trans (stored w hw))
      (Table.get_put key _ hwf)
  · have carries : noPresence presence 10 = false := by simpa [noPresence] using hp
    refine segment_edit_answers (act := amendSegment key presence w) hl ?_ (Table.get_put key _ hwf)
    rw [amendSegment_taken (s := s.hearFrame) hkey hk ho, carries]
    exact stored _ hw
  · have carriesNone : noPresence presence 10 = true := by simpa [noPresence] using hp
    refine ⟨_, rfl, request_reports (act := amendSegment key presence w) hl ?_⟩
    rw [amendSegment_taken (s := s.hearFrame) hkey hk ho, carriesNone]
    rfl
  · exact segment_edit_answers hl (retireSegment_taken (s := s.hearFrame) hkey hk ho) (Table.get_del key _)

end Sys2Proof.Machine
end

section
/-! PROOFS. The resets (09 §9.6) and the state right after one, the odometer and the guide sensor. -/

namespace Sys2Proof.Machine

/-! ### The state right after a reset -/

/-- Settles O4: the values that the chapters' tables give. -/
theorem resetValues : Obligations.ResetValues := by
  unfold Obligations.ResetValues
  decide

theorem reset_shaped : State.reset.Shaped := by
  constructor
  case flash => exact reset_flash_wf
  all_goals simp [State.reset, Rsm.reset, Snd.reset, CueUnit.reset, Ntu.reset, Msv.reset, Pos.reset, Flp.reset]

theorem reset_motionSafe : State.reset.MotionSafe := by
  constructor <;> simp [State.reset, Msv.reset, Rsm.reset, Motion.moving, Seat.reset]

theorem reset_soundSound : State.reset.SoundSound := by
  constructor <;> simp [State.reset, Snd.reset, Flp.reset, CueUnit.reset, Verify.idle, Table.get, Voice.reset,
    Voice.sounding]

theorem reset_noticesSound : State.reset.NoticesSound := by
  constructor <;> simp [State.reset, Ntu.reset, Source.sound, Source.cleared, State.source]

/-- Settles O22. -/
theorem resetMeetsInvariants : Obligations.ResetMeetsInvariants :=
  ⟨reset_shaped, reset_motionSafe, .of_reset rfl, reset_soundSound, reset_noticesSound⟩

/-! ### POWER_RESET and PIN_RESET -/

/-- Bytes left free are those of their range. -/
theorem Memory.read_havoc (n : Nat) {m : Memory} {a k x : Nat} (h : Memory.wf m) (hx : x < a ∨ a + n ≤ x) :
    Memory.read (Memory.havoc m a k n) x = Memory.read m x := by
  induction n generalizing m a k with
  | zero => rfl
  | succ n ih =>
    rw [Memory.havoc, ih (Memory.wf_write a _ h) (by omega), Memory.read_write a _ h, if_neg (by omega)]

/-- The flash keeps every byte outside a program or erase step that is cut off (06 R139). -/
theorem State.read_cutUnit (s : State) (h : Memory.wf s.flp.flash) (x : Nat)
    (hx : ∀ g, s.flp.grant = some g → g.work.isStep = true → x < g.work.addr ∨ g.work.addr + g.work.size ≤ x) :
    Memory.read s.cutUnit.flp.flash x = Memory.read s.flp.flash x := by
  unfold State.cutUnit State.havocUnit
  split
  · rename_i g hg
    split
    · rename_i hstep
      exact Memory.read_havoc _ h (hx g hg hstep)
    · rfl
  · rfl

/-- The outputs of a state whose units hold their reset values (03 R62, 04 R63, 05 R112, R116, 08 R165). -/
theorem State.solenoid_of_reset {t : State} (h : t.rsm = Rsm.reset) (i : Nat) : t.solenoid i = false := by
  have disabled : (t.rsm.seats.getD i Seat.reset).state = .disabled := by
    rw [h, Rsm.reset, List.getD_eq_getElem?_getD, List.getElem?_getD_replicate_default_eq]
    rfl
  unfold State.solenoid
  rw [disabled]

theorem State.effectLine_of_reset {t : State} (h : t.cue = CueUnit.reset) (i : Nat) : t.effectLine i = false := by
  unfold State.effectLine
  rw [h, CueUnit.reset, List.getD_eq_getElem?_getD, List.getElem?_getD_replicate_default_eq]
  rfl

/-- Settles O5: both commands are a hard reset, each with its cause; the units hold their reset values, and the levels of the
outputs follow from them. -/
theorem hardResetHoldsBlocks : Obligations.HardResetHoldsBlocks := by
  intro s e c hc
  have pinCause : s.pinCause = if s.inReset = true ∧ s.port.cause = .power then .power else .pin := by
    simp [State.pinCause]
  obtain ⟨cause, run, power, pin⟩ : ∃ cause, exec c s = .next (s.hardReset cause e) ∧
      (c = .powerReset e → cause = .power) ∧
      (c = .pinReset e → cause = if s.inReset = true ∧ s.port.cause = .power then .power else .pin) := by
    rcases hc with rfl | rfl
    · exact ⟨.power, rfl, fun _ => rfl, nofun⟩
    · exact ⟨s.pinCause, rfl, nofun, fun _ => pinCause⟩
  exact ⟨_, run, rfl, rfl, rfl, rfl, rfl, rfl, rfl, rfl, rfl, rfl, rfl, rfl, rfl, power, pin, rfl, rfl,
    State.solenoid_of_reset rfl, State.effectLine_of_reset rfl, rfl, rfl, rfl, rfl, rfl, s.read_cutUnit⟩

/-! ### SOFT_RESET -/

/-- A clip being verified goes back to QUEUED, every other keeps its state (06 R140). -/
theorem Flp.soft_get (f : Flp) (k : Nat) : Table.get f.soft.clips k =
    (Table.get f.clips k).map (fun c => if f.verifying.clip = some k then { c with state := .queued } else c) := by
  unfold Flp.soft
  cases h : f.verifying.clip with
  | none => simp
  | some id =>
    simp only [Table.get_update]
    by_cases hk : k = id
    · simp [hk]
    · simp [hk, Ne.symm hk]

theorem softReset_taken {s : State} (h : s.msv.motion = .parked ∨ s.msv.motion = .stopped) :
    softReset s = ok s.softReset [3] := by
  rcases h with h | h <;> simp [softReset, State.atRest, h] <;> rfl

/-- Settles O7: the units' own SOFT resets, on the state that the frame's arrival left. -/
theorem softResetClears : Obligations.SoftResetClears := by
  intro s key hl hm
  have taken : softReset s.hearFrame = ok s.hearFrame.softReset [3] := softReset_taken hm
  have calm : entersEStop s.hearFrame s.hearFrame.softReset = false := by
    simp [entersEStop, State.softReset, Msv.soft]
  have result : exec (.softReset key) s =
      .next (s.hearFrame.softReset.respond 0x36 key .ok false false [3]) := by
    change Host.Outcome.next (request 0x36 key softReset s) = _
    rw [request_take hl.1 hl.2 taken, calm]
  refine ⟨_, result, rfl, ?_, rfl, rfl, rfl, rfl, rfl, rfl, rfl, rfl, rfl, rfl, rfl, ?_, rfl, rfl, rfl, rfl, rfl, rfl, ?_,
    rfl, rfl⟩
  · simp [sameBut_iff, State.softReset]
  · exact fun k => Table.get_mapValues Cue.soft s.cue.cues k
  · exact s.flp.soft_get

/-! ### The odometer and the guide sensor (01 R12, 02 R23) -/

/-- An event outside a reset is carried out. -/
theorem event_of_running {s : State} {f : State → State} (h : s.inReset = false) : event f s = f s := by
  simp [event, h]

/-- Settles O23, by the cases of 01 R12 and 02 R23. -/
theorem sensorEvents : Obligations.SensorEvents := by
  intro s forward w hr
  have pulse : exec (.odometerPulse forward) s = .next (odometerPulse forward s) :=
    congrArg Host.Outcome.next (event_of_running hr)
  have word (v : Option GuideWord) : exec (.guideWord v) s = .next (guideWord v s) :=
    congrArg Host.Outcome.next (event_of_running hr)
  rw [pulse, word, word]
  refine ⟨fun ha hq => ?_, fun p hp hearly => ?_, fun ha => ?_, rfl, rfl⟩
  · have qualified : s.pos.lastPulse.all (fun t => decide (t + s.settings.rejector ≤ s.now)) = true := by
      cases hp : s.pos.lastPulse with
      | none => rfl
      | some p => simpa using hq p hp
    simp only [odometerPulse, Option.isNone_iff_eq_none, ha, if_false, qualified, if_true]
    cases forward <;> rfl
  · have early : s.pos.lastPulse.all (fun t => decide (t + s.settings.rejector ≤ s.now)) = false := by
      simpa [hp] using hearly
    simp [odometerPulse, early]
  · simp [odometerPulse, ha]

end Sys2Proof.Machine
end

section
/-! SUPPORT. What reasons, notices and the cue engine do to MSV, GDU and NTU: the sources that an operation may raise at, the
stop reasons and motion state that it leaves, and the part of the cue engine in both. -/

namespace Sys2Proof.Machine

/-! ### Notices (08 R163) -/

/-- At most the sources `ns` have recorded an occurrence; the rest of NTU is as it was. -/
structure RaisesOnly (ns : List Nat) (s t : State) : Prop where
  rest : t.ntu = { s.ntu with sources := t.ntu.sources }
  length : t.ntu.sources.length = s.ntu.sources.length
  others : ∀ i, i + 1 ∉ ns → t.ntu.sources[i]? = s.ntu.sources[i]?

namespace RaisesOnly

variable {ns ms : List Nat} {s t u : State}

theorem of_ntu (h : t.ntu = s.ntu) : RaisesOnly ns s t := ⟨by rw [h], by rw [h], fun _ _ => by rw [h]⟩

theorem refl (ns : List Nat) (s : State) : RaisesOnly ns s s := of_ntu rfl

theorem trans (h : RaisesOnly ns s t) (h' : RaisesOnly ns t u) : RaisesOnly ns s u :=
  ⟨by rw [h'.rest, h.rest], h'.length.trans h.length, fun i hi => (h'.others i hi).trans (h.others i hi)⟩

theorem mono (h : RaisesOnly ns s t) (hs : ns ⊆ ms := by decide) : RaisesOnly ms s t :=
  ⟨h.rest, h.length, fun i hi => h.others i fun hi' => hi (hs hi')⟩

/-- A source that is not named keeps its record. -/
theorem source (h : RaisesOnly ns s t) (n : Nat) (hn : n ∉ ns := by decide) (h1 : 1 ≤ n := by decide) :
    t.source n = s.source n := by
  obtain ⟨i, rfl⟩ : ∃ i, n = i + 1 := ⟨n - 1, by omega⟩
  simp only [State.source, List.getD_eq_getElem?_getD, Nat.add_sub_cancel, h.others i hn]

end RaisesOnly

theorem Notice.one_le_source (n : Notice) : 1 ≤ n.source := by cases n <;> simp [Notice.source]

theorem Notice.source_le (n : Notice) : n.source ≤ 12 := by cases n <;> simp [Notice.source]

theorem State.raise_raisesOnly (n : Notice) (s : State) {ns : List Nat}
    (h : n.source ∈ ns := by simp [Notice.source]) : RaisesOnly ns s (s.raise n) := by
  refine ⟨rfl, by simp [State.raise], fun i hi => ?_⟩
  have hne : n.source - 1 ≠ i := by
    rintro rfl
    rw [Nat.sub_add_cancel n.one_le_source] at hi
    exact hi h
  simp [State.raise, hne]

/-- The source of a notice records it (08 R163). -/
theorem State.source_raise (n : Notice) {s : State} (h : s.ntu.sources.length = 12) :
    (s.raise n).source n.source = Source.record n (s.source n.source) := by
  have hlt : n.source - 1 < s.ntu.sources.length := by
    have := n.source_le
    have := n.one_le_source
    omega
  simp [State.source, State.raise, hlt]

theorem State.startVoice_raisesOnly (i : Nat) (q : Claim) (c : Clip) (s : State) :
    RaisesOnly [7] s (s.startVoice i q c) := by
  have yielded : RaisesOnly [7] s (s.yieldVoice i) := by
    unfold State.yieldVoice
    split
    · exact State.raise_raisesOnly _ s
    · exact State.raise_raisesOnly _ s
    · exact .refl _ _
  refine yielded.trans (.of_ntu ?_)
  unfold State.startVoice
  dsimp only
  rw [State.placeRefill_ntu, State.setSnd_ntu]
  split <;> simp

theorem State.claimVoice_raisesOnly {q : Claim} {s t : State} {i : Nat} (h : s.claimVoice q = some (t, i)) :
    RaisesOnly [7] s t := by
  unfold State.claimVoice at h
  split at h
  · cases h
    exact State.startVoice_raisesOnly _ _ _ s
  · cases h

theorem State.announceStop_raisesOnly (s : State) : RaisesOnly [7] s s.announceStop := by
  have faded : RaisesOnly [7] s (s.fadeVoices (fun v => v.level < 3)) := .of_ntu (by simp)
  unfold State.announceStop
  dsimp only
  split
  · exact faded
  · split
    · exact faded.trans (State.raise_raisesOnly _ _)
    · split
      · rename_i h
        exact faded.trans (State.claimVoice_raisesOnly h)
      · exact faded.trans (State.raise_raisesOnly _ _)

theorem State.enterEStop_raisesOnly (s : State) : RaisesOnly [7] s s.enterEStop :=
  (RaisesOnly.of_ntu (by simp)).trans (State.announceStop_raisesOnly _)

/-! ### Stop reasons (04 R65 to R67) -/

theorem State.addReason_raisesOnly (r : StopReason) (s : State) : RaisesOnly [1, 3, 7] s (s.addReason r) := by
  have joined (m : Msv) : RaisesOnly [1, 3, 7] s (s.setMsv m) := .of_ntu (by simp)
  obtain ⟨-, e⟩ | ⟨-, -, -, e⟩ | ⟨-, -, -, -, e⟩ | ⟨-, -, -, e | e⟩ | ⟨-, -, -, -, e⟩ := s.addReason_cases r
  · rw [e]
    exact .refl _ _
  · exact e ▸ (joined _).trans (State.raise_raisesOnly _ _)
  · exact e ▸ ((joined _).trans (State.enterEStop_raisesOnly _).mono).trans (State.raise_raisesOnly _ _)
  · exact e ▸ .of_ntu (by simp)
  · rw [e]
    exact (RaisesOnly.of_ntu (by simp)).trans (State.raise_raisesOnly _ _)
  · exact e ▸ joined _

/-- The set after a reason has joined it. -/
@[simp] theorem State.mem_addReason (r x : StopReason) (s : State) :
    x ∈ (s.addReason r).msv.reasons ↔ x = r ∨ x ∈ s.msv.reasons := by
  obtain ⟨h, e⟩ | ⟨-, -, -, e⟩ | ⟨-, -, -, -, e⟩ | ⟨-, -, -, e | e⟩ | ⟨-, -, -, -, e⟩ := s.addReason_cases r
  · rw [e]
    exact ⟨.inr, fun hx => hx.elim (fun hr => hr ▸ h) id⟩
  all_goals simp [e, mem_insertReason]

/-- A new E reason enters E_STOP outside PARKED (04 R66). -/
theorem State.addReason_motion_of_isE {r : StopReason} {s : State} (hr : r.isE = true) (hnew : r ∉ s.msv.reasons)
    (hm : s.msv.motion ≠ .parked) : (s.addReason r).msv.motion = .eStop := by
  obtain ⟨h, -⟩ | ⟨-, -, h, e⟩ | ⟨-, -, -, -, e⟩ | ⟨-, h, -⟩ | ⟨-, h, -⟩ := s.addReason_cases r
  · exact absurd h hnew
  · simpa [e] using h.resolve_left hm
  · simp [e]
  · simp [hr] at h
  · simp [hr] at h

/-- A new E reason outside PARKED and E_STOP leaves v_cmd 0 (04 R66). -/
theorem State.addReason_vCmd_of_isE {r : StopReason} {s : State} (hr : r.isE = true) (hnew : r ∉ s.msv.reasons)
    (hm : s.msv.motion.moving = true) : (s.addReason r).msv.vCmd = 0 := by
  obtain ⟨h, -⟩ | ⟨-, -, h | h, -⟩ | ⟨-, -, -, -, e⟩ | ⟨-, h, -⟩ | ⟨-, h, -⟩ := s.addReason_cases r
  · exact absurd h hnew
  · simp [h, Motion.moving] at hm
  · simp [h, Motion.moving] at hm
  · simp [e]
  · simp [hr] at h
  · simp [hr] at h

/-- A new S reason makes a moving vehicle stop safely (04 R67). -/
theorem State.addReason_motion_of_moving {r : StopReason} {s : State} (hr : r.isE = false) (hnew : r ∉ s.msv.reasons)
    (hm : s.msv.motion.moving = true) : (s.addReason r).msv.motion = .safeStop := by
  obtain ⟨h, -⟩ | ⟨-, h, -⟩ | ⟨-, h, -⟩ | ⟨-, -, -, e | e⟩ | ⟨-, -, h1, h2, e⟩ := s.addReason_cases r
  · exact absurd h hnew
  · simp [hr] at h
  · simp [hr] at h
  · simp [e]
  · simp [e]
  · cases hs : s.msv.motion <;> simp_all [Motion.moving]

/-- An S reason leaves a vehicle that does not move where it is (04 R67). -/
theorem State.addReason_motion_of_still {r : StopReason} {s : State} (hr : r.isE = false)
    (hm : s.msv.motion.moving = false) : (s.addReason r).msv.motion = s.msv.motion := by
  obtain ⟨-, e⟩ | ⟨-, h, -⟩ | ⟨-, h, -⟩ | ⟨-, -, h | h, -⟩ | ⟨-, -, -, -, e⟩ := s.addReason_cases r
  · rw [e]
  · simp [hr] at h
  · simp [hr] at h
  · simp [h, Motion.moving] at hm
  · simp [h, Motion.moving] at hm
  · simp [e]

/-- An S reason changes MSV and NTU only. -/
theorem State.addReason_sameBut_of_isS {r : StopReason} (hr : r.isE = false) (s : State) :
    SameBut [.msv, .ntu] s (s.addReason r) := by
  obtain ⟨-, e⟩ | ⟨-, h, -⟩ | ⟨-, h, -⟩ | ⟨-, -, -, e | e⟩ | ⟨-, -, -, -, e⟩ := s.addReason_cases r
  · rw [e]
    exact .refl _ _
  · simp [hr] at h
  · simp [hr] at h
  all_goals simp [e, sameBut_iff]

/-- What a guidance sample never undoes: a stop reason but YAW_FOLLOW stays in the set, E_STOP is not left and PARKED not
entered. -/
structure State.Carries (s t : State) : Prop where
  reasons : ∀ r ∈ s.msv.reasons, r ≠ .yawFollow → r ∈ t.msv.reasons
  eStop : s.msv.motion = .eStop → t.msv.motion = .eStop
  unparked : s.msv.motion ≠ .parked → t.msv.motion ≠ .parked

namespace State.Carries

variable {s t u : State}

theorem of_eq (hr : t.msv.reasons = s.msv.reasons) (hm : t.msv.motion = s.msv.motion) : s.Carries t :=
  ⟨fun _ h _ => hr ▸ h, fun h => hm.trans h, fun h => hm ▸ h⟩

theorem refl (s : State) : s.Carries s := of_eq rfl rfl

theorem trans (h : s.Carries t) (h' : t.Carries u) : s.Carries u :=
  ⟨fun r hr hy => h'.reasons r (h.reasons r hr hy) hy, fun hm => h'.eStop (h.eStop hm), fun hm => h'.unparked (h.unparked hm)⟩

end State.Carries

theorem State.addReason_carries (r : StopReason) (s : State) : s.Carries (s.addReason r) := by
  refine ⟨fun x hx _ => (s.mem_addReason r x).2 (.inr hx), fun hm => ?_, fun hm => ?_⟩
  all_goals
    obtain ⟨-, e⟩ | ⟨-, -, -, e⟩ | ⟨-, -, h1, h2, e⟩ | ⟨-, -, h1, e | e⟩ | ⟨-, -, -, -, e⟩ := s.addReason_cases r
    all_goals simp_all

/-! ### The cue engine (05) -/

/-- What the cue engine does outside its own unit: a yaw target, a dwell of a running vehicle, notices of its own, of voices and
of the dwell's motion state. -/
structure State.CueStep (s t : State) : Prop where
  gdu : t.gdu = { s.gdu with yawTarget := t.gdu.yawTarget }
  msv : t.msv = s.msv ∨
    (s.msv.motion = .running ∨ s.msv.motion = .dwell) ∧ t.msv.motion = .dwell ∧ t.msv.reasons = s.msv.reasons
  raises : RaisesOnly [3, 6, 7] s t

namespace State.CueStep

variable {s t u : State}

theorem of_raises (hg : t.gdu = s.gdu) (hm : t.msv = s.msv) (hr : RaisesOnly [3, 6, 7] s t) : s.CueStep t :=
  ⟨by rw [hg], .inl hm, hr⟩

theorem of_same (hg : t.gdu = s.gdu) (hm : t.msv = s.msv) (hn : t.ntu = s.ntu) : s.CueStep t :=
  of_raises hg hm (.of_ntu hn)

theorem refl (s : State) : s.CueStep s := of_same rfl rfl rfl

theorem trans (h : s.CueStep t) (h' : t.CueStep u) : s.CueStep u := by
  refine ⟨by rw [h'.gdu, h.gdu], ?_, h.raises.trans h'.raises⟩
  obtain e | ⟨hs, ht, hr⟩ := h.msv
  · rw [← e]
    exact h'.msv
  · obtain e' | ⟨-, hu, hr'⟩ := h'.msv
    · exact .inr ⟨hs, by rw [e', ht], by rw [e', hr]⟩
    · exact .inr ⟨hs, hu, hr'.trans hr⟩

theorem reasons (h : s.CueStep t) : t.msv.reasons = s.msv.reasons := h.msv.elim (fun e => by rw [e]) (·.2.2)

/-- Outside RUNNING and DWELL the cue engine leaves MSV as it is. -/
theorem msv_of_still (h : s.CueStep t) (h1 : s.msv.motion ≠ .running) (h2 : s.msv.motion ≠ .dwell) : t.msv = s.msv :=
  h.msv.resolve_right fun hm => hm.1.elim h1 h2

theorem carries (h : s.CueStep t) : s.Carries t := by
  obtain e | ⟨hs, ht, hr⟩ := h.msv
  · exact .of_eq (by rw [e]) (by rw [e])
  · refine ⟨fun r hm _ => hr ▸ hm, fun hm => ?_, fun _ => by simp [ht]⟩
    simp [hm] at hs

end State.CueStep

variable (s : State)

theorem State.raise_cueStep (n : Notice) (h : n.source ∈ [3, 6, 7] := by simp [Notice.source]) :
    s.CueStep (s.raise n) := .of_raises rfl rfl (s.raise_raisesOnly n h)

theorem State.updateCue_cueStep (id : Nat) (f : Cue → Cue) : s.CueStep (s.updateCue id f) := .of_same rfl rfl rfl

theorem State.skipAction_cueStep (id idx : Nat) : s.CueStep (s.skipAction id idx) :=
  (s.updateCue_cueStep id _).trans (State.raise_cueStep _ (.cueSkipped id (some idx)))

theorem State.skipCue_cueStep (id : Nat) : s.CueStep (s.skipCue id) :=
  (s.updateCue_cueStep id _).trans (State.raise_cueStep _ (.cueSkipped id none))

theorem State.conflict_cueStep (id holder output : Nat) : s.CueStep (s.conflict id holder output) :=
  (((s.updateCue_cueStep id _).trans (State.updateCue_cueStep _ holder _)).trans
    (State.raise_cueStep _ (.cueConflict id output))).trans (State.raise_cueStep _ (.cueConflict holder output))

theorem State.runDwell_cueStep (id idx ms : Nat) : s.CueStep (s.runDwell id idx ms) := by
  unfold State.runDwell State.requestDwell
  split
  · rename_i hm
    have dwells : RaisesOnly [3, 6, 7] s (s.setMsv { s.msv with motion := .dwell, dwell := some (.ramping ms), held := false }) :=
      .of_ntu rfl
    exact ⟨rfl, .inr ⟨.inl hm, rfl, rfl⟩, dwells.trans (State.raise_raisesOnly (.motion .dwell) _)⟩
  · rename_i hm
    exact ⟨rfl, .inr ⟨.inr hm, hm, rfl⟩, .of_ntu rfl⟩
  all_goals exact s.skipAction_cueStep id idx

theorem State.runAction_cueStep (id level idx : Nat) (a : Action) : s.CueStep (s.runAction id level idx a) := by
  cases a with
  | play c b g l x =>
    unfold State.runAction State.runPlay
    dsimp only
    split
    · rename_i h
      exact .of_raises (State.claimVoice_gdu h) (State.claimVoice_msv h) (State.claimVoice_raisesOnly h).mono
    · exact s.skipAction_cueStep id idx
  | effect n on off k t =>
    unfold State.runAction State.runEffect
    dsimp only
    split
    · exact s.skipAction_cueStep id idx
    · split
      · exact .of_same rfl rfl rfl
      · refine State.CueStep.trans ?_ (State.conflict_cueStep _ _ _ _)
        exact .of_same rfl rfl rfl
      · exact s.conflict_cueStep _ _ _
  | beacon c =>
    unfold State.runAction State.runBeacon
    dsimp only
    split
    · exact s.skipAction_cueStep id idx
    · exact .of_same rfl rfl rfl
  | yaw y =>
    have stored : s.CueStep ((s.setCue { s.cue with turntable := some ⟨id, level⟩ }).storeYawTarget y) :=
      ⟨rfl, .inl rfl, .of_ntu rfl⟩
    unfold State.runAction State.runYaw
    dsimp only
    split
    · exact stored
    · exact stored.trans (State.conflict_cueStep _ _ _ _)
    · exact s.conflict_cueStep _ _ _
  | dwell ms => exact s.runDwell_cueStep id idx ms
  | slow v => exact .of_same rfl rfl rfl

theorem State.runActions_cueStep (id level idx : Nat) (as : List Action) (s : State) :
    s.CueStep (State.runActions id level idx as s) := by
  induction as generalizing idx s with
  | nil => exact .refl _
  | cons a as ih => exact (s.runAction_cueStep id level idx a).trans (ih _ _)

theorem State.fireCue_cueStep (id : Nat) (c : Cue) : s.CueStep (s.fireCue id c) := by
  have active : s.CueStep (s.updateCue id (fun c => { c with state := .active, slow := none })) := .of_same rfl rfl rfl
  unfold State.fireCue
  dsimp only
  split
  · exact (active.trans (State.raise_cueStep _ _)).trans (State.runActions_cueStep _ _ _ _ _)
  · exact active.trans (State.runActions_cueStep _ _ _ _ _)

theorem State.exitCue_cueStep (id : Nat) (all : Bool) : s.CueStep (s.exitCue id all) :=
  .of_same (by simp) (by simp) (by simp)

theorem State.leaveCue_cueStep (seg id : Nat) : s.CueStep (s.leaveCue seg id) := by
  unfold State.leaveCue
  dsimp only
  repeat' split
  · exact .refl _
  · exact .refl _
  · exact (s.exitCue_cueStep id false).trans (State.updateCue_cueStep _ _ _)
  · exact s.updateCue_cueStep id _
  · exact s.exitCue_cueStep id false
  · exact .refl _

theorem State.endCue_cueStep (seg len id : Nat) : s.CueStep (s.endCue seg len id) := by
  unfold State.endCue
  repeat' split
  · exact .refl _
  · exact s.exitCue_cueStep id false
  · exact .refl _

theorem State.judgeCue_cueStep (seg len id : Nat) : s.CueStep (s.judgeCue seg len id) := by
  unfold State.judgeCue
  split
  · exact .refl _
  · split
    · exact .refl _
    · split
      · exact s.fireCue_cueStep id _
      · split
        · exact s.skipCue_cueStep id
        · exact .refl _

theorem eachId_cueStep {f : Nat → State → State} (h : ∀ i (s : State), s.CueStep (f i s)) (ids : List Nat) (s : State) :
    s.CueStep (eachId f ids s) := by
  unfold eachId
  induction ids generalizing s with
  | nil => exact .refl _
  | cons i ids ih => exact (h i s).trans (ih _)

/-- An evaluation does what its cues do (05 R99). -/
theorem State.evaluate_cueStep (moved : Bool) : s.CueStep (s.evaluate moved) := by
  have left (e : Nat) (ids : List Nat) := eachId_cueStep (fun i s => State.leaveCue_cueStep s e i) ids s
  have ended (a n : Nat) (ids : List Nat) (s : State) := eachId_cueStep (fun i s => State.endCue_cueStep s a n i) ids s
  have judged (a n : Nat) (ids : List Nat) (s : State) := eachId_cueStep (fun i s => State.judgeCue_cueStep s a n i) ids s
  unfold State.evaluate
  dsimp only
  split
  · exact .refl _
  · refine State.CueStep.trans ?_ ((ended _ _ _ _).trans ((judged _ _ _ _).trans (.of_same rfl rfl rfl)))
    split
    · exact left _ _
    · exact .refl _

end Sys2Proof.Machine
end

section
/-! PROOFS. PLACE and YAW, the marker reads, and the requests on AUTHORITY (01 R7 to R11, R15, R18, R19, 02 R32, 04 R83). -/

namespace Sys2Proof.Machine

/-! ### PLACE and YAW -/

/-- A vehicle at rest is neither RUNNING nor in DWELL, so no cue of the evaluation can make it dwell. -/
theorem placeAt_msv {s : State} (hm : s.msv.motion = .parked ∨ s.msv.motion = .stopped) (k position : Nat) :
    (s.placeAt k position).msv = { s.msv with reasons := s.msv.reasons.filter (fun r => r ≠ .position) } := by
  refine (State.evaluate_cueStep _ true).msv_of_still ?_ ?_
  all_goals rcases hm with hm | hm <;> simp [State.removeReason, hm]

theorem placeAt_ePrev (s : State) (k position : Nat) : (s.placeAt k position).gdu.ePrev = 0 := by
  unfold State.placeAt
  dsimp only
  rw [(State.evaluate_cueStep _ true).gdu]
  rfl

theorem placeVehicle_taken {s : State} {segment position : Nat} {g : Segment}
    (hm : s.msv.motion = .parked ∨ s.msv.motion = .stopped) (hk : segment ≤ 127)
    (hg : Table.get s.pos.segments segment = some g) (hpath : segment ∉ s.pos.path) (hp : position < g.length) :
    placeVehicle segment position s = ok (s.placeAt segment position) (u8 segment ++ u16 position) := by
  simp [placeVehicle, hm, Nat.not_lt.2 hk, hg, onPath_of_not_mem hpath, Nat.not_le.2 hp]

theorem hostYaw_taken {s : State} (hm : s.msv.motion = .parked ∨ s.msv.motion = .stopped) (target : Int) :
    hostYaw target s =
      .take ((s.storeYawTarget target).setCue { s.cue with turntable := none }) .ok
        (decide (clampInt s.settings.yawMin s.settings.yawMax target ≠ target))
        (s16 (clampInt s.settings.yawMin s.settings.yawMax target)) := if_pos hm.symm

/-- Settles O35. -/
theorem placeAndYaw : Obligations.PlaceAndYaw := by
  intro s key hl hm
  refine ⟨fun segment position g hk hg hpath hp => ?_, fun target => ?_⟩
  · have taken := placeVehicle_taken (s := s.hearFrame) hm hk hg hpath hp
    have msv := placeAt_msv (s := s.hearFrame) hm segment position
    have calm : entersEStop s.hearFrame (s.hearFrame.placeAt segment position) = false :=
      entersEStop_of_motion (by rw [msv])
    have result := request_take (kind := 0x22) (key := key) hl.1 hl.2 taken
    refine ⟨_, rfl, ?_, ?_, ?_, ?_⟩
    · have answered := request_answers (kind := 0x22) (key := key) hl taken (State.placeAt_sameBut _ _ _)
      rwa [calm] at answered
    · rw [result, State.respond_pos]
      exact State.evaluate_pos _ _
    · rw [result, State.respond_gdu]
      exact placeAt_ePrev _ _ _
    · rw [result, State.respond_msv]
      exact msv
  · have taken := hostYaw_taken (s := s.hearFrame) hm target
    have result := request_take (kind := 0x28) (key := key) hl.1 hl.2 taken
    have gdu : (request 0x28 key (hostYaw target) s).gdu =
        { s.gdu with yawTarget := max s.settings.yawMin (min s.settings.yawMax target) } := by rw [result]; rfl
    refine ⟨_, rfl, ?_, gdu, ?_⟩
    · rw [gdu]
      exact request_answers_calm hl taken (by simp [sameBut_iff])
    · rw [result]
      rfl

/-! ### Marker reads -/

/-- The check of the authority point, field by field. -/
theorem Pos.checked_eq (p : Pos) : p.checked =
    { p with
      authority := if p.pointPassed then none else p.authority
      path := if p.pointPassed then p.alone else p.path } := by
  unfold Pos.checked
  split <;> rfl

theorem Pos.pointPassed_of_none {p : Pos} (h : p.authority = none) : p.pointPassed = false := by
  simp [Pos.pointPassed, h]

/-- The point passed, the reason joins the set (01 R15). -/
theorem State.checkPoint_reasons {s : State} (h : s.pos.pointPassed = true) :
    .authorityOverrun ∈ s.checkPoint.msv.reasons := by simp [State.checkPoint_eq, h]

/-- MARKER_READ by the cases of 01 R18. -/
theorem markerRead_cases {s : State} {a code : Nat} {g : Segment} (hact : s.activeSegment = some (a, g)) (hc : code ≠ 0) :
    (∀ m, g.marker = some m → m.code = code → s.pos.markerSeen = true → markerRead code s = s) ∧
    (∀ m, g.marker = some m → m.code = code → s.pos.markerSeen = false → s.pos.s ≤ m.offset + m.tolerance →
      m.offset ≤ s.pos.s + m.tolerance → m.offset < g.length → markerRead code s = s.correct m.offset) ∧
    ((∀ m, g.marker = some m → m.code = code → s.pos.markerSeen = false ∧ ¬(s.pos.s ≤ m.offset + m.tolerance ∧
      m.offset ≤ s.pos.s + m.tolerance ∧ m.offset < g.length)) → markerRead code s = s.mismatch a code) := by
  unfold markerRead
  simp only [hact, hc, if_false]
  cases hm : g.marker with
  | none => simp
  | some m =>
    refine ⟨?_, ?_, fun h => ?_⟩
    · rintro _ ⟨⟩ hcode hseen
      simp [hcode, hseen]
    · rintro _ ⟨⟩ hcode hseen h1 h2 h3
      simp [hcode, hseen, h1, h2, h3]
    · by_cases hcode : m.code = code
      · obtain ⟨hseen, hwindow⟩ := h m rfl hcode
        simp only [hcode, hseen, true_and, if_neg hwindow]
        simp
      · simp [hcode]

theorem State.correct_pos (s : State) (offset : Nat) : (s.correct offset).pos =
    Pos.checked { s.pos with sPrev := s.pos.s, s := offset, residue := 0, markerSeen := true, missCount := 0 } := by
  simp [State.correct]

/-- A correction that reaches the authority point (01 R15). -/
theorem State.correct_overruns {s : State} {a offset : Nat} {u : Authority} (ha : s.pos.active = some a)
    (hu : s.pos.authority = some u) (hseg : u.segment = a) (hoff : u.offset ≤ offset) :
    (s.correct offset).pos.authority = none ∧ .authorityOverrun ∈ (s.correct offset).msv.reasons := by
  have passed : Pos.pointPassed
      { s.pos with sPrev := s.pos.s, s := offset, residue := 0, markerSeen := true, missCount := 0 } = true := by
    simp [Pos.pointPassed, hu, ha, hseg, hoff]
  refine ⟨by simp [State.correct_pos, Pos.checked, passed, Pos.dropped], ?_⟩
  unfold State.correct
  rw [(State.evaluate_cueStep _ false).reasons]
  exact State.checkPoint_reasons passed

/-- Settles O24: by the cases of a read, with the laws of a correction and of an added S reason. -/
theorem markerReads : Obligations.MarkerReads := by
  intro s code hr
  have run (k : Nat) : exec (.markerRead k) s = .next (markerRead k s) :=
    congrArg Host.Outcome.next (event_of_running hr)
  rw [run, run]
  refine ⟨fun ha => ?_, ?_, fun a g hact hc => ?_⟩
  · simp [markerRead, s.activeSegment_eq_none.2 (by simp [ha])]
  · unfold markerRead
    split <;> simp
  · obtain ⟨ha, -⟩ := s.activeSegment_eq_some.1 hact
    obtain ⟨seen, corrected, mismatched⟩ := markerRead_cases hact hc
    refine ⟨fun m hm hcode h => congrArg Host.Outcome.next (seen m hm hcode h), ?_, fun h hlen => ?_⟩
    · intro m hm hcode hseen h1 h2 h3
      have pos := s.correct_pos m.offset
      refine ⟨_, rfl, ?_⟩
      rw [corrected m hm hcode hseen h1 h2 h3]
      refine ⟨s.correct_sameBut _, ?_, ?_, ?_, ?_, ?_, ?_, fun hnone => ?_,
        fun u hu hseg hoff => State.correct_overruns ha hu hseg hoff⟩
      all_goals rw [pos, Pos.checked_eq]
      · exact ha
      · rw [Pos.pointPassed_of_none (by exact hnone)]
        rfl
    · have joined := State.addReason_sameBut_of_isS (r := .position) rfl s
      refine ⟨_, rfl, ?_⟩
      rw [mismatched h]
      refine ⟨joined.andThen (State.raise_sameBut _ _), ?_, ?_, fun hm hnew => ?_, fun hm => ?_⟩
      · simp [State.mismatch]
      · have raises := State.addReason_raisesOnly .position s
        rw [State.mismatch, ← raises.source 5]
        exact State.source_raise (.mismatch a s.pos.s code) (raises.length.trans hlen)
      · exact State.addReason_motion_of_moving rfl hnew hm
      · exact State.addReason_motion_of_still rfl hm

/-! ### Requests on AUTHORITY -/

theorem State.lengthOf_congr {s t : State} (h : t.pos = s.pos) : t.lengthOf = s.lengthOf := by
  funext k
  simp [State.lengthOf, h]

theorem State.dAuth_congr {s t : State} (h : t.pos = s.pos) : t.dAuth = s.dAuth := by
  unfold State.dAuth State.distances
  rw [State.lengthOf_congr h, h]

theorem State.authorityBytes_congr {s t : State} (h : t.pos = s.pos) : t.authorityBytes = s.authorityBytes := by
  unfold State.authorityBytes
  rw [State.dAuth_congr h, h]

/-- Without an authority nothing may be driven (04 R77). -/
theorem State.vAuth_of_none {s : State} (h : s.pos.authority = none) : s.vAuth = 0 := by
  simp [State.vAuth, State.dAuth, h]

/-- The authority check passes a vehicle at rest or within the tolerance (04 R79, R83). -/
theorem State.overrunCheck_calm {s : State}
    (h : s.msv.motion.moving = false ∨ s.msv.vCmd ≤ s.vAuth + s.settings.overspeedTol) : s.overrunCheck = s := by
  unfold State.overrunCheck
  rcases h with h | h
  · simp [h]
  · simp [Nat.not_lt.2 h]

/-- What the authority check does to a vehicle that is too fast (04 R66, R83). -/
structure State.Overruns (s t : State) : Prop where
  motion : t.msv.motion = .eStop
  vCmd : t.msv.vCmd = 0
  reasons : .authorityOverrun ∈ t.msv.reasons
  raises : RaisesOnly [1, 3, 7] s t

theorem State.overrunCheck_overruns {s : State} (hm : s.msv.motion.moving = true)
    (hv : s.vAuth + s.settings.overspeedTol < s.msv.vCmd) (hnew : .authorityOverrun ∉ s.msv.reasons) :
    s.Overruns s.overrunCheck := by
  have e : s.overrunCheck = s.addReason .authorityOverrun := by simp [State.overrunCheck, hm, hv]
  rw [e]
  exact ⟨State.addReason_motion_of_isE rfl hnew (by rintro h; simp [h, Motion.moving] at hm),
    State.addReason_vCmd_of_isE rfl hnew hm, by simp, State.addReason_raisesOnly _ _⟩

theorem moving_ne_eStop {m : Motion} (h : m.moving = true) : m ≠ .eStop := by
  rintro rfl
  cases h

/-- The set that a good frame leaves holds no reason that it did not hold before. -/
theorem not_mem_heard {r : StopReason} {s : State} (h : r ∉ s.msv.reasons) : r ∉ s.hearFrame.msv.reasons :=
  fun hr => h (List.mem_filter.1 hr).1

theorem putAuthority_taken {s : State} {segment offset a : Nat} {ga g : Segment} {path : List Nat} (hk : segment ≤ 127)
    (hact : s.activeSegment = some (a, ga)) (hg : Table.get s.pos.segments segment = some g)
    (hahead : ¬(segment = a ∧ min offset g.length ≤ s.pos.s))
    (hwalk : walk s.pos.segments segment 129 [a] = .reached path) (hshort : path.length ≤ 32) :
    putAuthority 0 ⟨segment, offset⟩ s =
      .take (s.grantAuthority ⟨segment, min offset g.length⟩ path) .ok (decide (min offset g.length ≠ offset))
        (s.grantAuthority ⟨segment, min offset g.length⟩ path).authorityBytes := by
  simp only [putAuthority, hact, hg, if_neg hahead, hwalk, Nat.not_lt.2 hk, Nat.not_lt.2 hshort]
  simp

/-- The state with the authority and its path in place, as a request on AUTHORITY stores them (01 R8). -/
def State.withAuthority (u : Authority) (path : List Nat) (s : State) : State :=
  { s with pos := { s.pos with authority := some u, path := path } }

/-- A checked authority that the speed keeps to: stored, EXTENDED raised when it grew (01 R8). -/
theorem grantAuthority_calm {s : State} {kind : Nat} {act : State → Answer} {u : Authority} {path : List Nat} {c : Bool}
    (hl : s.listening)
    (ha : act s.hearFrame = .take (s.hearFrame.grantAuthority u path) .ok c (s.hearFrame.grantAuthority u path).authorityBytes)
    (hv : s.msv.motion.moving = false ∨ s.msv.vCmd ≤ (s.withAuthority u path).vAuth + s.settings.overspeedTol) :
    ∃ t, Host.Outcome.next (request kind 0 act s) = (.next t : Result) ∧
      Answers s t [.pos, .ntu] .ok kind 0 c false (s.withAuthority u path).authorityBytes ∧
      t.pos = (s.withAuthority u path).pos ∧
      t.ntu = if authorityGrew s (s.withAuthority u path) then (s.raise .extended).ntu else s.ntu := by
  have calm : (s.hearFrame.storeAuthority u path).overrunCheck = s.hearFrame.storeAuthority u path :=
    State.overrunCheck_calm hv
  have granted : s.hearFrame.grantAuthority u path =
      if authorityGrew s (s.withAuthority u path) then (s.hearFrame.storeAuthority u path).raise .extended
      else s.hearFrame.storeAuthority u path := by
    unfold State.grantAuthority
    dsimp only
    rw [calm]
    rfl
  have frame : SameBut [.pos, .ntu] s.hearFrame (s.hearFrame.grantAuthority u path) := by
    rw [granted]
    split <;> simp [sameBut_iff, State.storeAuthority]
  have pos : (s.hearFrame.grantAuthority u path).pos = (s.withAuthority u path).pos := by
    rw [granted]
    split <;> rfl
  have result := request_take (kind := kind) (key := 0) hl.1 hl.2 ha
  refine ⟨_, rfl, ?_, ?_, ?_⟩
  · rw [← State.authorityBytes_congr pos]
    exact request_answers_calm hl ha frame
  · rw [result, State.respond_pos, pos]
  · rw [result, State.respond_ntu, granted]
    split <;> rfl

/-- A checked authority that the speed overruns: stored all the same, the vehicle in E_STOP (01 R8, 04 R83). -/
theorem grantAuthority_overruns {s : State} {kind : Nat} {act : State → Answer} {u : Authority} {path : List Nat}
    {c : Bool} (hl : s.listening)
    (ha : act s.hearFrame = .take (s.hearFrame.grantAuthority u path) .ok c (s.hearFrame.grantAuthority u path).authorityBytes)
    (hm : s.msv.motion.moving = true) (hv : (s.withAuthority u path).vAuth + s.settings.overspeedTol < s.msv.vCmd)
    (hnew : .authorityOverrun ∉ s.msv.reasons) :
    ∃ t, Host.Outcome.next (request kind 0 act s) = (.next t : Result) ∧
      Answers s t [.pos, .msv, .cue, .flp, .snd, .ntu, .free] .ok kind 0 c true (s.withAuthority u path).authorityBytes ∧
      t.pos = (s.withAuthority u path).pos ∧ t.msv.motion = .eStop ∧ t.msv.vCmd = 0 ∧
      .authorityOverrun ∈ t.msv.reasons ∧
      (s.ntu.sources.length = 12 → t.source 4 =
        if authorityGrew s (s.withAuthority u path) then Source.record .extended (s.source 4) else s.source 4) := by
  have overruns : (s.hearFrame.storeAuthority u path).Overruns (s.hearFrame.storeAuthority u path).overrunCheck :=
    State.overrunCheck_overruns hm hv (not_mem_heard hnew)
  have granted : s.hearFrame.grantAuthority u path =
      if authorityGrew s (s.withAuthority u path) then (s.hearFrame.storeAuthority u path).overrunCheck.raise .extended
      else (s.hearFrame.storeAuthority u path).overrunCheck := rfl
  have msv : (s.hearFrame.grantAuthority u path).msv = (s.hearFrame.storeAuthority u path).overrunCheck.msv := by
    rw [granted]
    split <;> rfl
  have pos : (s.hearFrame.grantAuthority u path).pos = (s.withAuthority u path).pos := by
    rw [granted]
    split <;> exact (State.overrunCheck_sameBut _).pos
  have enters : entersEStop s.hearFrame (s.hearFrame.grantAuthority u path) = true := by
    simp [entersEStop, msv, overruns.motion, moving_ne_eStop hm]
  have result := request_take (kind := kind) (key := 0) hl.1 hl.2 ha
  refine ⟨_, rfl, ?_, ?_, ?_, ?_, ?_, fun hlen => ?_⟩
  · rw [← State.authorityBytes_congr pos, ← enters]
    exact request_answers hl ha (State.grantAuthority_sameBut _ _ _)
  · rw [result, State.respond_pos, pos]
  · rw [result, State.respond_msv, msv, overruns.motion]
  · rw [result, State.respond_msv, msv, overruns.vCmd]
  · rw [result, State.respond_msv, msv]
    exact overruns.reasons
  · have kept : (s.hearFrame.storeAuthority u path).overrunCheck.source 4 = s.source 4 := overruns.raises.source 4
    rw [result]
    change (s.hearFrame.grantAuthority u path).source 4 = _
    rw [granted, ← kept]
    split
    · exact State.source_raise .extended (overruns.raises.length.trans hlen)
    · rfl

theorem amendAuthority_taken {s : State} {o : Authority} {w : AuthorityWire} {presence segment offset : Nat}
    (ho : s.pos.authority = some o) (hp : presence % 4 ≠ 0)
    (hseg : (if presence.testBit 0 then w.segment else o.segment) = segment)
    (hoff : (if presence.testBit 1 then w.offset else o.offset) = offset) :
    amendAuthority 0 presence w s = putAuthority 0 ⟨segment, offset⟩ s := by
  have carries : noPresence presence 2 = false := by simpa [noPresence] using hp
  rw [← hseg, ← hoff]
  simp [amendAuthority, ho, carries, pick]

theorem retireAuthority_taken {s : State} (h : s.pos.authority ≠ none) :
    retireAuthority 0 s = ok s.dropAuthority.overrunCheck [] := by simp [retireAuthority, h]

/-- Settles O37: PUT and AMEND grant the checked authority, RETIRE drops it, each under the check of 04 R83. -/
theorem authorityRequests : Obligations.AuthorityRequests := by
  intro s hl
  refine ⟨?_, fun hu => ⟨fun w presence hp => ?_, fun hv => ?_, fun hm hv hnew => ?_⟩⟩
  · intro segment offset a ga g path hk hact hg hahead hwalk hshort
    have taken := putAuthority_taken (s := s.hearFrame) hk hact hg hahead hwalk hshort
    refine ⟨⟨grantAuthority_calm hl taken, grantAuthority_overruns hl taken⟩, fun w o presence ho hp hseg hoff => ?_⟩
    have amended := (amendAuthority_taken (s := s.hearFrame) ho hp hseg hoff).trans taken
    exact ⟨grantAuthority_calm (act := amendAuthority 0 presence w) hl amended,
      grantAuthority_overruns (act := amendAuthority 0 presence w) hl amended⟩
  · obtain ⟨u, ho⟩ := Option.ne_none_iff_exists'.1 hu
    have carriesNone : noPresence presence 2 = true := by simpa [noPresence] using hp
    refine ⟨_, rfl, request_reports (act := amendAuthority 0 presence w) hl ?_⟩
    simp [amendAuthority, ho, carriesNone]
    rfl
  all_goals have taken := retireAuthority_taken (s := s.hearFrame) hu
  all_goals have result := request_take (kind := 0x04) (key := 0) hl.1 hl.2 taken
  · have calm : s.hearFrame.dropAuthority.overrunCheck = s.hearFrame.dropAuthority :=
      State.overrunCheck_calm (by rwa [State.vAuth_of_none rfl, Nat.zero_add])
    rw [calm] at taken result
    exact ⟨_, rfl, request_answers_calm hl taken (State.dropAuthority_sameBut _), by rw [result]; rfl⟩
  · have overruns : s.hearFrame.dropAuthority.Overruns s.hearFrame.dropAuthority.overrunCheck :=
      State.overrunCheck_overruns hm (by rwa [State.vAuth_of_none rfl, Nat.zero_add]) (not_mem_heard hnew)
    have enters : entersEStop s.hearFrame s.hearFrame.dropAuthority.overrunCheck = true := by
      simp [entersEStop, overruns.motion, moving_ne_eStop hm]
    refine ⟨_, rfl, ?_, ?_, ?_, ?_, ?_, fun _ => ?_⟩
    · rw [← enters]
      exact request_answers hl taken ((State.dropAuthority_sameBut _).andThen (State.overrunCheck_sameBut _))
    · rw [result]
      exact (State.overrunCheck_sameBut _).pos
    · rw [result]
      exact overruns.motion
    · rw [result]
      exact overruns.vCmd
    · rw [result]
      exact overruns.reasons
    · rw [result]
      exact overruns.raises.source 4

end Sys2Proof.Machine
end

section
/-! PROOFS. The position step of a guidance sample (01 R14 to R17, R20): where it has got to and what it has reported after
each of its parts, and that the rest of the sample undoes none of it. -/

namespace Sys2Proof.Machine

/-! ### The rest of the sample -/

/-- What the sample does after the position step: it keeps the reasons and raises no notice of POS (source 5). -/
structure State.Trails (s t : State) : Prop where
  carries : s.Carries t
  raises : RaisesOnly [1, 3, 4, 6, 7] s t

namespace State.Trails

variable {s t u : State}

theorem of_same (hm : t.msv = s.msv) (hn : t.ntu = s.ntu) : s.Trails t := ⟨.of_eq (by rw [hm]) (by rw [hm]), .of_ntu hn⟩

theorem refl (s : State) : s.Trails s := of_same rfl rfl

theorem trans (h : s.Trails t) (h' : t.Trails u) : s.Trails u := ⟨h.carries.trans h'.carries, h.raises.trans h'.raises⟩

/-- MSV's fields but the reasons and the motion state are free to change. -/
theorem of_msv (hr : t.msv.reasons = s.msv.reasons) (hm : t.msv.motion = s.msv.motion) (hn : t.ntu = s.ntu) :
    s.Trails t := ⟨.of_eq hr hm, .of_ntu hn⟩

end State.Trails

variable (s : State)

theorem State.addReason_trails (r : StopReason) : s.Trails (s.addReason r) :=
  ⟨s.addReason_carries r, (State.addReason_raisesOnly r s).mono⟩

theorem State.raise_trails (n : Notice) (h : n.source ∈ [1, 3, 4, 6, 7]) : s.Trails (s.raise n) :=
  ⟨.of_eq rfl rfl, State.raise_raisesOnly n s h⟩

theorem State.evaluate_trails (moved : Bool) : s.Trails (s.evaluate moved) :=
  ⟨(s.evaluate_cueStep moved).carries, (s.evaluate_cueStep moved).raises.mono⟩

theorem State.judgeGuide_trails : s.Trails s.judgeGuide := by
  unfold State.judgeGuide
  generalize (if s.guideValid then 0 else min 3 (s.gdu.invalid + 1)) = n
  have counted : s.Trails (s.setGdu { s.gdu with invalid := n }) := .of_same rfl rfl
  dsimp only
  split
  · exact counted.trans (State.addReason_trails _ _)
  · exact counted

theorem State.superviseYaw_trails (encoder : Int) : s.Trails (s.superviseYaw encoder) := by
  have measured (g : Gdu) : s.Trails ((s.setLines { s.lines with encoder := encoder }).setGdu g) := .of_same rfl rfl
  unfold State.superviseYaw
  dsimp only
  split
  · exact measured _
  · split
    · exact measured _
    · split
      · exact (measured _).trans ⟨⟨fun r hr hy => by simpa [State.removeReason] using ⟨hr, hy⟩, id, id⟩, .of_ntu rfl⟩
      · exact (measured _).trans (State.addReason_trails _ _)

theorem State.guide_trails (encoder : Int) : s.Trails (s.guide encoder) := by
  have steered (t : State) (e : Int) : t.Trails (t.steer e) := .of_same rfl rfl
  have turned (t : State) : t.Trails t.moveTurntable := .of_same rfl rfl
  exact ((s.judgeGuide_trails.trans (steered _ _)).trans (turned _)).trans (State.superviseYaw_trails _ encoder)

theorem State.overspeedCheck_trails : s.Trails s.overspeedCheck := by
  have counted (n : Nat) : s.Trails (s.setMsv { s.msv with overspeed := n }) := .of_msv rfl rfl rfl
  unfold State.overspeedCheck
  split
  · exact counted 0
  · split
    · split
      · exact (counted 0).trans (State.addReason_trails _ _)
      · exact counted _
    · exact counted 0

theorem State.overrunCheck_trails : s.Trails s.overrunCheck := by
  unfold State.overrunCheck
  split
  · exact s.addReason_trails _
  · exact .refl _

theorem State.heldTest_trails : s.Trails s.heldTest := by
  have flagged (b : Bool) : s.Trails (s.setMsv { s.msv with held := b }) := .of_msv rfl rfl rfl
  unfold State.heldTest
  split
  · split
    · exact .refl _
    · exact (flagged true).trans (State.raise_trails _ .held (by simp [Notice.source]))
  · split
    · exact flagged false
    · exact .refl _

/-- The dwell and safe-stop steps enter STOPPED from SAFE_STOP only (04 R86). -/
theorem State.restStep_trails : s.Trails s.restStep := by
  unfold State.restStep
  split
  · exact .refl _
  · split
    · exact .of_msv rfl rfl rfl
    · rename_i hm
      have stopped : s.Trails (s.setMsv { s.msv with motion := .stopped }) :=
        ⟨⟨fun _ hr _ => hr, fun h => absurd (hm.symm.trans h) (by decide), fun _ => by simp⟩, .of_ntu rfl⟩
      exact stopped.trans (State.raise_trails _ (.motion .stopped) (by simp [Notice.source]))
    · exact .refl _

theorem State.speedStage_trails (ds : Int) : s.Trails (s.speedStage ds) := by
  have windowed : s.Trails (s.windowStep ds) := .of_msv rfl rfl rfl
  have ramped (t : State) : t.Trails t.ramp := .of_msv rfl rfl rfl
  exact ((((windowed.trans (State.overspeedCheck_trails _)).trans (State.overrunCheck_trails _)).trans (ramped _)).trans
    (State.heldTest_trails _)).trans (State.restStep_trails _)

theorem State.readLoad_trails (current : Nat) : s.Trails (s.readLoad current) := by
  unfold State.readLoad
  repeat' split
  all_goals exact .of_same (by simp) (by simp)

/-- POS before the cues of a position step: the residue, the point, the transitions and the missed marker (01 R14). -/
def State.stepped (s : State) : State :=
  (advance (s.takeResidue.checkPoint.pos.s + 1) false s.takeResidue.checkPoint).state.stepCheck

/-- The cues and the rest of the sample leave POS where the position step put it. -/
theorem guidanceSample_after {p : Nat × Segment} {s : State} (hact : s.activeSegment = some p) (encoder : Int)
    (current : Nat) :
    (guidanceSample encoder current s).pos = s.stepped.pos ∧ s.stepped.Trails (guidanceSample encoder current s) := by
  have step : ∃ moved, s.positionStep.1 = s.stepped.evaluate moved := by
    unfold State.positionStep
    rw [hact]
    exact ⟨_, rfl⟩
  obtain ⟨moved, step⟩ := step
  have rest := ((s.positionStep.1.guide_sameBut encoder).append (State.speedStage_sameBut _ s.positionStep.2)).append
    (State.readLoad_sameBut _ current)
  have trails := ((s.positionStep.1.guide_trails encoder).trans (State.speedStage_trails _ s.positionStep.2)).trans
    (State.readLoad_trails _ current)
  have whole : guidanceSample encoder current s =
      ((s.positionStep.1.guide encoder).speedStage s.positionStep.2).readLoad current := rfl
  rw [step] at rest trails whole
  refine ⟨?_, (s.stepped.evaluate_trails moved).trans ?_⟩
  · rw [whole]
    exact rest.pos.trans (State.evaluate_pos _ _)
  · rw [whole]
    exact trails

/-! ### What the parts of the step report -/

/-- What the parts of a position step have reported so far: whether the authority point was `passed` and a miss point `missed`, and
what was noted at source 5. -/
structure State.Reports (s t : State) (passed missed : Bool) (note : Source → Source) : Prop where
  carries : s.Carries t
  overrun : passed = true → .authorityOverrun ∈ t.msv.reasons ∧
    (.authorityOverrun ∉ s.msv.reasons → s.msv.motion ≠ .parked → t.msv.motion = .eStop)
  onTrack : passed = false → .authorityOverrun ∈ t.msv.reasons → .authorityOverrun ∈ s.msv.reasons
  misses : missed = true → t.pos.missCount = 2 → .position ∈ t.msv.reasons
  uncounted : missed = false → t.pos.missCount = s.pos.missCount
  length : t.ntu.sources.length = s.ntu.sources.length
  noted : s.ntu.sources.length = 12 → t.source 5 = note (s.source 5)

namespace State.Reports

variable {s t u : State} {passed passed' missed missed' : Bool} {note note' : Source → Source}

/-- A part that changes POS only, and not the miss count, reports nothing. -/
theorem of_pos (p : Pos) (h : p.missCount = s.pos.missCount) : s.Reports (s.setPos p) false false id where
  carries := .of_eq rfl rfl
  overrun := nofun
  onTrack := fun _ => id
  misses := nofun
  uncounted := fun _ => h
  length := rfl
  noted := fun _ => rfl

theorem trans (h : s.Reports t passed missed note) (h' : t.Reports u passed' missed' note') :
    s.Reports u (passed || passed') (missed || missed') (note' ∘ note) where
  carries := h.carries.trans h'.carries
  overrun := by
    intro hp
    cases passed with
    | true =>
      obtain ⟨hmem, hstop⟩ := h.overrun rfl
      exact ⟨h'.carries.reasons _ hmem (by decide), fun hnew hm => h'.carries.eStop (hstop hnew hm)⟩
    | false =>
      obtain ⟨hmem, hstop⟩ := h'.overrun hp
      exact ⟨hmem, fun hnew hm => hstop (fun ht => hnew (h.onTrack rfl ht)) (h.carries.unparked hm)⟩
  onTrack := by
    intro hp hmem
    obtain ⟨rfl, rfl⟩ := Bool.or_eq_false_iff.1 hp
    exact h.onTrack rfl (h'.onTrack rfl hmem)
  misses := by
    intro hm hcount
    cases missed' with
    | true => exact h'.misses rfl hcount
    | false => exact h'.carries.reasons _ (h.misses (by simpa using hm) ((h'.uncounted rfl).symm.trans hcount)) (by decide)
  uncounted := by
    intro hm
    obtain ⟨rfl, rfl⟩ := Bool.or_eq_false_iff.1 hm
    exact (h'.uncounted rfl).trans (h.uncounted rfl)
  length := h'.length.trans h.length
  noted := fun hlen => (h'.noted (h.length.trans hlen)).trans (congrArg note' (h.noted hlen))

end State.Reports

theorem State.checkPoint_reports : s.Reports s.checkPoint s.pos.pointPassed false id := by
  cases hp : s.pos.pointPassed with
  | false =>
    rw [State.checkPoint_eq, hp]
    exact .of_pos s.pos rfl
  | true =>
    have e : s.checkPoint = s.dropAuthority.addReason .authorityOverrun := by rw [State.checkPoint_eq, hp]; rfl
    have raises := State.addReason_raisesOnly .authorityOverrun s.dropAuthority
    rw [e]
    exact {
      carries := (State.Carries.of_eq rfl rfl : s.Carries s.dropAuthority).trans (State.addReason_carries _ _)
      overrun := fun _ => ⟨by simp, fun hnew hm => State.addReason_motion_of_isE rfl hnew hm⟩
      onTrack := nofun
      misses := nofun
      uncounted := fun _ => by rw [State.addReason_pos]; rfl
      length := raises.length
      noted := fun _ => raises.source 5 }

/-- A counted miss is noted as MISSED; the second in a row adds POSITION (01 R20). -/
theorem State.countedMiss_reports (a : Nat) :
    s.Reports (s.countedMiss a) false true (noteMiss true a s.pos.missCount) := by
  have raised (t : State) (h : t.ntu.sources.length = 12) := State.source_raise (.missed a (countMiss true s.pos.missCount)) h
  by_cases hn : countMiss true s.pos.missCount = 2
  · have e : s.countedMiss a =
        ((s.setPos (s.pos.noted true)).raise (.missed a (countMiss true s.pos.missCount))).addReason .position := if_pos hn
    have raises := State.addReason_raisesOnly .position
      ((s.setPos (s.pos.noted true)).raise (.missed a (countMiss true s.pos.missCount)))
    rw [e]
    exact {
      carries := .trans (t := (s.setPos (s.pos.noted true)).raise (.missed a (countMiss true s.pos.missCount)))
        (.of_eq rfl rfl) (State.addReason_carries _ _)
      overrun := nofun
      onTrack := fun _ h => by simpa using h
      misses := fun _ _ => by simp
      uncounted := nofun
      length := raises.length.trans (by simp [State.raise])
      noted := fun hlen => (raises.source 5).trans (raised (s.setPos _) hlen) }
  · have e : s.countedMiss a =
        (s.setPos (s.pos.noted true)).raise (.missed a (countMiss true s.pos.missCount)) := if_neg hn
    rw [e]
    exact {
      carries := .of_eq rfl rfl
      overrun := nofun
      onTrack := fun _ => id
      misses := fun _ h => absurd h hn
      uncounted := nofun
      length := by simp [State.raise]
      noted := fun hlen => raised (s.setPos _) hlen }

theorem State.missCheck_reports (a : Nat) (g : Segment) (leaving : Bool) :
    s.Reports (s.missCheck a g leaving) false (s.pos.misses g leaving)
      (noteMiss (s.pos.misses g leaving) a s.pos.missCount) := by
  rw [State.missCheck_eq]
  cases s.pos.misses g leaving with
  | true => exact s.countedMiss_reports a
  | false => exact .of_pos s.pos rfl

/-- The end of the clamp: POSITION and the notice (01 R17). -/
theorem State.clamped_reports (n : Notice) (hn : n.source = 5) :
    s.Reports ((s.addReason .position).raise n) false false (Source.record n) := by
  have raises := State.addReason_raisesOnly .position s
  exact {
    carries := (State.addReason_carries .position s).trans (.of_eq rfl rfl)
    overrun := nofun
    onTrack := fun _ hmem => ((State.mem_addReason ..).1 hmem).resolve_left (by decide)
    misses := nofun
    uncounted := fun _ => congrArg Pos.missCount (State.addReason_pos _ _)
    length := by simpa [State.raise] using raises.length
    noted := fun hlen => by
      rw [← raises.source 5, ← hn]
      exact State.source_raise n (raises.length.trans hlen) }

theorem noteMiss_false (k n : Nat) : noteMiss false k n = id := rfl

theorem State.stepCheck_carries : s.Carries s.stepCheck := by
  unfold State.stepCheck
  split
  · exact .refl _
  · exact (s.missCheck_reports _ _ false).carries

/-! ### Where the step has got to -/

/-- Where a position step that began at a POS has got to. -/
structure Standing where
  segment : Nat
  s : Nat
  sPrev : Nat
  residue : Int
  seen : Bool
  passed : Bool
  path : List Nat
  count : Nat
  counted : Bool

namespace Standing

/-- The POS that stands there, begun at `p`. -/
def pos (w : Standing) (p : Pos) : Pos :=
  { p with
    active := some w.segment, s := w.s, sPrev := w.sPrev, residue := w.residue, markerSeen := w.seen
    authority := if w.passed then none else p.authority, path := if w.passed then [w.segment] else w.path
    missCount := w.count, missCounted := w.counted }

/-- The point of the authority of `p` is on segment `k`, at or behind `y`. -/
def passes (p : Pos) (k y : Nat) : Bool := p.authority.any (fun u => decide (u.segment = k ∧ u.offset ≤ y))

/-- The miss point of segment `g` is passed there. -/
def missed (w : Standing) (g : Segment) (leaving : Bool) : Bool :=
  missPassed g (!w.seen && !w.counted) w.sPrev w.s leaving

/-- The path after a transition to `b` (01 R16). -/
def nextPath (path : List Nat) (b : Nat) : List Nat := if 1 < path.length then path.drop 1 else [b]

/-- Where steps 1 to 4 of 01 R14 put the vehicle, on segment `a`. -/
def first (p : Pos) (a : Nat) : Standing where
  segment := a
  s := p.advanced.s
  sPrev := p.s
  residue := p.advanced.residue
  seen := p.markerSeen
  passed := passes p a p.advanced.s
  path := p.path
  count := p.missCount
  counted := p.missCounted

/-- Where a transition from `g` to `b` puts the vehicle (01 R16). -/
def next (w : Standing) (p : Pos) (g : Segment) (b : Nat) : Standing where
  segment := b
  s := w.s - g.length
  sPrev := 0
  residue := w.residue
  seen := false
  passed := w.passed || passes p b (w.s - g.length)
  path := nextPath w.path b
  count := countMiss (w.missed g true) w.count
  counted := false

/-- A miss counted there, or nothing. -/
def noted (w : Standing) (missed : Bool) : Standing :=
  { w with count := countMiss missed w.count, counted := w.counted || missed }

/-- The end of segment `g` (01 R17). -/
def stopped (w : Standing) (g : Segment) : Standing := { w with s := g.length - 1, residue := 0 }

@[simp] theorem noted_false (w : Standing) : w.noted false = w := by simp [noted, countMiss]

theorem pos_noted (w : Standing) (p : Pos) (missed : Bool) : (w.pos p).noted missed = (w.noted missed).pos p := rfl

theorem pos_misses (w : Standing) (p : Pos) (g : Segment) (leaving : Bool) :
    (w.pos p).misses g leaving = w.missed g leaving := rfl

/-- Whether leaving a segment passes its miss point does not depend on s. -/
theorem missed_leaving (w : Standing) (g : Segment) (y : Nat) : missed { w with s := y } g true = w.missed g true := by
  unfold missed missPassed
  cases g.marker <;> simp

/-- One pass of a segment counts one miss: none is left to count once the end was reached. -/
theorem not_missed_after_leaving (w : Standing) (g : Segment) :
    ((w.stopped g).noted (w.missed g true)).missed g false = false := by
  unfold missed missPassed
  cases g.marker with
  | none => rfl
  | some m => cases hs : w.seen <;> cases hc : w.counted <;> simp_all [noted, stopped]

/-- The authority point where the standing POS is, unless it was passed before. -/
theorem pos_pointPassed (w : Standing) (p : Pos) :
    (w.pos p).pointPassed = (!w.passed && passes p w.segment w.s) := by
  cases hp : w.passed <;> cases ha : p.authority <;> simp [Pos.pointPassed, pos, passes, hp, ha, eq_comm]

/-- The check for passing the authority point (01 R15). -/
theorem pos_checked (w : Standing) (p : Pos) :
    (w.pos p).checked = { w with passed := w.passed || passes p w.segment w.s }.pos p := by
  unfold Pos.checked
  rw [pos_pointPassed]
  cases hp : w.passed <;> cases hq : passes p w.segment w.s <;> simp [pos, Pos.dropped, Pos.alone, hp]

/-- A transition's new pass, the path without its first member (01 R16). -/
theorem pos_entered (w : Standing) (p : Pos) (b : Nat) :
    (w.pos p).entered b =
      pos { w with segment := b, sPrev := 0, seen := false, path := nextPath w.path b, counted := false } p := by
  cases hp : w.passed <;> simp [Pos.entered, pos, nextPath, hp]

end Standing

/-- The position step of `s` has come to state `t`: where it stands, whether it has missed a marker, what it has noted. -/
structure State.ComesTo (s t : State) (w : Standing) (missed : Bool) (note : Source → Source) : Prop where
  pos : t.pos = w.pos s.pos
  reports : s.Reports t w.passed missed note

namespace State.ComesTo

variable {s t : State} {w : Standing} {missed : Bool} {note : Source → Source}

/-- The active segment there. -/
theorem activeSegment (h : s.ComesTo t w missed note) {g : Segment} (hg : Table.get s.pos.segments w.segment = some g) :
    t.activeSegment = some (w.segment, g) := by
  rw [State.activeSegment_eq_some, h.pos]
  exact ⟨rfl, hg⟩

/-- Steps 1 to 4 of 01 R14. -/
theorem first {a : Nat} (ha : s.pos.active = some a) :
    s.ComesTo s.takeResidue.checkPoint (Standing.first s.pos a) false id := by
  have stands : s.takeResidue.pos = { Standing.first s.pos a with passed := false }.pos s.pos := by
    simp [Standing.pos, Standing.first, Pos.advanced, ha]
  have passed : s.takeResidue.pos.pointPassed = Standing.passes s.pos a s.pos.advanced.s := by
    rw [stands, Standing.pos_pointPassed]
    rfl
  have point := State.checkPoint_reports s.takeResidue
  rw [passed] at point
  refine ⟨?_, (State.Reports.of_pos (s := s) s.pos.advanced rfl).trans point⟩
  rw [State.checkPoint_pos, stands, Standing.pos_checked]
  rfl

/-- A transition (01 R16). -/
theorem transition (h : s.ComesTo t w missed note) (g : Segment) (b : Nat) :
    s.ComesTo (t.transition w.segment g b) (w.next s.pos g b) (missed || w.missed g true)
      (noteMiss (w.missed g true) w.segment w.count ∘ note) := by
  have stands : t.pos.beyond g = { w with s := w.s - g.length }.pos s.pos := by rw [h.pos]; rfl
  have misses : (t.pos.beyond g).misses g true = w.missed g true := by
    rw [stands, Standing.pos_misses, Standing.missed_leaving]
  have entered : ((t.pos.beyond g).noted (w.missed g true)).entered b =
      { w.next s.pos g b with passed := w.passed }.pos s.pos := by
    rw [stands, Standing.pos_noted, Standing.pos_entered]
    rfl
  have leaves := State.missCheck_reports (t.setPos (t.pos.beyond g)) w.segment g true
  rw [State.setPos_pos, misses] at leaves
  have count : (t.pos.beyond g).missCount = w.count := by rw [stands]; rfl
  rw [count] at leaves
  rw [State.transition_eq, misses, entered]
  refine ⟨?_, ?_⟩
  · rw [State.checkPoint_pos, State.setPos_pos, Standing.pos_checked]
    rfl
  · have point := State.checkPoint_reports
      (((t.setPos (t.pos.beyond g)).missCheck w.segment g true).setPos ({ w.next s.pos g b with passed := w.passed }.pos s.pos))
    rw [State.setPos_pos, Standing.pos_pointPassed] at point
    have moved := ((State.Reports.of_pos (s := t) (t.pos.beyond g) rfl).trans leaves).trans
      (State.Reports.of_pos ({ w.next s.pos g b with passed := w.passed }.pos s.pos) (by
        rw [State.missCheck_pos, State.setPos_pos, misses, stands]
        rfl))
    have all := (h.reports.trans moved).trans point
    have passed : (w.passed || (false || false || false) || (!w.passed && Standing.passes s.pos (w.next s.pos g b).segment (w.next s.pos g b).s)) =
        (w.next s.pos g b).passed := by cases hp : w.passed <;> simp [Standing.next, hp]
    rw [← passed]
    simpa using all

/-- The missed-marker check of step 6 of 01 R14. -/
theorem stepCheck (h : s.ComesTo t w missed note) {g : Segment} (hg : Table.get s.pos.segments w.segment = some g) :
    s.ComesTo t.stepCheck (w.noted (w.missed g false)) (missed || w.missed g false)
      (noteMiss (w.missed g false) w.segment w.count ∘ note) := by
  have e : t.stepCheck = t.missCheck w.segment g false := by
    unfold State.stepCheck
    rw [h.activeSegment hg]
  have misses : t.pos.misses g false = w.missed g false := by rw [h.pos, Standing.pos_misses]
  have checked := State.missCheck_reports t w.segment g false
  have count : t.pos.missCount = w.count := by rw [h.pos]; rfl
  rw [misses, count] at checked
  rw [e]
  refine ⟨by rw [State.missCheck_pos, misses, h.pos, Standing.pos_noted], ?_⟩
  have all := h.reports.trans checked
  rwa [Bool.or_false] at all

/-- The clamp at the end of a segment without a usable successor, and the check after it (01 R17). -/
theorem clampEnd (h : s.ComesTo t w missed note) {g : Segment} (hg : Table.get s.pos.segments w.segment = some g) :
    s.ComesTo (t.clampEnd w.segment g).stepCheck ((w.stopped g).noted (w.missed g true)) (missed || w.missed g true)
        (Source.record (.clamp w.segment (g.length - 1)) ∘ noteMiss (w.missed g true) w.segment w.count ∘ note) ∧
      .position ∈ (t.clampEnd w.segment g).stepCheck.msv.reasons := by
  have stands : t.pos.stopped g = (w.stopped g).pos s.pos := by rw [h.pos]; rfl
  have misses : (t.pos.stopped g).misses g true = w.missed g true := by
    rw [stands, Standing.pos_misses]
    exact Standing.missed_leaving { w with residue := 0 } g _
  have leaves := State.missCheck_reports (t.setPos (t.pos.stopped g)) w.segment g true
  have count : (t.pos.stopped g).missCount = w.count := by rw [stands]; rfl
  rw [State.setPos_pos, misses, count] at leaves
  have ended := State.clamped_reports ((t.setPos (t.pos.stopped g)).missCheck w.segment g true)
    (.clamp w.segment (g.length - 1)) rfl
  have comes : s.ComesTo (t.clampEnd w.segment g) ((w.stopped g).noted (w.missed g true)) (missed || w.missed g true)
      (Source.record (.clamp w.segment (g.length - 1)) ∘ noteMiss (w.missed g true) w.segment w.count ∘ note) := by
    refine ⟨by rw [State.clampEnd_pos, misses, stands, Standing.pos_noted], ?_⟩
    have all := h.reports.trans (((State.Reports.of_pos (s := t) (t.pos.stopped g) rfl).trans leaves).trans ended)
    simp only [Bool.or_false, Bool.false_or, Function.comp_id, Function.comp_assoc] at all
    exact all
  have checked := comes.stepCheck (g := g) hg
  rw [Standing.not_missed_after_leaving, Standing.noted_false, Bool.or_false, noteMiss_false, Function.id_comp] at checked
  have reasons : .position ∈ (t.clampEnd w.segment g).msv.reasons := by simp [State.clampEnd]
  exact ⟨checked, (State.stepCheck_carries (t.clampEnd w.segment g)).reasons _ reasons (by decide)⟩

/-- Inside the segment no transition is left (01 R14 step 5). -/
theorem advance_inside (h : s.ComesTo t w missed note) {g : Segment} (hg : Table.get s.pos.segments w.segment = some g)
    (hlt : w.s < g.length) (fuel : Nat) (moved : Bool) : (advance fuel moved t).state = t := by
  have hs : t.pos.s < g.length := by rw [h.pos]; exact hlt
  cases fuel with
  | zero => rfl
  | succ fuel => simp [advance, h.activeSegment hg, hs]

/-- At or behind the end the next transition follows, where there is a usable successor (01 R16). -/
theorem advance_transition (h : s.ComesTo t w missed note) {g : Segment}
    (hg : Table.get s.pos.segments w.segment = some g) (hle : g.length ≤ w.s) {b : Nat}
    (hb : successor s.pos.segments g = some b) (fuel : Nat) (moved : Bool) :
    advance (fuel + 1) moved t = advance fuel true (t.transition w.segment g b) := by
  have hs : ¬ t.pos.s < g.length := by rw [h.pos]; exact Nat.not_lt.2 hle
  have hseg : t.pos.segments = s.pos.segments := by rw [h.pos]; rfl
  simp [advance, h.activeSegment hg, hs, hseg, hb]

/-- At or behind the end the clamp follows, where there is no usable successor (01 R17). -/
theorem advance_clampEnd (h : s.ComesTo t w missed note) {g : Segment}
    (hg : Table.get s.pos.segments w.segment = some g) (hle : g.length ≤ w.s)
    (hb : successor s.pos.segments g = none) (fuel : Nat) (moved : Bool) :
    (advance (fuel + 1) moved t).state = t.clampEnd w.segment g := by
  have hs : ¬ t.pos.s < g.length := by rw [h.pos]; exact Nat.not_lt.2 hle
  have hseg : t.pos.segments = s.pos.segments := by rw [h.pos]; rfl
  simp [advance, h.activeSegment hg, hs, hseg, hb]

end State.ComesTo

/-! ### The position step by its number of transitions -/

section
variable {s} {a : Nat} {g : Segment} (ha : s.pos.active = some a) (hg : Table.get s.pos.segments a = some g)
include ha hg

theorem State.stepped_inside (hlt : s.pos.advanced.s < g.length) :
    let w := Standing.first s.pos a
    s.ComesTo s.stepped (w.noted (w.missed g false)) (w.missed g false) (noteMiss (w.missed g false) a s.pos.missCount) := by
  have first := State.ComesTo.first ha
  have checked := first.stepCheck hg
  have here := first.advance_inside hg hlt (s.takeResidue.checkPoint.pos.s + 1) false
  rw [← here] at checked
  exact checked

theorem State.stepped_clampEnd (hle : g.length ≤ s.pos.advanced.s) (hb : successor s.pos.segments g = none) :
    let w := Standing.first s.pos a
    s.ComesTo s.stepped ((w.stopped g).noted (w.missed g true)) (w.missed g true)
        (Source.record (.clamp a (g.length - 1)) ∘ noteMiss (w.missed g true) a s.pos.missCount) ∧
      .position ∈ s.stepped.msv.reasons := by
  have first := State.ComesTo.first ha
  have ended := first.clampEnd hg
  have here := first.advance_clampEnd hg hle hb s.takeResidue.checkPoint.pos.s false
  rw [← here] at ended
  exact ended

theorem State.stepped_once {b : Nat} {g' : Segment} (hle : g.length ≤ s.pos.advanced.s)
    (hb : successor s.pos.segments g = some b) (hg' : Table.get s.pos.segments b = some g')
    (hlt : s.pos.advanced.s - g.length < g'.length) :
    let w := Standing.first s.pos a
    let v := w.next s.pos g b
    s.ComesTo s.stepped (v.noted (v.missed g' false)) (w.missed g true || v.missed g' false)
      (noteMiss (v.missed g' false) b v.count ∘ noteMiss (w.missed g true) a s.pos.missCount) := by
  have first := State.ComesTo.first ha
  have second := first.transition g b
  have checked := second.stepCheck hg'
  have here := first.advance_transition hg hle hb s.takeResidue.checkPoint.pos.s false
  have there := second.advance_inside hg' hlt s.takeResidue.checkPoint.pos.s true
  rw [← there] at checked
  unfold State.stepped
  rw [here]
  exact checked

theorem State.stepped_twice {b c : Nat} {g' g'' : Segment} (hpos : 0 < g.length) (hle : g.length ≤ s.pos.advanced.s)
    (hb : successor s.pos.segments g = some b) (hg' : Table.get s.pos.segments b = some g')
    (hle' : g'.length ≤ s.pos.advanced.s - g.length) (hc : successor s.pos.segments g' = some c)
    (hg'' : Table.get s.pos.segments c = some g'') (hlt : s.pos.advanced.s - g.length - g'.length < g''.length) :
    let w := Standing.first s.pos a
    let v := w.next s.pos g b
    let u := v.next s.pos g' c
    s.ComesTo s.stepped (u.noted (u.missed g'' false)) (w.missed g true || v.missed g' true || u.missed g'' false)
      (noteMiss (u.missed g'' false) c u.count ∘ noteMiss (v.missed g' true) b v.count ∘
        noteMiss (w.missed g true) a s.pos.missCount) := by
  have first := State.ComesTo.first ha
  have second := first.transition g b
  have third := second.transition g' c
  have checked := third.stepCheck hg''
  have fuel : s.takeResidue.checkPoint.pos.s = s.pos.advanced.s := by rw [first.pos]; rfl
  obtain ⟨k, hk⟩ : ∃ k, s.pos.advanced.s = k + 1 := ⟨s.pos.advanced.s - 1, by omega⟩
  have here := first.advance_transition hg hle hb (k + 1) false
  have there := second.advance_transition hg' hle' hc k true
  have last := third.advance_inside hg'' hlt k true
  rw [← last] at checked
  unfold State.stepped
  rw [fuel, hk, here]
  exact (congrArg (fun r => s.ComesTo r.state.stepCheck _ _ _) there).mpr checked

end

/-- What the whole sample leaves of a position step that came to `w`. -/
theorem State.ComesTo.sample {s : State} {w : Standing} {missed : Bool} {note : Source → Source}
    (h : s.ComesTo s.stepped w missed note) {p : Nat × Segment} (hact : s.activeSegment = some p)
    (hlen : s.ntu.sources.length = 12) (encoder : Int) (current : Nat) :
    let t := guidanceSample encoder current s
    t.pos = w.pos s.pos ∧
      (w.passed = true → .authorityOverrun ∈ t.msv.reasons ∧
        (.authorityOverrun ∉ s.msv.reasons → s.msv.motion ≠ .parked → t.msv.motion = .eStop)) ∧
      (missed = true → t.pos.missCount = 2 → .position ∈ t.msv.reasons) ∧ t.source 5 = note (s.source 5) := by
  obtain ⟨pos, trails⟩ := guidanceSample_after hact encoder current
  refine ⟨pos.trans h.pos, fun hp => ?_, fun hm hcount => ?_, (trails.raises.source 5).trans (h.reports.noted hlen)⟩
  · obtain ⟨hmem, hstop⟩ := h.reports.overrun hp
    exact ⟨trails.carries.reasons _ hmem (by decide), fun hnew hmot => trails.carries.eStop (hstop hnew hmot)⟩
  · rw [pos] at hcount
    exact trails.carries.reasons _ (h.reports.misses hm hcount) (by decide)

/-- Leaving a segment on a pass begun at its start passes its miss point, if it has one. -/
theorem Standing.next_missed_leaving (w : Standing) (p : Pos) (g g' : Segment) (b : Nat) :
    (w.next p g b).missed g' true = g'.marker.isSome := by
  unfold Standing.missed missPassed
  cases g'.marker <;> simp [Standing.next]

/-- Settles O26, by the number of transitions of the step. -/
theorem guidanceSampleMovesVehicle : Obligations.GuidanceSampleMovesVehicle := by
  intro s encoder current a g hr hact hlen q x residue unseen passes next
  obtain ⟨ha, hg⟩ := (State.activeSegment_eq_some s).1 hact
  have stays (w : Standing) (hw : w.segment = a) : w.pos s.pos = { w.pos s.pos with active := s.pos.active } := by
    rw [ha, ← hw]
    rfl
  have ran : exec (.guidanceSample encoder current) s = .next (guidanceSample encoder current s) :=
    congrArg Host.Outcome.next (event_of_running hr)
  refine ⟨_, ran, guidanceSample_sameBut _ _ _, fun hlt => ?_, fun hb hle => ?_, fun b g' hb hg' hle => ⟨fun hlt => ?_, ?_⟩⟩
  · obtain ⟨pos, overrun, misses, noted⟩ := (State.stepped_inside ha hg hlt).sample hact hlen encoder current
    exact ⟨pos.trans (stays _ rfl), overrun, misses, noted⟩
  · obtain ⟨comes, reason⟩ := State.stepped_clampEnd ha hg hle hb
    obtain ⟨pos, overrun, -, noted⟩ := comes.sample hact hlen encoder current
    have trails := (guidanceSample_after hact encoder current).2
    exact ⟨pos.trans (stays _ rfl), overrun, trails.carries.reasons _ reason (by decide), noted⟩
  · exact (State.stepped_once ha hg hle hb hg' hlt).sample hact hlen encoder current
  · intro c g'' hpos hc hg'' hle' hlt
    have comes := State.stepped_twice ha hg hpos hle hb hg' hle' hc hg'' hlt
    rw [← Standing.next_missed_leaving (Standing.first s.pos a) s.pos g g' b]
    exact comes.sample hact hlen encoder current

end Sys2Proof.Machine
end

section
/-! SUPPORT. What stop reasons, cues and the parts of a guidance sample leave: FLP but its grant, SND but its voices, the speed
window, and GDU but the yaw target. -/

namespace Sys2Proof.Machine

/-! ### FLP, SND and the speed window -/

/-- Of FLP only the grant, of SND only the voices and the start counter may have changed, and the speed window stands. -/
structure State.Sustains (s t : State) : Prop where
  flp : t.flp = { s.flp with grant := t.flp.grant }
  snd : t.snd = { s.snd with voices := t.snd.voices, startCounter := t.snd.startCounter }
  window : t.msv.window = s.msv.window

namespace State.Sustains

variable {s t u : State}

theorem of_same (hf : t.flp = s.flp) (hs : t.snd = s.snd) (hw : t.msv.window = s.msv.window) : s.Sustains t :=
  ⟨by rw [hf], by rw [hs], hw⟩

theorem refl (s : State) : s.Sustains s := of_same rfl rfl rfl

theorem trans (h : s.Sustains t) (h' : t.Sustains u) : s.Sustains u :=
  ⟨by rw [h'.flp, h.flp], by rw [h'.snd, h.snd], h'.window.trans h.window⟩

end State.Sustains

theorem State.placeRefill_sustains (i : Nat) (s : State) : s.Sustains (s.placeRefill i) := by
  unfold State.placeRefill
  dsimp only
  split
  · exact .refl _
  · split
    · exact ⟨rfl, rfl, rfl⟩
    · exact .refl _

theorem State.startVoice_sustains (i : Nat) (q : Claim) (c : Clip) (s : State) : s.Sustains (s.startVoice i q c) := by
  have yielded : s.Sustains (s.yieldVoice i) := .of_same (by simp) (by simp) (by simp)
  unfold State.startVoice
  dsimp only
  refine (yielded.trans ?_).trans (State.placeRefill_sustains _ _)
  split <;> exact ⟨rfl, rfl, rfl⟩

theorem State.claimVoice_sustains {q : Claim} {s t : State} {i : Nat} (h : s.claimVoice q = some (t, i)) :
    s.Sustains t := by
  unfold State.claimVoice at h
  split at h
  · cases h
    exact State.startVoice_sustains _ _ _ s
  · cases h

theorem State.announceStop_sustains (s : State) : s.Sustains s.announceStop := by
  have faded : s.Sustains (s.fadeVoices (fun v => v.level < 3)) := ⟨rfl, rfl, rfl⟩
  have refused (t : State) (n : Notice) : t.Sustains (t.raise n) := ⟨rfl, rfl, rfl⟩
  unfold State.announceStop
  dsimp only
  split
  · exact faded
  · split
    · exact faded.trans (refused _ _)
    · split
      · rename_i h
        exact faded.trans (State.claimVoice_sustains h)
      · exact faded.trans (refused _ _)

theorem State.enterEStop_sustains (s : State) : s.Sustains s.enterEStop := by
  unfold State.enterEStop
  refine State.Sustains.trans ?_ (State.announceStop_sustains _)
  exact ⟨rfl, rfl, rfl⟩

theorem State.addReason_sustains (r : StopReason) (s : State) : s.Sustains (s.addReason r) := by
  obtain ⟨-, e⟩ | ⟨-, -, -, e⟩ | ⟨-, -, -, -, e⟩ | ⟨-, -, -, e | e⟩ | ⟨-, -, -, -, e⟩ := s.addReason_cases r
  case inr.inr.inl =>
    have joined : s.Sustains (s.setMsv { s.msv with reasons := insertReason r s.msv.reasons }) := ⟨rfl, rfl, rfl⟩
    rw [e]
    exact (joined.trans (State.enterEStop_sustains _)).trans ⟨rfl, rfl, rfl⟩
  all_goals
    rw [e]
    exact ⟨rfl, rfl, rfl⟩

/-! ### The cue engine -/

/-- A relation that holds across each thing an evaluation is made of: the engine's own records, notices, fades and actions. -/
structure CueClosed (R : State → State → Prop) : Prop where
  refl : ∀ s, R s s
  trans : ∀ {s t u}, R s t → R t u → R s u
  record : ∀ s c, R s (s.setCue c)
  raise : ∀ s n, R s (s.raise n)
  fade : ∀ s p, R s (s.fadeVoices p)
  act : ∀ s id level idx a, R s (s.runAction id level idx a)

namespace CueClosed

variable {R : State → State → Prop} (h : CueClosed R)
include h

theorem exitCue (id : Nat) (all : Bool) (s : State) : R s (s.exitCue id all) :=
  h.trans (h.trans (h.trans (h.record s _) (h.record _ _)) (h.fade _ _)) (h.record _ _)

theorem runActions (id level idx : Nat) (as : List Action) (s : State) : R s (State.runActions id level idx as s) := by
  induction as generalizing idx s with
  | nil => exact h.refl s
  | cons a as ih => exact h.trans (h.act s id level idx a) (ih _ _)

theorem fireCue (id : Nat) (c : Cue) (s : State) : R s (s.fireCue id c) := by
  unfold State.fireCue
  dsimp only
  refine h.trans ?_ (h.runActions _ _ _ _ _)
  split
  · exact h.trans (h.record s _) (h.raise _ _)
  · exact h.record s _

theorem leaveCue (seg id : Nat) (s : State) : R s (s.leaveCue seg id) := by
  have exited (p : Prop) [Decidable p] : R s (if p then s.exitCue id false else s) := by
    split
    · exact h.exitCue id false s
    · exact h.refl s
  unfold State.leaveCue
  dsimp only
  split
  · exact h.refl s
  · split
    · exact h.refl s
    · split
      · exact h.trans (exited _) (h.record _ _)
      · exact exited _

theorem endCue (seg len id : Nat) (s : State) : R s (s.endCue seg len id) := by
  unfold State.endCue
  split
  · exact h.refl s
  · split
    · exact h.exitCue id false s
    · exact h.refl s

theorem judgeCue (seg len id : Nat) (s : State) : R s (s.judgeCue seg len id) := by
  unfold State.judgeCue
  split
  · exact h.refl s
  · split
    · exact h.refl s
    · split
      · exact h.fireCue id _ s
      · split
        · exact h.trans (h.record s _) (h.raise _ _)
        · exact h.refl s

theorem eachId {f : Nat → State → State} (hf : ∀ i s, R s (f i s)) (ids : List Nat) (s : State) :
    R s (Machine.eachId f ids s) := by
  unfold Machine.eachId
  induction ids generalizing s with
  | nil => exact h.refl s
  | cons i ids ih => exact h.trans (hf i s) (ih _)

/-- What holds across every part of an evaluation holds across the evaluation (05 R99). -/
theorem evaluate (moved : Bool) (s : State) : R s (s.evaluate moved) := by
  unfold State.evaluate
  dsimp only
  split
  · exact h.refl s
  · refine h.trans (h.trans (h.trans ?_ (h.eachId (h.endCue _ _) _ _)) (h.eachId (h.judgeCue _ _) _ _)) (h.record _ _)
    split
    · exact h.eachId (h.leaveCue _) _ s
    · exact h.refl s

end CueClosed

theorem State.requestDwell_window {ms : Nat} {s t : State} (h : s.requestDwell ms = some t) :
    t.msv.window = s.msv.window := by
  unfold State.requestDwell at h
  split at h <;> cases h <;> rfl

theorem State.runDwell_sustains (id idx ms : Nat) (s : State) : s.Sustains (s.runDwell id idx ms) := by
  unfold State.runDwell
  cases h : s.requestDwell ms with
  | none => exact ⟨rfl, rfl, rfl⟩
  | some t => exact .of_same (State.requestDwell_flp h) (State.requestDwell_snd h) (State.requestDwell_window h)

theorem State.runAction_sustains (s : State) (id level idx : Nat) (a : Action) :
    s.Sustains (s.runAction id level idx a) := by
  cases a with
  | play c b g l x =>
    unfold State.runAction State.runPlay
    dsimp only
    split
    · rename_i h
      exact State.claimVoice_sustains h
    · exact ⟨rfl, rfl, rfl⟩
  | dwell ms => exact State.runDwell_sustains id idx ms s
  | effect n on off k t => exact .of_same (by simp [State.runAction]) (by simp [State.runAction]) (by simp [State.runAction])
  | beacon c => exact .of_same (by simp [State.runAction]) (by simp [State.runAction]) (by simp [State.runAction])
  | yaw y => exact .of_same (by simp [State.runAction]) (by simp [State.runAction]) (by simp [State.runAction])
  | slow v => exact .of_same rfl rfl rfl

theorem sustains_cueClosed : CueClosed State.Sustains where
  refl := .refl
  trans := .trans
  record _ _ := ⟨rfl, rfl, rfl⟩
  raise _ _ := ⟨rfl, rfl, rfl⟩
  fade _ _ := ⟨rfl, rfl, rfl⟩
  act := State.runAction_sustains

/-! ### The position step and the speed stage -/

/-- What the position step and the speed stage of a sample leave, built of stop reasons other than YAW_FOLLOW and of cues: GDU but
the yaw target, YAW_FOLLOW as it was, PARKED where it was, and no entry to RUNNING or DWELL from outside them. -/
structure State.Spares (s t : State) : Prop where
  gdu : t.gdu = { s.gdu with yawTarget := t.gdu.yawTarget }
  sustains : s.Sustains t
  carries : s.Carries t
  follow : .yawFollow ∈ t.msv.reasons ↔ .yawFollow ∈ s.msv.reasons
  parked : s.msv.motion = .parked → t.msv.motion = .parked
  still : s.msv.motion ≠ .running ∧ s.msv.motion ≠ .dwell → t.msv.motion ≠ .running ∧ t.msv.motion ≠ .dwell

namespace State.Spares

variable {s t u : State}

/-- MSV's fields but the reasons, the motion state and the speed window are free to change. -/
theorem of_msv (hr : t.msv.reasons = s.msv.reasons) (hm : t.msv.motion = s.msv.motion)
    (hw : t.msv.window = s.msv.window) (hg : t.gdu = s.gdu) (hf : t.flp = s.flp) (hs : t.snd = s.snd) : s.Spares t where
  gdu := by rw [hg]
  sustains := .of_same hf hs hw
  carries := .of_eq hr hm
  follow := by rw [hr]
  parked := by rw [hm]; exact id
  still := by rw [hm]; exact id

theorem refl (s : State) : s.Spares s := of_msv rfl rfl rfl rfl rfl rfl

theorem trans (h : s.Spares t) (h' : t.Spares u) : s.Spares u where
  gdu := by rw [h'.gdu, h.gdu]
  sustains := h.sustains.trans h'.sustains
  carries := h.carries.trans h'.carries
  follow := h'.follow.trans h.follow
  parked := h'.parked ∘ h.parked
  still := h'.still ∘ h.still

end State.Spares

theorem State.setPos_spares (s : State) (p : Pos) : s.Spares (s.setPos p) := .of_msv rfl rfl rfl rfl rfl rfl

theorem State.raise_spares (s : State) (n : Notice) : s.Spares (s.raise n) := .of_msv rfl rfl rfl rfl rfl rfl

/-- The motion state that an added reason leaves: as it was, E_STOP or SAFE_STOP, and PARKED where it was (04 R66, R67). -/
theorem State.addReason_motion_cases (r : StopReason) (s : State) :
    (s.addReason r).msv.motion = s.msv.motion ∨
    s.msv.motion ≠ .parked ∧ ((s.addReason r).msv.motion = .eStop ∨ (s.addReason r).msv.motion = .safeStop) := by
  obtain ⟨-, e⟩ | ⟨-, -, -, e⟩ | ⟨-, -, hm, -, e⟩ | ⟨-, -, hm, e | e⟩ | ⟨-, -, -, -, e⟩ := s.addReason_cases r
  case inr.inr.inl => exact .inr ⟨hm, .inl (by simp [e])⟩
  case inr.inr.inr.inl.inl | inr.inr.inr.inl.inr =>
    exact .inr ⟨by rcases hm with hm | hm <;> simp [hm], .inr (by simp [e])⟩
  all_goals exact .inl (by simp [e])

theorem State.addReason_spares (s : State) (r : StopReason) (hr : r ≠ .yawFollow := by decide) :
    s.Spares (s.addReason r) where
  gdu := by simp
  sustains := State.addReason_sustains r s
  carries := State.addReason_carries r s
  follow := by simp [hr.symm]
  parked hm := (State.addReason_motion_cases r s).elim (·.trans hm) fun h => absurd hm h.1
  still hm := by
    obtain e | ⟨-, e | e⟩ := State.addReason_motion_cases r s
    · exact e ▸ hm
    · simp [e]
    · simp [e]

theorem State.evaluate_spares (s : State) (moved : Bool) : s.Spares (s.evaluate moved) where
  gdu := (s.evaluate_cueStep moved).gdu
  sustains := sustains_cueClosed.evaluate moved s
  carries := (s.evaluate_cueStep moved).carries
  follow := by rw [(s.evaluate_cueStep moved).reasons]
  parked hm := by rw [(s.evaluate_cueStep moved).msv_of_still (by simp [hm]) (by simp [hm]), hm]
  still hm := by rw [(s.evaluate_cueStep moved).msv_of_still hm.1 hm.2]; exact hm

theorem State.checkPoint_spares (s : State) : s.Spares s.checkPoint := by
  rw [State.checkPoint_eq]
  split
  · exact (s.setPos_spares _).trans (State.addReason_spares _ _)
  · exact .refl s

theorem State.missCheck_spares (s : State) (a : Nat) (g : Segment) (leaving : Bool) :
    s.Spares (s.missCheck a g leaving) := by
  have noted (n : Notice) : s.Spares ((s.setPos (s.pos.noted true)).raise n) :=
    (s.setPos_spares _).trans (State.raise_spares _ n)
  rw [State.missCheck_eq, State.countedMiss]
  split
  · split
    · exact (noted _).trans (State.addReason_spares _ _)
    · exact noted _
  · exact .refl s

theorem State.transition_spares (s : State) (a : Nat) (g : Segment) (b : Nat) : s.Spares (s.transition a g b) := by
  rw [State.transition_eq]
  exact (((s.setPos_spares _).trans (State.missCheck_spares _ _ _ _)).trans (State.setPos_spares _ _)).trans
    (State.checkPoint_spares _)

theorem State.clampEnd_spares (s : State) (a : Nat) (g : Segment) : s.Spares (s.clampEnd a g) :=
  (((s.setPos_spares _).trans (State.missCheck_spares _ a g true)).trans (State.addReason_spares _ _)).trans
    (State.raise_spares _ _)

theorem advance_spares (fuel : Nat) (moved : Bool) (s : State) : s.Spares (advance fuel moved s).state := by
  induction fuel generalizing moved s with
  | zero => exact .refl s
  | succ fuel ih =>
    unfold advance
    split
    · exact .refl s
    · split
      · exact .refl s
      · split
        · exact (s.transition_spares _ _ _).trans (ih _ _)
        · exact s.clampEnd_spares _ _

theorem State.stepCheck_spares (s : State) : s.Spares s.stepCheck := by
  unfold State.stepCheck
  split
  · exact .refl s
  · exact s.missCheck_spares _ _ _

theorem State.positionStep_spares (s : State) : s.Spares s.positionStep.1 := by
  unfold State.positionStep
  split
  · exact .refl s
  · have point : s.Spares s.takeResidue.checkPoint := (s.setPos_spares _).trans (State.checkPoint_spares _)
    exact ((point.trans (advance_spares _ _ _)).trans (State.stepCheck_spares _)).trans (State.evaluate_spares _ _)

theorem State.overspeedCheck_spares (s : State) : s.Spares s.overspeedCheck := by
  have counted (n : Nat) : s.Spares (s.setMsv { s.msv with overspeed := n }) := .of_msv rfl rfl rfl rfl rfl rfl
  unfold State.overspeedCheck
  split
  · exact counted 0
  · split
    · split
      · exact (counted 0).trans (State.addReason_spares _ _)
      · exact counted _
    · exact counted 0

theorem State.overrunCheck_spares (s : State) : s.Spares s.overrunCheck := by
  unfold State.overrunCheck
  split
  · exact s.addReason_spares _
  · exact .refl s

theorem State.heldTest_spares (s : State) : s.Spares s.heldTest := by
  have flagged (b : Bool) : s.Spares (s.setMsv { s.msv with held := b }) := .of_msv rfl rfl rfl rfl rfl rfl
  unfold State.heldTest
  split
  · split
    · exact .refl s
    · exact (flagged true).trans (State.raise_spares _ _)
  · split
    · exact flagged false
    · exact .refl s

/-- The dwell and safe-stop steps enter STOPPED from SAFE_STOP only (04 R86). -/
theorem State.restStep_spares (s : State) : s.Spares s.restStep := by
  have carries : s.Carries s.restStep := s.restStep_trails.carries
  unfold State.restStep at carries ⊢
  split
  · exact .refl s
  · split
    · exact .of_msv rfl rfl rfl rfl rfl rfl
    · rename_i hv _ _ hm
      rw [if_neg hv, hm] at carries
      exact ⟨rfl, ⟨rfl, rfl, rfl⟩, carries, Iff.rfl, fun h => absurd (hm.symm.trans h) (by decide), fun _ => by simp⟩
    · exact .refl s

/-- The speed stage after the distance has entered the window (04 R82). -/
theorem State.speedStage_spares (s : State) (ds : Int) : (s.windowStep ds).Spares (s.speedStage ds) := by
  have ramped (t : State) : t.Spares t.ramp := .of_msv rfl rfl rfl rfl rfl rfl
  exact ((((State.overspeedCheck_spares _).trans (State.overrunCheck_spares _)).trans (ramped _)).trans
    (State.heldTest_spares _)).trans (State.restStep_spares _)

end Sys2Proof.Machine
end

section
/-! PROOFS. The guidance sample (02, 07 R157): the guide reading, steering and turntable, follow-error supervision and
load-share, each by the stage that acts on it. -/

namespace Sys2Proof.Machine

/-! ### The guide reading (02 R25) -/

/-- The invalid count that a sample leaves (02 R25). -/
def State.nextInvalid (s : State) : Nat := if s.guideValid then 0 else min 3 (s.gdu.invalid + 1)

/-- The sample counted, before GUIDE_LOST (02 R25). -/
def State.counted (s : State) : State := s.setGdu { s.gdu with invalid := s.nextInvalid }

/-- GUIDE_LOST joins the set at the third invalid reading outside PARKED (02 R25). -/
theorem State.judgeGuide_eq (s : State) : s.judgeGuide =
    if s.guideValid = false ∧ 2 ≤ s.gdu.invalid ∧ s.msv.motion ≠ .parked then s.counted.addReason .guideLost
    else s.counted := by
  have third : s.nextInvalid = 3 ↔ s.guideValid = false ∧ 2 ≤ s.gdu.invalid := by
    unfold State.nextInvalid
    cases s.guideValid <;> simp
  simp only [← and_assoc, ← third]
  rfl

theorem State.judgeGuide_gdu (s : State) : s.judgeGuide.gdu = { s.gdu with invalid := s.nextInvalid } := by
  rw [State.judgeGuide_eq]
  split <;> simp [State.counted]

theorem State.judgeGuide_spares (s : State) : s.counted.Spares s.judgeGuide := by
  rw [State.judgeGuide_eq]
  split
  · exact State.addReason_spares _ _
  · exact .refl _

theorem State.judgeGuide_calm {s : State}
    (h : s.guideValid = true ∨ s.gdu.invalid < 2 ∨ s.msv.motion = .parked ∨ .guideLost ∈ s.msv.reasons) :
    s.judgeGuide.msv = s.msv := by
  rw [State.judgeGuide_eq]
  split
  · rename_i hlost
    obtain ⟨hv, hn, hm⟩ := hlost
    obtain ⟨-, e⟩ | ⟨hnew, -⟩ | ⟨hnew, -⟩ | ⟨hnew, -⟩ | ⟨hnew, -⟩ := s.counted.addReason_cases .guideLost
    · rw [e]
      rfl
    all_goals
      have there : .guideLost ∈ s.msv.reasons := by
        simpa [hv, Nat.not_lt.2 hn, hm] using h
      exact absurd there hnew
  · rfl

theorem State.judgeGuide_lost {s : State} (hv : s.guideValid = false) (hn : 2 ≤ s.gdu.invalid)
    (hm : s.msv.motion ≠ .parked) : .guideLost ∈ s.judgeGuide.msv.reasons ∧
      (.guideLost ∉ s.msv.reasons → s.judgeGuide.msv.motion = .eStop) := by
  rw [State.judgeGuide_eq, if_pos ⟨hv, hn, hm⟩]
  exact ⟨by simp, fun hnew => State.addReason_motion_of_isE rfl hnew hm⟩

/-! ### Steering and turntable (02 R28, R33) -/

/-- The yaw command that a sample leaves (02 R33). -/
def State.nextYaw (s : State) : Int :=
  if s.yawMayMove then stepToward s.gdu.yawCmd s.gdu.yawTarget s.settings.yawRate else s.gdu.yawCmd

theorem State.yawMayMove_iff (s : State) :
    s.yawMayMove = true ↔ s.allVerified = true ∧ s.msv.motion ≠ .eStop ∧ s.msv.motion ≠ .parked := by
  simp [State.yawMayMove]

/-- The steering and turntable stages, both written to their lines. -/
theorem State.turned_eq (s : State) (e : Int) : (s.steer e).moveTurntable =
    (s.setGdu { s.gdu with delta := s.nextDelta e, ePrev := e, yawCmd := s.nextYaw }).setLines
      { s.lines with steer := s.nextDelta e, yaw := s.nextYaw } := rfl

theorem stepToward_near (x target : Int) (rate : Nat) : (stepToward x target rate - x).natAbs ≤ rate := by
  unfold stepToward
  split
  · omega
  · split <;> omega

/-! ### Follow-error supervision (02 R35, R36) -/

/-- The encoder reading is out of bound. -/
def State.strays (encoder : Int) (s : State) : Bool := decide (50 < (encoder - s.gdu.yawCmd).natAbs)

/-- The fiftieth sample in a row that speaks against the phase (02 R35, R36). -/
def State.turnsPhase (encoder : Int) (s : State) : Prop :=
  s.strays encoder ≠ s.gdu.recovering ∧ 49 ≤ s.gdu.followCount

/-- GDU and the encoder's latch after a supervised sample. -/
def State.followed (encoder : Int) (s : State) : State :=
  (s.setLines { s.lines with encoder := encoder }).setGdu { s.gdu with
    followCount := if s.strays encoder = s.gdu.recovering ∨ 49 ≤ s.gdu.followCount then 0 else s.gdu.followCount + 1
    recovering :=
      if s.strays encoder ≠ s.gdu.recovering ∧ 49 ≤ s.gdu.followCount then !s.gdu.recovering else s.gdu.recovering }

/-- What a supervised sample does beside its count and phase: the fiftieth changes the stop-reason set. -/
theorem State.superviseYaw_cases (encoder : Int) (s : State) :
    (¬ s.turnsPhase encoder ∧ s.superviseYaw encoder = s.followed encoder) ∨
    (s.turnsPhase encoder ∧ s.gdu.recovering = true ∧
      s.superviseYaw encoder = (s.followed encoder).removeReason .yawFollow) ∨
    (s.turnsPhase encoder ∧ s.gdu.recovering = false ∧
      s.superviseYaw encoder = (s.followed encoder).addReason .yawFollow) := by
  have measured : decide (50 < (encoder - s.gdu.yawCmd).natAbs) = s.strays encoder := rfl
  have counts : s.gdu.followCount + 1 < 50 ↔ ¬ 49 ≤ s.gdu.followCount := by omega
  unfold State.superviseYaw State.followed State.turnsPhase
  simp only [measured, counts]
  by_cases hout : s.strays encoder = s.gdu.recovering
  · simp [hout]
  · by_cases hn : 49 ≤ s.gdu.followCount
    · cases hr : s.gdu.recovering <;> simp_all
    · simp [hout, hn]

theorem State.superviseYaw_gdu (encoder : Int) (s : State) :
    (s.superviseYaw encoder).gdu = (s.followed encoder).gdu := by
  obtain ⟨-, e⟩ | ⟨-, -, e⟩ | ⟨-, -, e⟩ := State.superviseYaw_cases encoder s <;> simp [e]

theorem State.superviseYaw_lines (encoder : Int) (s : State) :
    (s.superviseYaw encoder).lines = { s.lines with encoder := encoder } := by
  obtain ⟨-, e⟩ | ⟨-, -, e⟩ | ⟨-, -, e⟩ := State.superviseYaw_cases encoder s <;> simp [e, State.followed]

theorem State.superviseYaw_sustains (encoder : Int) (s : State) : s.Sustains (s.superviseYaw encoder) := by
  have followed : s.Sustains (s.followed encoder) := ⟨rfl, rfl, rfl⟩
  obtain ⟨-, e⟩ | ⟨-, -, e⟩ | ⟨-, -, e⟩ := State.superviseYaw_cases encoder s <;> rw [e]
  · exact followed
  · exact followed.trans ⟨rfl, rfl, rfl⟩
  · exact followed.trans (State.addReason_sustains _ _)

/-- YAW_FOLLOW, new, takes the vehicle out of RUNNING and DWELL (04 R67). -/
theorem State.addReason_yawFollow_motion {s : State} (hnew : .yawFollow ∉ s.msv.reasons) :
    (s.addReason .yawFollow).msv.motion ≠ .running ∧ (s.addReason .yawFollow).msv.motion ≠ .dwell := by
  cases hm : s.msv.motion.moving with
  | true => simp [State.addReason_motion_of_moving rfl hnew hm]
  | false =>
    rw [State.addReason_motion_of_still rfl hm]
    constructor <;> intro h <;> simp [h, Motion.moving] at hm

/-- What supervision does to MSV (02 R35, R36). -/
theorem State.superviseYaw_msv (encoder : Int) (s : State) :
    (¬ s.turnsPhase encoder → (s.superviseYaw encoder).msv = s.msv) ∧
    (s.turnsPhase encoder → s.gdu.recovering = false → .yawFollow ∈ (s.superviseYaw encoder).msv.reasons ∧
      (.yawFollow ∉ s.msv.reasons → (s.superviseYaw encoder).msv.motion ≠ .running ∧
        (s.superviseYaw encoder).msv.motion ≠ .dwell)) ∧
    (s.turnsPhase encoder → s.gdu.recovering = true → .yawFollow ∉ (s.superviseYaw encoder).msv.reasons) := by
  obtain ⟨h, e⟩ | ⟨h, hr, e⟩ | ⟨h, hr, e⟩ := State.superviseYaw_cases encoder s <;> rw [e]
  · exact ⟨fun _ => rfl, fun h' => absurd h' h, fun h' => absurd h' h⟩
  · exact ⟨absurd h, fun _ hr' => by simp [hr] at hr', fun _ _ => by simp [State.removeReason]⟩
  · exact ⟨absurd h, fun _ _ => ⟨by simp, fun hnew => State.addReason_yawFollow_motion hnew⟩, fun _ hr' => by simp [hr] at hr'⟩

/-! ### GDU's stages before the supervision -/

/-- The guide reading judged, the steering and turntable stages done. -/
def State.turned (s : State) : State := (s.judgeGuide.steer s.guideOffset).moveTurntable

theorem State.guide_eq (s : State) (encoder : Int) : s.guide encoder = s.turned.superviseYaw encoder := rfl

theorem State.turned_gdu (s : State) : s.turned.gdu = { s.gdu with
    invalid := s.nextInvalid, ePrev := s.guideOffset
    delta := s.judgeGuide.nextDelta s.guideOffset, yawCmd := s.judgeGuide.nextYaw } := by
  rw [State.turned, State.turned_eq, State.setLines_gdu, State.setGdu_gdu, State.judgeGuide_gdu]

theorem State.turned_msv (s : State) : s.turned.msv = s.judgeGuide.msv := by
  rw [State.turned, State.turned_eq, State.setLines_msv, State.setGdu_msv]

theorem State.turned_lines (s : State) : s.turned.lines =
    { s.lines with steer := s.turned.gdu.delta, yaw := s.turned.gdu.yawCmd } := by
  rw [State.turned, State.turned_eq, State.setLines_lines, s.judgeGuide_sameBut.same .lines]
  rfl

theorem State.turned_sustains (s : State) : s.Sustains s.turned := by
  have counted : s.Sustains s.counted := ⟨rfl, rfl, rfl⟩
  rw [State.turned, State.turned_eq]
  exact (counted.trans s.judgeGuide_spares.sustains).trans ⟨rfl, rfl, rfl⟩

theorem State.judgeGuide_allVerified (s : State) : s.judgeGuide.allVerified = s.allVerified := by
  unfold State.allVerified
  rw [s.judgeGuide_sameBut.same .rsm]

theorem State.judgeGuide_activeSegment (s : State) : s.judgeGuide.activeSegment = s.activeSegment := by
  unfold State.activeSegment
  rw [s.judgeGuide_sameBut.pos]

/-- The state's rules for the steering command (02 R28). -/
theorem State.nextDelta_by_motion (s : State) (e : Int) :
    (s.msv.motion = .parked → s.nextDelta e = 0) ∧
    (s.msv.motion = .stopped ∨ s.msv.motion = .eStop → s.nextDelta e = s.gdu.delta) ∧
    (∀ a g, s.msv.motion.moving = true → s.activeSegment = some (a, g) →
      s.nextDelta e = steerLaw s.settings g e s.gdu.ePrev s.gdu.delta) := by
  unfold State.nextDelta
  cases s.msv.motion <;> simp_all [Motion.moving]

/-- With no new GUIDE_LOST the commands follow the motion state that the sample found (02 R28, R33). -/
theorem State.turned_calm {s : State}
    (h : s.guideValid = true ∨ s.gdu.invalid < 2 ∨ s.msv.motion = .parked ∨ .guideLost ∈ s.msv.reasons) :
    (s.msv.motion = .parked → s.turned.gdu.delta = 0) ∧
    (s.msv.motion = .stopped ∨ s.msv.motion = .eStop → s.turned.gdu.delta = s.gdu.delta) ∧
    (∀ a g, s.msv.motion.moving = true → s.activeSegment = some (a, g) →
      s.turned.gdu.delta = steerLaw s.settings g s.guideOffset s.gdu.ePrev s.gdu.delta) ∧
    s.turned.gdu.yawCmd = (if s.allVerified = true ∧ s.msv.motion ≠ .eStop ∧ s.msv.motion ≠ .parked then
      stepToward s.gdu.yawCmd s.gdu.yawTarget s.settings.yawRate else s.gdu.yawCmd) := by
  have steers := s.judgeGuide.nextDelta_by_motion s.guideOffset
  rw [State.judgeGuide_calm h, State.judgeGuide_gdu, State.judgeGuide_activeSegment,
    s.judgeGuide_sameBut.settings] at steers
  obtain ⟨parked, still, moving⟩ := steers
  rw [State.turned_gdu]
  refine ⟨parked, still, moving, ?_⟩
  simp only [State.nextYaw, State.yawMayMove_iff, State.judgeGuide_allVerified, State.judgeGuide_calm h,
    State.judgeGuide_gdu, s.judgeGuide_sameBut.settings]

/-- In E_STOP both commands are held (02 R28, R33). -/
theorem State.turned_held {s : State} (h : s.judgeGuide.msv.motion = .eStop) :
    s.turned.gdu.delta = s.gdu.delta ∧ s.turned.gdu.yawCmd = s.gdu.yawCmd := by
  have held := (s.judgeGuide.nextDelta_by_motion s.guideOffset).2.1 (.inr h)
  rw [State.turned_gdu]
  refine ⟨?_, ?_⟩
  · rw [held, State.judgeGuide_gdu]
  · simp [State.nextYaw, State.yawMayMove_iff, h, State.judgeGuide_gdu]

/-! ### Load-share (07 R157, R158) -/

/-- A reading while load-share is INACTIVE. -/
theorem State.readLoad_inactive {s : State} (h : s.snd.loadShare = false) (current : Nat) :
    (s.readLoad current).snd.loadShare = decide (s.settings.loadThreshold < current ∧ 2 ≤ s.snd.loadRun) ∧
    (s.readLoad current).snd.loadRun =
      if s.settings.loadThreshold < current ∧ s.snd.loadRun < 2 then s.snd.loadRun + 1 else 0 := by
  have third : s.snd.loadRun + 1 < 3 ↔ s.snd.loadRun < 2 := by omega
  unfold State.readLoad
  simp only [h, third]
  by_cases hc : s.settings.loadThreshold < current
  · by_cases hn : s.snd.loadRun < 2
    · simp [hc, hn]
    · simp [hc, hn, Nat.not_lt.1 hn, State.capMaster]
  · simp [hc]

/-- A reading while load-share is ACTIVE. -/
theorem State.readLoad_active {s : State} (h : s.snd.loadShare = true) (current : Nat) :
    (s.readLoad current).snd.loadShare =
      (!decide (current < s.settings.loadThreshold - s.settings.loadHysteresis ∧ 9 ≤ s.snd.loadRun)) ∧
    (s.readLoad current).snd.loadRun =
      if current < s.settings.loadThreshold - s.settings.loadHysteresis ∧ s.snd.loadRun < 9 then s.snd.loadRun + 1
      else 0 := by
  have tenth : s.snd.loadRun + 1 < 10 ↔ s.snd.loadRun < 9 := by omega
  unfold State.readLoad Settings.releaseLevel
  simp only [h, tenth]
  by_cases hc : current < s.settings.loadThreshold - s.settings.loadHysteresis
  · by_cases hn : s.snd.loadRun < 9
    · simp [hc, hn]
    · simp [hc, hn, Nat.not_lt.1 hn]
  · simp [hc]

/-- m falls when load-share becomes ACTIVE, and stays otherwise. -/
theorem State.readLoad_m (s : State) (current : Nat) : (s.readLoad current).snd.m =
    if s.snd.loadShare = false ∧ (s.readLoad current).snd.loadShare = true then
      min s.snd.m (s.readLoad current).masterTarget else s.snd.m := by
  unfold State.readLoad
  cases h : s.snd.loadShare with
  | true =>
    simp only [if_true, Bool.true_eq_false, false_and, if_false]
    repeat' split
    all_goals rfl
  | false =>
    by_cases hc : s.settings.loadThreshold < current
    · by_cases hn : s.snd.loadRun + 1 < 3
      · simp [hc, hn, h]
      · simp [hc, hn, State.capMaster, State.masterTarget]
    · simp [hc, h]

/-! ### The whole sample -/

/-- The settings and the seats' answer that a position step finds are those it leaves. -/
theorem State.positionStep_settings (s : State) : s.positionStep.1.settings = s.settings :=
  s.positionStep_sameBut.settings

theorem State.positionStep_allVerified (s : State) : s.positionStep.1.allVerified = s.allVerified := by
  unfold State.allVerified
  rw [s.positionStep_sameBut.same .rsm]

/-- GDU's fields that the cues leave, before GDU's own stages. -/
theorem State.positionStep_gdu (s : State) :
    s.positionStep.1.gdu = { s.gdu with yawTarget := s.positionStep.1.gdu.yawTarget } := s.positionStep_spares.gdu

section
variable (s : State) (encoder : Int) (current : Nat)

/-- The sample's stages up to the speed stage, before the drive current is read. -/
def State.sped (s : State) : State := (s.positionStep.1.guide encoder).speedStage s.positionStep.2

theorem guidanceSample_eq : guidanceSample encoder current s = (s.sped encoder).readLoad current := rfl

theorem guidanceSample_afterSpeed : SameBut [.snd] (s.sped encoder) (guidanceSample encoder current s) :=
  State.readLoad_sameBut _ current

theorem guidanceSample_afterGuide :
    SameBut [.msv, .cue, .flp, .snd, .ntu, .free] (s.positionStep.1.guide encoder) (guidanceSample encoder current s) :=
  (State.speedStage_sameBut _ _).andThen (guidanceSample_afterSpeed s encoder current)

/-- GDU once the sample is over: its own stages after the position step and nothing later. -/
theorem guidanceSample_gdu :
    (guidanceSample encoder current s).gdu = (s.positionStep.1.turned.followed encoder).gdu := by
  rw [(guidanceSample_afterGuide s encoder current).gdu, State.guide_eq, State.superviseYaw_gdu]

/-- The lines once the sample is over (00 Table 0-2). -/
theorem guidanceSample_lines :
    (guidanceSample encoder current s).lines = { s.lines with
      steer := (guidanceSample encoder current s).gdu.delta, yaw := (guidanceSample encoder current s).gdu.yawCmd
      encoder := encoder } := by
  have stepped : s.positionStep.1.lines = s.lines := s.positionStep_sameBut.same .lines
  rw [(guidanceSample_afterGuide s encoder current).same .lines, State.guide_eq, State.superviseYaw_lines,
    State.turned_lines, stepped, guidanceSample_gdu]
  rfl

theorem guidanceSample_pos : (guidanceSample encoder current s).pos = s.positionStep.1.pos :=
  (guidanceSample_afterGuide s encoder current).pos.trans (State.guide_sameBut _ encoder).pos

theorem State.sped_settings : (s.sped encoder).settings = s.settings :=
  ((State.speedStage_sameBut _ _).settings.trans (State.guide_sameBut _ encoder).settings).trans s.positionStep_settings

/-- The speed stage, after the window has moved on. -/
theorem State.sped_spares : ((s.positionStep.1.guide encoder).windowStep s.positionStep.2).Spares (s.sped encoder) :=
  State.speedStage_spares _ _

/-- What the position step and GDU's stages sustain. -/
theorem State.guided_sustains : s.Sustains (s.positionStep.1.guide encoder) :=
  (s.positionStep_spares.sustains.trans (State.turned_sustains _)).trans (State.superviseYaw_sustains encoder _)

theorem State.sped_window : (s.sped encoder).msv.window = s.msv.window.drop 1 ++ [s.positionStep.2] := by
  rw [(s.sped_spares encoder).sustains.window, ← (s.guided_sustains encoder).window]
  rfl

theorem State.sped_flp : (s.sped encoder).flp = { s.flp with grant := (s.sped encoder).flp.grant } := by
  rw [(s.sped_spares encoder).sustains.flp, State.windowStep, State.setMsv_flp, (s.guided_sustains encoder).flp]

theorem State.sped_snd : (s.sped encoder).snd =
    { s.snd with voices := (s.sped encoder).snd.voices, startCounter := (s.sped encoder).snd.startCounter } := by
  rw [(s.sped_spares encoder).sustains.snd, State.windowStep, State.setMsv_snd, (s.guided_sustains encoder).snd]

theorem guidanceSample_invalid : (guidanceSample encoder current s).gdu.invalid =
    if s.positionStep.1.guideValid then 0 else min 3 (s.gdu.invalid + 1) := by
  rw [guidanceSample_gdu, State.followed, State.setGdu_gdu, State.turned_gdu, State.nextInvalid, s.positionStep_gdu]

/-- The commands of a sample that adds no GUIDE_LOST (02 R28, R33). -/
theorem guidanceSample_steers (h : s.positionStep.1.guideValid = true ∨ s.gdu.invalid < 2 ∨
      s.positionStep.1.msv.motion = .parked ∨ .guideLost ∈ s.positionStep.1.msv.reasons) :
    let p := s.positionStep.1
    let t := guidanceSample encoder current s
    (p.msv.motion = .parked → t.gdu.delta = 0) ∧
    (p.msv.motion = .stopped ∨ p.msv.motion = .eStop → t.gdu.delta = s.gdu.delta) ∧
    (∀ a g, p.msv.motion.moving = true → p.activeSegment = some (a, g) →
      t.gdu.delta = steerLaw s.settings g p.guideOffset s.gdu.ePrev s.gdu.delta) ∧
    t.gdu.yawCmd = (if s.allVerified = true ∧ p.msv.motion ≠ .eStop ∧ p.msv.motion ≠ .parked then
      stepToward s.gdu.yawCmd p.gdu.yawTarget s.settings.yawRate else s.gdu.yawCmd) := by
  intro p t
  have kept : p.gdu = { s.gdu with yawTarget := p.gdu.yawTarget } := s.positionStep_gdu
  have calm := p.turned_calm (by rwa [kept])
  rw [kept, s.positionStep_settings, s.positionStep_allVerified] at calm
  rw [show t.gdu = _ from guidanceSample_gdu s encoder current]
  exact calm

/-- The third invalid reading outside PARKED (02 R25, R28, R33). -/
theorem guidanceSample_loses (hv : s.positionStep.1.guideValid = false) (hn : 2 ≤ s.gdu.invalid)
    (hm : s.positionStep.1.msv.motion ≠ .parked) :
    let t := guidanceSample encoder current s
    .guideLost ∈ t.msv.reasons ∧ (.guideLost ∉ s.positionStep.1.msv.reasons →
      t.msv.motion = .eStop ∧ t.gdu.delta = s.gdu.delta ∧ t.gdu.yawCmd = s.gdu.yawCmd) := by
  intro t
  have gdu := s.positionStep_gdu
  obtain ⟨lost, stops⟩ := State.judgeGuide_lost hv (by rwa [gdu]) hm
  have rest : s.positionStep.1.turned.Carries t :=
    (((State.superviseYaw_trails _ encoder).trans (State.speedStage_trails _ s.positionStep.2)).trans
      (State.readLoad_trails _ current)).carries
  rw [← State.turned_msv] at lost
  refine ⟨rest.reasons _ lost (by decide), fun hnew => ⟨rest.eStop (by rw [State.turned_msv, stops hnew]), ?_⟩⟩
  have held := State.turned_held (stops hnew)
  rw [gdu] at held
  rw [show t.gdu = _ from guidanceSample_gdu s encoder current]
  exact held

/-- YAW_FOLLOW before the supervision is as the sample found it. -/
theorem State.turned_follow :
    .yawFollow ∈ s.positionStep.1.turned.msv.reasons ↔ .yawFollow ∈ s.msv.reasons := by
  rw [State.turned_msv]
  exact s.positionStep.1.judgeGuide_spares.follow.trans s.positionStep_spares.follow

/-- Follow-error supervision in the sample (02 R35, R36). -/
theorem guidanceSample_follows :
    let t := guidanceSample encoder current s
    let out := s.positionStep.1.turned.strays encoder
    t.gdu.followCount = (if out = s.gdu.recovering ∨ 49 ≤ s.gdu.followCount then 0 else s.gdu.followCount + 1) ∧
    t.gdu.recovering = (if out ≠ s.gdu.recovering ∧ 49 ≤ s.gdu.followCount then !s.gdu.recovering
      else s.gdu.recovering) ∧
    (¬(out ≠ s.gdu.recovering ∧ 49 ≤ s.gdu.followCount) →
      (.yawFollow ∈ t.msv.reasons ↔ .yawFollow ∈ s.msv.reasons)) ∧
    (out = true → s.gdu.recovering = false → 49 ≤ s.gdu.followCount → .yawFollow ∈ t.msv.reasons ∧
      (.yawFollow ∉ s.msv.reasons → t.msv.motion ≠ .running ∧ t.msv.motion ≠ .dwell)) ∧
    (out = false → s.gdu.recovering = true → 49 ≤ s.gdu.followCount → .yawFollow ∉ t.msv.reasons) := by
  intro t out
  have gdu : t.gdu = (s.positionStep.1.turned.followed encoder).gdu := guidanceSample_gdu s encoder current
  have msv : t.msv = (s.sped encoder).msv := (guidanceSample_afterSpeed s encoder current).msv
  have recovering : s.positionStep.1.turned.gdu.recovering = s.gdu.recovering := by
    rw [State.turned_gdu, s.positionStep_gdu]
  have followCount : s.positionStep.1.turned.gdu.followCount = s.gdu.followCount := by
    rw [State.turned_gdu, s.positionStep_gdu]
  obtain ⟨calm, strays, returns⟩ := s.positionStep.1.turned.superviseYaw_msv encoder
  rw [State.turnsPhase, recovering, followCount] at calm strays returns
  have rest := s.sped_spares encoder
  refine ⟨?_, ?_, fun h => ?_, fun ho hr hn => ?_, fun ho hr hn => ?_⟩
  · rw [gdu, ← recovering, ← followCount]
    rfl
  · rw [gdu, ← recovering, ← followCount]
    rfl
  · rw [msv, rest.follow, ← s.turned_follow, ← calm h]
    rfl
  · obtain ⟨mem, leaves⟩ := strays ⟨by simp [out, ho, hr], hn⟩ hr
    rw [msv]
    exact ⟨rest.follow.2 mem, fun hnew => rest.still (leaves (mt s.turned_follow.1 hnew))⟩
  · rw [msv]
    exact mt rest.follow.1 (returns ⟨by simp [out, ho, hr], hn⟩ hr)

end

/-- Settles O25, stage by stage: position step, guidance, supervision, speed stage, drive current. -/
theorem guidanceSampleActs : Obligations.GuidanceSampleActs := by
  intro s encoder current hr p
  have ran : exec (.guidanceSample encoder current) s = .next (guidanceSample encoder current s) :=
    congrArg Host.Outcome.next (event_of_running hr)
  have settings := s.sped_settings encoder
  have share := congrArg Snd.loadShare (s.sped_snd encoder)
  have run := congrArg Snd.loadRun (s.sped_snd encoder)
  have m := congrArg Snd.m (s.sped_snd encoder)
  have gdu := guidanceSample_gdu s encoder current
  have read := guidanceSample_afterSpeed s encoder current
  refine ⟨_, ran, guidanceSample_sameBut _ _ _, guidanceSample_pos s encoder current, congrArg Gdu.ePrev gdu,
    guidanceSample_invalid s encoder current, guidanceSample_lines s encoder current, ?_, ?_,
    guidanceSample_steers s encoder current, guidanceSample_loses s encoder current, ?_, fun h => ?_, fun h => ?_, ?_⟩
  · rw [read.msv]
    exact s.sped_window encoder
  · rw [read.same .flp]
    exact s.sped_flp encoder
  · have out : s.positionStep.1.turned.strays encoder =
        decide (50 < (encoder - (guidanceSample encoder current s).gdu.yawCmd).natAbs) := by
      rw [gdu]
      rfl
    have follows := guidanceSample_follows s encoder current
    rw [out] at follows
    exact follows
  · have inactive := State.readLoad_inactive (share.trans h) current
    rwa [settings, run] at inactive
  · have active := State.readLoad_active (share.trans h) current
    rwa [settings, run] at active
  · have falls := (s.sped encoder).readLoad_m current
    rwa [share, m] at falls

end Sys2Proof.Machine
end

section
/-! PROOFS. The turntable's command under every command (02 R33, R37). -/

namespace Sys2Proof.Machine

/-- The turntable's command is as it was. -/
def State.SameYaw (s t : State) : Prop := t.gdu.yawCmd = s.gdu.yawCmd

theorem State.SameYaw.of_gdu {s t : State} (h : t.gdu = s.gdu) : s.SameYaw t := congrArg Gdu.yawCmd h

theorem State.Spares.sameYaw {s t : State} (h : s.Spares t) : s.SameYaw t := by
  rw [State.SameYaw, h.gdu]

/-- A request moves the turntable's command only where its answer does. -/
theorem request_sameYaw {kind key : Nat} {act : State → Answer} (h : ∀ u, (act u).Leaves u.SameYaw) (s : State) :
    s.SameYaw (request kind key act s) := by
  obtain ⟨-, e⟩ | ⟨-, -, e⟩ | ⟨-, -, st, p, -, e⟩ | ⟨-, -, t, st, c, p, ha, e⟩ := request_cases s kind key act
  · exact .of_gdu (by rw [e])
  · exact .of_gdu (by rw [e]; rfl)
  · exact .of_gdu (by rw [e]; rfl)
  · have taken : s.hearFrame.SameYaw t := by simpa [ha] using h s.hearFrame
    rw [e]
    exact taken

theorem event_sameYaw {f : State → State} (h : ∀ u : State, u.SameYaw (f u)) (s : State) : s.SameYaw (event f s) := by
  obtain ⟨-, e⟩ | ⟨-, e⟩ := event_cases s f
  · exact .of_gdu (by rw [e])
  · exact e ▸ h s

theorem markerRead_sameYaw (code : Nat) (s : State) : s.SameYaw (markerRead code s) := by
  have mismatched (a : Nat) : s.SameYaw (s.mismatch a code) := .of_gdu (s.mismatch_sameBut a code).gdu
  have corrected (offset : Nat) : s.SameYaw (s.correct offset) :=
    (((s.setPos_spares _).trans (State.checkPoint_spares _)).trans (State.evaluate_spares _ _)).sameYaw
  unfold markerRead
  split
  · exact .of_gdu rfl
  · split
    · exact .of_gdu rfl
    · split
      · exact mismatched _
      · split
        · exact .of_gdu rfl
        · split
          · exact corrected _
          · exact mismatched _

theorem guideWord_sameYaw (word : Option GuideWord) (s : State) : s.SameYaw (guideWord word s) := by
  cases word <;> rfl

theorem State.takeSettings_sameYaw (ws : List Nat) (s : State) : (s.takeSettings ws).Leaves s.SameYaw := by
  have stored (t : Settings) : s.SameYaw (s.storeSettings t) := by
    unfold State.storeSettings State.sndSettings State.msvSettings
    repeat' split
    all_goals rfl
  unfold State.takeSettings
  dsimp only
  split
  · trivial
  · split
    · trivial
    · exact stored _

theorem putSettings_sameYaw (key : Nat) (ws : List Nat) (s : State) : (putSettings key ws s).Leaves s.SameYaw := by
  unfold putSettings
  split
  · trivial
  · split
    · trivial
    · exact s.takeSettings_sameYaw ws

theorem amendSettings_sameYaw (key presence : Nat) (ws : List Nat) (s : State) :
    (amendSettings key presence ws s).Leaves s.SameYaw := by
  unfold amendSettings
  split
  · trivial
  · split
    · trivial
    · split
      · exact .of_gdu rfl
      · exact s.takeSettings_sameYaw _

theorem parkVehicle_sameYaw (s : State) : (parkVehicle s).Leaves s.SameYaw := by
  unfold parkVehicle
  split
  · have withdrawn (t : State) : t.withdrawPermit.gdu = t.gdu := t.withdrawPermit_sameBut.gdu
    simp [State.SameYaw, withdrawn]
  · trivial

theorem placeVehicle_sameYaw (segment position : Nat) (s : State) :
    (placeVehicle segment position s).Leaves s.SameYaw := by
  have placed : s.SameYaw (s.placeAt segment position) := (State.evaluate_spares _ true).sameYaw
  unfold placeVehicle
  split
  · trivial
  · split
    · trivial
    · split
      · trivial
      · split
        · trivial
        · split
          · trivial
          · exact placed

theorem hostYaw_sameYaw (target : Int) (s : State) : (hostYaw target s).Leaves s.SameYaw := by
  unfold hostYaw
  split
  · rfl
  · trivial

theorem softReset_sameYaw (s : State) : (softReset s).Leaves s.SameYaw := by
  unfold softReset
  split
  · rfl
  · trivial

theorem resetEnd_sameYaw (s : State) : s.SameYaw (resetEnd s) := by
  unfold resetEnd notDue
  split <;> rfl

/-- Only a guidance sample and the POWER and PIN resets move the turntable's command. -/
theorem exec_sameYaw (c : Instr) (s : State) (hg : ∀ e i, c ≠ .guidanceSample e i) (hp : ∀ e, c ≠ .powerReset e)
    (hn : ∀ e, c ≠ .pinReset e) : Result.Leaves s.SameYaw (exec c s) := by
  cases c
  case guidanceSample => exact absurd rfl (hg _ _)
  case powerReset => exact absurd rfl (hp _)
  case pinReset => exact absurd rfl (hn _)
  case resetEnd => exact next_leaves (resetEnd_sameYaw s)
  case markerRead => exact next_leaves (event_sameYaw (markerRead_sameYaw _) s)
  case guideWord => exact next_leaves (event_sameYaw (guideWord_sameYaw _) s)
  case putSettings => exact next_leaves (request_sameYaw (putSettings_sameYaw _ _) s)
  case amendSettings => exact next_leaves (request_sameYaw (amendSettings_sameYaw _ _ _) s)
  case park => exact next_leaves (request_sameYaw parkVehicle_sameYaw s)
  case place => exact next_leaves (request_sameYaw (placeVehicle_sameYaw _ _) s)
  case yaw => exact next_leaves (request_sameYaw (hostYaw_sameYaw _) s)
  case softReset => exact next_leaves (request_sameYaw softReset_sameYaw s)
  all_goals exact fun t ht => .of_gdu ((exec_sameBut _ s rfl t ht).gdu (by simp [Instr.blocks]))

/-- A sample that moves the turntable's command finds every enabled seat VERIFIED and a state that allows it (02 R33). -/
theorem guidanceSample_turns {s : State} {encoder : Int} {current : Nat}
    (h : (guidanceSample encoder current s).gdu.yawCmd ≠ s.gdu.yawCmd) :
    s.allVerified = true ∧ s.msv.motion ≠ .parked ∧ s.msv.motion ≠ .eStop ∧
      ((guidanceSample encoder current s).gdu.yawCmd - s.gdu.yawCmd).natAbs ≤ s.settings.yawRate := by
  have yaw : s.positionStep.1.judgeGuide.gdu.yawCmd = s.gdu.yawCmd := by
    rw [State.judgeGuide_gdu, s.positionStep_gdu]
  have rate : s.positionStep.1.judgeGuide.settings = s.settings :=
    (State.judgeGuide_sameBut _).settings.trans s.positionStep_settings
  have next : (guidanceSample encoder current s).gdu.yawCmd = s.positionStep.1.judgeGuide.nextYaw :=
    congrArg Gdu.yawCmd (guidanceSample_gdu s encoder current)
  rw [next, State.nextYaw, yaw, rate] at h ⊢
  cases hm : s.positionStep.1.judgeGuide.yawMayMove with
  | false => simp [hm] at h
  | true =>
    obtain ⟨verified, unstopped, unparked⟩ := (State.yawMayMove_iff _).1 hm
    rw [State.judgeGuide_allVerified, s.positionStep_allVerified] at verified
    have judged := s.positionStep.1.judgeGuide_spares
    have stepped := s.positionStep_spares
    exact ⟨verified, fun hs => unparked (judged.parked (stepped.parked hs)),
      fun hs => unstopped (judged.carries.eStop (stepped.carries.eStop hs)), stepToward_near _ _ _⟩

/-- Settles O15: every other command leaves the turntable's command, and a sample moves it by R33. -/
theorem turntableMovesOnlyWhenSafe : Obligations.TurntableMovesOnlyWhenSafe := by
  intro c s t ht hne
  by_cases hreset : ∃ e, c = .powerReset e ∨ c = .pinReset e
  · exact .inl hreset
  by_cases hsample : ∃ e i, c = .guidanceSample e i
  · obtain ⟨e, i, rfl⟩ := hsample
    obtain rfl : event (guidanceSample e i) s = t := Host.Outcome.next.inj ht
    obtain ⟨-, still⟩ | ⟨hr, ran⟩ := event_cases s (guidanceSample e i)
    · exact absurd (by rw [still]) hne
    · rw [ran] at hne ⊢
      obtain ⟨verified, unparked, unstopped, near⟩ := guidanceSample_turns hne
      exact .inr ⟨⟨e, i, rfl⟩, hr, verified, unparked, unstopped, near⟩
  · exact absurd (exec_sameYaw c s (fun e i h => hsample ⟨e, i, h⟩) (fun e h => hreset ⟨e, .inl h⟩)
      (fun e h => hreset ⟨e, .inr h⟩) t ht) hne

end Sys2Proof.Machine
end

section
/-! SUPPORT. What the operations of the restraint monitor do to its seats, its hold and its permit, to the stop reasons and to
the notices (03). -/

namespace Sys2Proof.Machine

/-- The source of a notice raised after operations that leave that source (08 R163). -/
theorem RaisesOnly.source_raise {ns : List Nat} {s t : State} (h : RaisesOnly ns s t) (n : Notice)
    (hs : s.ntu.sources.length = 12) (hn : n.source ∉ ns := by simp [Notice.source]) :
    (t.raise n).source n.source = Source.record n (s.source n.source) := by
  rw [State.source_raise n (h.length.trans hs), h.source n.source hn n.one_le_source]

/-! ### One seat -/

/-- A seat once it has been sampled: its configuration, and the next state of its machine (03 Table 3-2). -/
def Seat.sampled (t : Seat) (r : SeatReading) : Seat := { t with state := t.state.next (t.classify r) }

@[simp] theorem Seat.sampled_state (t : Seat) (r : SeatReading) : (t.sampled r).state = t.state.next (t.classify r) := rfl

theorem State.seat_of_le {s : State} {i : Nat} (h : s.rsm.seats.length ≤ i) : s.seat i = Seat.reset := by
  simp [State.seat, h]

/-- A seat with an energised solenoid is one of the table's. -/
theorem State.lt_length_of_releasing {s : State} {i u : Nat} (h : (s.seat i).state = .releasing u) :
    i < s.rsm.seats.length := by
  by_contra hi
  rw [State.seat_of_le (Nat.not_lt.1 hi)] at h
  cases h

theorem State.seat_setSeatState_self {s : State} {i : Nat} (st : SeatState) (h : i < s.rsm.seats.length) :
    (s.setSeatState i st).seat i = { s.seat i with state := st } := by
  simp [State.seat, State.setSeatState, h]

theorem State.seat_setSeatState_of_ne {s : State} {i j : Nat} (st : SeatState) (h : j ≠ i) :
    (s.setSeatState i st).seat j = s.seat j := by
  simp [State.seat, State.setSeatState, h.symm]

theorem State.seat_setSeat_self {s : State} {i : Nat} (t : Seat) (h : i < s.rsm.seats.length) :
    (s.setSeat i t).seat i = t := by
  simp [State.seat, State.setSeat, h]

theorem State.seat_setSeat_of_ne {s : State} {i j : Nat} (t : Seat) (h : j ≠ i) : (s.setSeat i t).seat j = s.seat j := by
  simp [State.seat, State.setSeat, h.symm]

/-- The states that are named as FAULT is. -/
theorem SeatState.code_fault_iff (f : FaultReason) (st : SeatState) :
    (SeatState.fault f).code = st.code ↔ ∃ g, st = .fault g := by
  cases st <;> simp [SeatState.code]

/-- A seat enters FAULT by a reading only from a state of another name: FAULT itself is not read (03 R46, R47). -/
theorem SeatState.code_ne_of_entersFault {st : SeatState} {k : ReadingKind} {f : FaultReason} (h : st.next k = .fault f)
    (hne : st ≠ .fault f) : (st.next k).code ≠ st.code := by
  rw [h, ne_eq, SeatState.code_fault_iff]
  rintro ⟨g, rfl⟩
  exact hne h

/-! ### A seat's sample (03 R43 to R49) -/

/-- All that the sample of one seat can do: the seat keeps the name of its state; or it changes with its notice, into a state
other than FAULT, or into FAULT with SEAT_FAULT. -/
theorem State.sampleSeat_cases (i : Nat) (r : SeatReading) (s : State) :
    let st := ((s.seat i).sampled r).state
    (st.code = (s.seat i).state.code ∧ s.sampleSeat i r = s.setSeatState i st) ∨
    (st.code ≠ (s.seat i).state.code ∧ (∀ f, st ≠ .fault f) ∧
      s.sampleSeat i r = (s.setSeatState i st).raise (.seat i st)) ∨
    (st.code ≠ (s.seat i).state.code ∧ (∃ f, st = .fault f) ∧
      s.sampleSeat i r = ((s.setSeatState i st).addReason .seatFault).raise (.seat i st)) := by
  intro st
  have run : s.sampleSeat i r = if st.sameName (s.seat i).state then s.setSeatState i st else
      match st with
      | .fault _ => ((s.setSeatState i st).addReason .seatFault).raise (.seat i st)
      | _ => (s.setSeatState i st).raise (.seat i st) := rfl
  rw [run]
  by_cases hn : st.code = (s.seat i).state.code
  · exact .inl ⟨hn, if_pos (decide_eq_true hn)⟩
  · rw [if_neg (by simpa [SeatState.sameName] using hn)]
    cases hst : st <;> simp_all

/-- The restraint monitor after the sample of seat `i`: that seat sampled, nothing else changed. -/
theorem State.sampleSeat_rsm (i : Nat) (r : SeatReading) (s : State) :
    (s.sampleSeat i r).rsm = { s.rsm with seats := s.rsm.seats.modify i (·.sampled r) } := by
  have set : (s.setSeatState i ((s.seat i).sampled r).state).rsm =
      { s.rsm with seats := s.rsm.seats.modify i (·.sampled r) } := by
    have modified : s.rsm.seats.modify i (fun t => { t with state := ((s.seat i).sampled r).state }) =
        s.rsm.seats.modify i (·.sampled r) := by
      refine List.ext_getElem? fun j => ?_
      by_cases hj : i = j
      · subst hj
        cases ht : s.rsm.seats[i]? <;> simp [State.seat, Seat.sampled, ht]
      · simp [hj]
    exact congrArg (fun l => ({ s.rsm with seats := l } : Rsm)) modified
  obtain ⟨-, e⟩ | ⟨-, -, e⟩ | ⟨-, -, e⟩ := s.sampleSeat_cases i r
  all_goals rw [e]
  · exact set
  · rwa [State.raise_rsm]
  · rwa [State.raise_rsm, State.addReason_rsm]

theorem State.seat_sampleSeat_self {s : State} {i : Nat} (r : SeatReading) (h : i < s.rsm.seats.length) :
    (s.sampleSeat i r).seat i = (s.seat i).sampled r := by
  simp [State.seat, State.sampleSeat_rsm, h]

theorem State.seat_sampleSeat_of_ne {s : State} {i j : Nat} (r : SeatReading) (h : j ≠ i) :
    (s.sampleSeat i r).seat j = s.seat j := by
  simp [State.seat, State.sampleSeat_rsm, h.symm]

/-- A seat that enters FAULT adds SEAT_FAULT (03 R48). -/
theorem State.sampleSeat_seatFault {s : State} {i : Nat} {r : SeatReading} {f : FaultReason}
    (hf : ((s.seat i).sampled r).state = .fault f) (hne : (s.seat i).state ≠ .fault f) :
    .seatFault ∈ (s.sampleSeat i r).msv.reasons := by
  have renamed := SeatState.code_ne_of_entersFault hf hne
  obtain ⟨h, -⟩ | ⟨-, h, -⟩ | ⟨-, -, e⟩ := s.sampleSeat_cases i r
  · exact absurd h renamed
  · exact absurd hf (h f)
  · simp [e]

/-- A seat that does not enter FAULT changes the seats and the notices only. -/
theorem State.sampleSeat_sameBut_of_noFault {s : State} {i : Nat} {r : SeatReading}
    (h : ∀ f, ((s.seat i).sampled r).state = .fault f → (s.seat i).state = .fault f) :
    SameBut [.rsm, .ntu] s (s.sampleSeat i r) := by
  have set := s.setSeatState_sameBut i ((s.seat i).sampled r).state
  obtain ⟨-, e⟩ | ⟨-, -, e⟩ | ⟨hn, ⟨f, hf⟩, -⟩ := s.sampleSeat_cases i r
  · rw [e]
    exact set.mono
  · rw [e]
    exact set.andThen (State.raise_sameBut _ _)
  · exact absurd (by rw [hf, h f hf]) hn

theorem State.sampleSeat_raisesOnly (i : Nat) (r : SeatReading) (s : State) :
    RaisesOnly [1, 2, 3, 7] s (s.sampleSeat i r) := by
  have set (st : SeatState) : RaisesOnly [1, 2, 3, 7] s (s.setSeatState i st) := .of_ntu rfl
  obtain ⟨-, e⟩ | ⟨-, -, e⟩ | ⟨-, -, e⟩ := s.sampleSeat_cases i r
  · exact e ▸ set _
  · exact e ▸ (set _).trans (State.raise_raisesOnly _ _)
  · exact e ▸ ((set _).trans (State.addReason_raisesOnly _ _).mono).trans (State.raise_raisesOnly _ _)

/-- The source of the SEAT notices records a change of the seat's state by name, and nothing else (03 R49). -/
theorem State.sampleSeat_source {s : State} (h : s.ntu.sources.length = 12) (i : Nat) (r : SeatReading) :
    (s.sampleSeat i r).source 2 =
      if ((s.seat i).sampled r).state.code ≠ (s.seat i).state.code then
        Source.record (.seat i ((s.seat i).sampled r).state) (s.source 2)
      else s.source 2 := by
  have reason := State.addReason_raisesOnly .seatFault (s.setSeatState i ((s.seat i).sampled r).state)
  obtain ⟨hn, e⟩ | ⟨hn, -, e⟩ | ⟨hn, -, e⟩ := s.sampleSeat_cases i r
  · rw [e, if_neg (not_not_intro hn)]
    rfl
  · rw [e, if_pos hn]
    exact State.source_raise (.seat i _) h
  · rw [e, if_pos hn]
    exact reason.source_raise (.seat i _) h

/-! ### SEAT_FAULT (03 R48) -/

/-- Stop reasons stay, and SEAT_FAULT, where it is new, has taken a vehicle outside PARKED to E_STOP. -/
structure State.FaultStops (s t : State) : Prop where
  carries : s.Carries t
  stops : .seatFault ∉ s.msv.reasons → .seatFault ∈ t.msv.reasons → s.msv.motion ≠ .parked → t.msv.motion = .eStop

namespace State.FaultStops

variable {s t u : State}

theorem of_msv (h : t.msv = s.msv) : s.FaultStops t := ⟨.of_eq (by rw [h]) (by rw [h]), fun hn hy => absurd (h ▸ hy) hn⟩

theorem trans (h : s.FaultStops t) (h' : t.FaultStops u) : s.FaultStops u := by
  refine ⟨h.carries.trans h'.carries, fun hnew hin hm => ?_⟩
  by_cases ht : .seatFault ∈ t.msv.reasons
  · exact h'.carries.eStop (h.stops hnew ht hm)
  · exact h'.stops ht hin (h.carries.unparked hm)

end State.FaultStops

theorem State.sampleSeat_faultStops (i : Nat) (r : SeatReading) (s : State) : s.FaultStops (s.sampleSeat i r) := by
  have set : s.FaultStops (s.setSeatState i ((s.seat i).sampled r).state) := .of_msv rfl
  have fault (t : State) : t.FaultStops (t.addReason .seatFault) :=
    ⟨t.addReason_carries _, fun hnew _ hm => State.addReason_motion_of_isE rfl hnew hm⟩
  obtain ⟨-, e⟩ | ⟨-, -, e⟩ | ⟨-, -, e⟩ := s.sampleSeat_cases i r
  · exact e ▸ set
  · rw [e]
    exact set.trans (.of_msv rfl)
  · rw [e]
    exact (set.trans (fault _)).trans (.of_msv rfl)

/-! ### The samples of the seats in a row -/

/-- What the sample of each seat does, the samples of all do. -/
theorem State.sampleSeats_lift {p : State → State → Prop} (refl : ∀ s, p s s) (trans : ∀ {s t u}, p s t → p t u → p s u)
    (each : ∀ i r s, p s (s.sampleSeat i r)) (i : Nat) (rs : List SeatReading) (s : State) :
    p s (State.sampleSeats i rs s) := by
  induction rs generalizing i s with
  | nil => exact refl _
  | cons r rs ih => exact trans (each i r s) (ih (i + 1) _)

/-- The hold, the permit, the levels found and the number of seats stay. -/
theorem State.sampleSeats_rsm (i : Nat) (rs : List SeatReading) (s : State) :
    (State.sampleSeats i rs s).rsm.hold = s.rsm.hold ∧ (State.sampleSeats i rs s).rsm.permit = s.rsm.permit ∧
      (State.sampleSeats i rs s).rsm.seats.length = s.rsm.seats.length :=
  State.sampleSeats_lift
    (p := fun s t => t.rsm.hold = s.rsm.hold ∧ t.rsm.permit = s.rsm.permit ∧ t.rsm.seats.length = s.rsm.seats.length)
    (fun _ => ⟨rfl, rfl, rfl⟩)
    (fun ⟨hold, permit, length⟩ ⟨hold', permit', length'⟩ =>
      ⟨hold'.trans hold, permit'.trans permit, length'.trans length⟩)
    (fun i r s => by simp [s.sampleSeat_rsm i r]) i rs s

theorem State.sampleSeats_raisesOnly (i : Nat) (rs : List SeatReading) (s : State) :
    RaisesOnly [1, 2, 3, 7] s (State.sampleSeats i rs s) :=
  State.sampleSeats_lift (.refl _) .trans State.sampleSeat_raisesOnly i rs s

theorem State.sampleSeats_faultStops (i : Nat) (rs : List SeatReading) (s : State) :
    s.FaultStops (State.sampleSeats i rs s) :=
  State.sampleSeats_lift (fun _ => .of_msv rfl) .trans State.sampleSeat_faultStops i rs s

/-- A seat below the first one sampled is not touched. -/
theorem State.seat_sampleSeats_of_lt {i j : Nat} (h : j < i) (rs : List SeatReading) (s : State) :
    (State.sampleSeats i rs s).seat j = s.seat j := by
  induction rs generalizing i s with
  | nil => rfl
  | cons r rs ih => exact (ih (by omega) _).trans (State.seat_sampleSeat_of_ne r (by omega))

/-- The seat that the `k`-th reading is of. -/
theorem State.seat_sampleSeats {i k : Nat} {r : SeatReading} {rs : List SeatReading} {s : State} (hr : rs[k]? = some r)
    (h : i + k < s.rsm.seats.length) : (State.sampleSeats i rs s).seat (i + k) = (s.seat (i + k)).sampled r := by
  induction rs generalizing i k s with
  | nil => simp at hr
  | cons r' rs ih =>
    cases k with
    | zero =>
      obtain rfl : r' = r := by simpa using hr
      exact (State.seat_sampleSeats_of_lt (Nat.lt_succ_self i) rs _).trans (State.seat_sampleSeat_self r' h)
    | succ k =>
      have hk : i + (k + 1) = i + 1 + k := by omega
      rw [hk] at h ⊢
      refine (ih (by simpa using hr) (by simpa [State.sampleSeat_rsm] using h)).trans ?_
      rw [State.seat_sampleSeat_of_ne r' (by omega)]

/-- A seat that enters FAULT among those sampled. -/
theorem State.sampleSeats_seatFault {i k : Nat} {r : SeatReading} {rs : List SeatReading} {s : State} {f : FaultReason}
    (hr : rs[k]? = some r) (hf : ((s.seat (i + k)).sampled r).state = .fault f) (hne : (s.seat (i + k)).state ≠ .fault f) :
    .seatFault ∈ (State.sampleSeats i rs s).msv.reasons := by
  induction rs generalizing i k s with
  | nil => simp at hr
  | cons r' rs ih =>
    cases k with
    | zero =>
      obtain rfl : r' = r := by simpa using hr
      exact (State.sampleSeats_faultStops (i + 1) rs _).carries.reasons _ (State.sampleSeat_seatFault hf hne) (by decide)
    | succ k =>
      have hk : i + (k + 1) = i + 1 + k := by omega
      have untouched : (s.sampleSeat i r').seat (i + 1 + k) = s.seat (i + 1 + k) :=
        State.seat_sampleSeat_of_ne r' (by omega)
      rw [hk, ← untouched] at hf hne
      exact ih (by simpa using hr) hf hne

/-- No seat entering FAULT, only the seats and the notices change. -/
theorem State.sampleSeats_sameBut_of_noFault {i : Nat} {rs : List SeatReading} {s : State}
    (h : ∀ k r f, rs[k]? = some r → ((s.seat (i + k)).sampled r).state = .fault f → (s.seat (i + k)).state = .fault f) :
    SameBut [.rsm, .ntu] s (State.sampleSeats i rs s) := by
  induction rs generalizing i s with
  | nil => exact .refl _ _
  | cons r' rs ih =>
    refine (State.sampleSeat_sameBut_of_noFault (i := i) fun f => h 0 r' f rfl).trans (ih fun k r f hr => ?_)
    rw [State.seat_sampleSeat_of_ne r' (show i + 1 + k ≠ i by omega), show i + 1 + k = i + (k + 1) by omega]
    exact h (k + 1) r f hr

/-- The SEAT notices of a sample: one for each seat whose state has another name, in ascending index (03 R49). -/
theorem State.sampleSeats_source {i : Nat} {rs : List SeatReading} {s t : State} (ht : State.sampleSeats i rs s = t)
    (hs : s.ntu.sources.length = 12) (h : i + rs.length ≤ s.rsm.seats.length) :
    t.source 2 = ((List.range' i rs.length).filter (fun j => (t.seat j).state.code ≠ (s.seat j).state.code)).foldl
      (fun src j => Source.record (.seat j (t.seat j).state) src) (s.source 2) := by
  induction rs generalizing i s with
  | nil => rw [← ht]; rfl
  | cons r rs ih =>
    have inTable : i < s.rsm.seats.length := by simp only [List.length_cons] at h; omega
    have first : t.seat i = (s.seat i).sampled r := by
      rw [← ht, ← State.seat_sampleSeat_self r inTable]
      exact State.seat_sampleSeats_of_lt (Nat.lt_succ_self i) rs _
    have rest := ih ht ((s.sampleSeat_raisesOnly i r).length.trans hs)
      (by simp only [State.sampleSeat_rsm, List.length_modify, List.length_cons] at h ⊢; omega)
    have later : ∀ j ∈ List.range' (i + 1) rs.length,
        decide ((t.seat j).state.code ≠ ((s.sampleSeat i r).seat j).state.code) =
          decide ((t.seat j).state.code ≠ (s.seat j).state.code) := fun j hj => by
      rw [State.seat_sampleSeat_of_ne r (by simp only [List.mem_range'_1] at hj; omega)]
    rw [rest, List.filter_congr later, State.sampleSeat_source hs, ← first, List.length_cons, List.range'_succ,
      List.filter_cons]
    by_cases hn : (t.seat i).state.code = (s.seat i).state.code <;> simp [hn]

end Sys2Proof.Machine
end

section
/-! PROOFS. The seat sample, the contact hold and the release events (03 R43 to R57). -/

namespace Sys2Proof.Machine

/-! ### Release (03 R54, R57) -/

/-- A release moves the enabled seats of its mask to RELEASING for the release pulse, and no other (03 R54). -/
theorem State.seat_releaseSeats {s : State} {i : Nat} (mask : Nat) (h : i < s.rsm.seats.length) :
    (s.releaseSeats mask).seat i = if mask.testBit i = true ∧ (s.seat i).enabled = true then
      { s.seat i with state := .releasing (s.now + s.settings.releasePulse * 1000) } else s.seat i := by
  simp [State.seat, State.releaseSeats, h, names, State.after, Config.usPerMs]

theorem raiseEach_rsm {α : Type} (f : α → Notice) (l : List α) (s : State) :
    (l.foldl (fun u i => u.raise (f i)) s).rsm = s.rsm := (raiseEach_sameBut f l s).same .rsm

/-- A release that fires moves its seats and spends the permit (03 R54). -/
theorem State.fireRelease_rsm (mask : Nat) (s : State) :
    (s.fireRelease mask).rsm = { (s.releaseSeats mask).rsm with permit := none } := by
  unfold State.fireRelease
  rw [State.raise_rsm, raiseEach_rsm]
  rfl

theorem raiseEach_raisesOnly {α : Type} {ns : List Nat} (f : α → Notice) (h : ∀ a, (f a).source ∈ ns) (l : List α)
    (s : State) : RaisesOnly ns s (l.foldl (fun u i => u.raise (f i)) s) := by
  induction l generalizing s with
  | nil => exact .refl _ _
  | cons a l ih => exact (State.raise_raisesOnly _ s (h a)).trans (ih _)

/-- A release that fires reports its seats, then RELEASE DONE (03 R54 step 5). -/
theorem State.fireRelease_raises (mask : Nat) (s : State) :
    ∃ t, RaisesOnly [2] s t ∧ s.fireRelease mask = t.raise (.release .done) := by
  have spent : RaisesOnly [2] s ((s.releaseSeats mask).setRsm { (s.releaseSeats mask).rsm with permit := none }) :=
    .of_ntu rfl
  have notices (st : Nat → SeatState) := raiseEach_raisesOnly (ns := [2]) (fun i => .seat i (st i))
    (fun _ => List.mem_singleton_self 2) (s.newlyReleased mask)
  exact ⟨_, spent.trans (notices _ _), rfl⟩

/-! ### The contact hold (03 R52, R53) -/

theorem State.holdDue_iff (since : Nat) (s : State) : s.holdDue since = true ↔ since + 2000000 ≤ s.now :=
  decide_eq_true_iff

/-- The decision at the completion of a hold: the permit fires in STOPPED or E_STOP at a station, else the release is denied. -/
theorem State.completeHold_fires {s : State} {p : Permit} (hp : s.rsm.permit = some p)
    (hm : s.msv.motion = .stopped ∨ s.msv.motion = .eStop) (hst : s.atStation = true) :
    s.completeHold = (s.setRsm { s.rsm with hold := .held }).fireRelease p.mask := by
  have decided : ((s.setRsm { s.rsm with hold := .held }).msv.motion = .stopped ∨
      (s.setRsm { s.rsm with hold := .held }).msv.motion = .eStop) ∧
      (s.setRsm { s.rsm with hold := .held }).atStation = true := ⟨hm, hst⟩
  simp only [State.completeHold, State.setRsm_rsm, hp]
  exact if_pos decided

theorem State.completeHold_denied {s : State}
    (h : s.rsm.permit = none ∨ ¬(s.msv.motion = .stopped ∨ s.msv.motion = .eStop) ∨ s.atStation = false) :
    s.completeHold = (s.setRsm { s.rsm with hold := .held }).raise (.release .denied) := by
  cases hp : s.rsm.permit with
  | none => simp only [State.completeHold, State.setRsm_rsm, hp]
  | some p =>
    simp only [State.completeHold, State.setRsm_rsm, hp]
    refine if_neg fun ⟨hm, hst⟩ => ?_
    obtain hnone | hmotion | hstation := h
    · rw [hp] at hnone
      cases hnone
    · exact hmotion hm
    · exact absurd (hstation.symm.trans hst) (by decide)

/-- The two outcomes of a completed hold: the release denied, or a permit spent on a release. -/
theorem State.completeHold_cases (s : State) :
    s.completeHold = (s.setRsm { s.rsm with hold := .held }).raise (.release .denied) ∨
    ∃ p, s.rsm.permit = some p ∧ s.completeHold = (s.setRsm { s.rsm with hold := .held }).fireRelease p.mask := by
  by_cases h : s.rsm.permit = none ∨ ¬(s.msv.motion = .stopped ∨ s.msv.motion = .eStop) ∨ s.atStation = false
  · exact .inl (State.completeHold_denied h)
  · push Not at h
    obtain ⟨permitted, hm, hst⟩ := h
    obtain ⟨p, hp⟩ := Option.ne_none_iff_exists'.1 permitted
    exact .inr ⟨p, hp, State.completeHold_fires hp hm (Bool.ne_false_iff.1 hst)⟩

/-- A completed hold is HELD, whatever was decided. -/
theorem State.completeHold_hold (s : State) : s.completeHold.rsm.hold = .held := by
  obtain e | ⟨p, -, e⟩ := s.completeHold_cases
  · rw [e]
    rfl
  · rw [e, State.fireRelease_rsm]
    rfl

/-- A completed hold moves no seat, or those that its permit releases. -/
theorem State.completeHold_seats (s : State) : s.completeHold.rsm.seats = s.rsm.seats ∨
    ∃ p, s.rsm.permit = some p ∧ s.completeHold.rsm.seats = (s.releaseSeats p.mask).rsm.seats := by
  obtain e | ⟨p, hp, e⟩ := s.completeHold_cases
  · exact .inl (by rw [e]; rfl)
  · exact .inr ⟨p, hp, by rw [e, State.fireRelease_rsm]; rfl⟩

theorem State.updateHold_idle {s : State} (h : s.rsm.hold = .idle) :
    s.updateHold true = s.setRsm { s.rsm with hold := .timing s.now } := by simp [State.updateHold, h]

theorem State.updateHold_early {s : State} {b : Nat} (h : s.rsm.hold = .timing b) (hb : s.now < b + 2000000) :
    s.updateHold true = s := by
  have early : s.holdDue b = false := by simpa [← Bool.not_eq_true, State.holdDue_iff] using hb
  simp [State.updateHold, h, early]

theorem State.updateHold_due {s : State} {b : Nat} (h : s.rsm.hold = .timing b) (hb : b + 2000000 ≤ s.now) :
    s.updateHold true = s.completeHold := by
  simp [State.updateHold, h, (s.holdDue_iff b).2 hb]

theorem State.updateHold_held {s : State} (h : s.rsm.hold = .held) : s.updateHold true = s := by
  simp [State.updateHold, h]

/-- The contact hold moves a seat only by a release: both contacts closed, a permit standing. -/
theorem State.updateHold_seats (closed : Bool) (s : State) :
    (s.updateHold closed).rsm.seats = s.rsm.seats ∨
    (closed = true ∧ ∃ p, s.rsm.permit = some p ∧ (s.updateHold closed).rsm.seats = (s.releaseSeats p.mask).rsm.seats) := by
  cases closed with
  | false => exact .inl rfl
  | true =>
    cases hh : s.rsm.hold with
    | idle => exact .inl (by rw [State.updateHold_idle hh]; rfl)
    | held => exact .inl (by rw [State.updateHold_held hh])
    | timing b =>
      by_cases hb : b + 2000000 ≤ s.now
      · rw [State.updateHold_due hh hb]
        exact s.completeHold_seats.imp_right fun h => ⟨rfl, h⟩
      · exact .inl (by rw [State.updateHold_early hh (Nat.not_le.1 hb)])

/-- A seat after the contact hold, no release having moved it to RELEASING. -/
theorem State.seat_updateHold {s : State} {closed : Bool} {i : Nat} (hi : i < s.rsm.seats.length)
    (h : closed = false ∨ s.rsm.permit = none ∨ ((s.updateHold closed).seat i).state.energised = false) :
    (s.updateHold closed).seat i = s.seat i := by
  obtain e | ⟨hc, p, hp, e⟩ := s.updateHold_seats closed
  · simp only [State.seat, e]
  · have moved : (s.updateHold closed).seat i = (s.releaseSeats p.mask).seat i := by simp only [State.seat, e]
    have still : ((s.releaseSeats p.mask).seat i).state.energised = false := by
      rw [← moved]
      simpa [hc, hp] using h
    rw [State.seat_releaseSeats _ hi] at moved still
    split at still
    · cases still
    · exact moved.trans (if_neg ‹_›)

/-! ### SEAT_SAMPLE -/

/-- The levels that a seat sample found, kept for the next one (log 3). -/
def State.keepLevels (v : SeatLevels) (s : State) : State := s.setRsm { s.rsm with sampled := v }

theorem State.seat_keepLevels (v : SeatLevels) (s : State) (i : Nat) : (s.keepLevels v).seat i = s.seat i := rfl

theorem State.keepLevels_sameBut (v : SeatLevels) (s : State) : SameBut [.rsm] s (s.keepLevels v) := by
  simp [sameBut_iff, State.keepLevels]

/-- The state in which the contact hold is judged: the levels kept, the seats sampled (03 R43). -/
def State.seated (v : SeatLevels) (s : State) : State := (s.keepLevels v).sampleSeats 0 v.readings

theorem State.takeLevels_eq (v : SeatLevels) (s : State) :
    s.takeLevels v = (s.seated v).updateHold (!v.relaHigh && !v.relbHigh) := rfl

theorem exec_seatSample {s : State} (hr : s.inReset = false) (rs : List SeatReading) (a b : Bool) :
    exec (.seatSample rs a b) s = .next ((s.seated ⟨rs, a, b⟩).updateHold (!a && !b)) :=
  congrArg Host.Outcome.next (event_of_running hr)

theorem State.seated_sameBut (v : SeatLevels) (s : State) :
    SameBut [.rsm, .msv, .cue, .flp, .snd, .ntu, .free] s (s.seated v) :=
  (s.keepLevels_sameBut v).andThen (State.sampleSeats_sameBut _ _ _)

theorem State.seated_rsm (v : SeatLevels) (s : State) : (s.seated v).rsm.hold = s.rsm.hold ∧
    (s.seated v).rsm.permit = s.rsm.permit ∧ (s.seated v).rsm.seats.length = s.rsm.seats.length :=
  State.sampleSeats_rsm 0 v.readings (s.keepLevels v)

theorem State.seat_seated {v : SeatLevels} {s : State} {i : Nat} {r : SeatReading} (hr : v.readings[i]? = some r)
    (hi : i < s.rsm.seats.length) : (s.seated v).seat i = (s.seat i).sampled r := by
  have sampled := State.seat_sampleSeats (i := 0) (s := s.keepLevels v) hr ((Nat.zero_add i).symm ▸ hi)
  rwa [Nat.zero_add, State.seat_keepLevels] at sampled

theorem State.seated_faultStops (v : SeatLevels) (s : State) : s.FaultStops (s.seated v) :=
  .trans (t := s.keepLevels v) (.of_msv rfl) (State.sampleSeats_faultStops _ _ _)

/-- A seat that enters FAULT at the sample adds SEAT_FAULT (03 R48). -/
theorem State.seated_seatFault {v : SeatLevels} {s : State} {i : Nat} {r : SeatReading} {f : FaultReason}
    (hr : v.readings[i]? = some r) (hf : ((s.seat i).sampled r).state = .fault f) (hne : (s.seat i).state ≠ .fault f) :
    .seatFault ∈ (s.seated v).msv.reasons := by
  rw [← s.seat_keepLevels v, ← Nat.zero_add i] at hf hne
  exact State.sampleSeats_seatFault hr hf hne

theorem State.seated_raisesOnly (v : SeatLevels) (s : State) : RaisesOnly [1, 2, 3, 7] s (s.seated v) :=
  .trans (t := s.keepLevels v) (.of_ntu rfl) (State.sampleSeats_raisesOnly _ _ _)

/-- No seat entering FAULT, a sample changes the seats and the notices only. -/
theorem State.seated_sameBut_of_noFault {v : SeatLevels} {s : State}
    (h : ∀ i r f, v.readings[i]? = some r → ((s.seat i).sampled r).state = .fault f → (s.seat i).state = .fault f) :
    SameBut [.rsm, .ntu] s (s.seated v) := by
  refine (s.keepLevels_sameBut v).mono.trans (State.sampleSeats_sameBut_of_noFault fun k r f => ?_)
  rw [Nat.zero_add]
  exact h k r f

/-- The SEAT notices of a sample of the whole table (03 R49). -/
theorem State.seated_source {v : SeatLevels} {s : State} (hs : s.ntu.sources.length = 12)
    (h : v.readings.length = s.rsm.seats.length) :
    (s.seated v).source 2 =
      ((List.range v.readings.length).filter fun i => ((s.seated v).seat i).state.code ≠ (s.seat i).state.code).foldl
        (fun src i => Source.record (.seat i ((s.seated v).seat i).state) src) (s.source 2) := by
  rw [List.range_eq_range']
  exact State.sampleSeats_source (s := s.keepLevels v) rfl hs ((Nat.zero_add _).trans_le h.le)

theorem State.updateHold_msv (closed : Bool) (s : State) : (s.updateHold closed).msv = s.msv :=
  (s.updateHold_sameBut closed).msv

/-- The state machine row by row (03 Table 3-2). -/
theorem SeatState.next_rows (old : SeatState) (kind : ReadingKind) :
    let new := old.next kind
    (old = .unlatched → new = if kind = .good then .latching 1 else .unlatched) ∧
    (∀ n, old = .latching n →
      new = if kind = .good then (if n + 1 < 4 then .latching (n + 1) else .verified) else .unlatched) ∧
    (old = .verified → (kind = .good → new = .verified) ∧ (kind = .disagree → new = .suspect 1 0) ∧
      (kind = .opened → new = .fault .opened)) ∧
    (∀ n m, old = .suspect n m →
      (kind = .good → new = if m + 1 < 2 then .suspect n (m + 1) else .verified) ∧
      (kind = .disagree → new = if n + 1 < 3 then .suspect (n + 1) 0 else .fault .disagree) ∧
      (kind = .opened → new = .fault .opened)) ∧
    (old = .disabled ∨ (∃ f, old = .fault f) ∨ (∃ u, old = .releasing u) → new = old) := by
  intro new
  refine ⟨?_, ?_, ?_, ?_, ?_⟩
  · rintro rfl
    cases kind <;> rfl
  · rintro n rfl
    cases kind <;> rfl
  · rintro rfl
    refine ⟨?_, ?_, ?_⟩ <;> rintro rfl <;> rfl
  · rintro n m rfl
    refine ⟨?_, ?_, ?_⟩ <;> rintro rfl <;> rfl
  · rintro (rfl | ⟨f, rfl⟩ | ⟨u, rfl⟩) <;> rfl

/-- Settles O28: the seat takes the next state of its machine, and only a release can move it on. -/
theorem verifiedSeatReadings : Obligations.VerifiedSeatReadings := by
  intro s rs a b i r hr hlen hrs hi hread hv
  refine ⟨_, exec_seatSample hr rs a b, fun hcalm => ?_, fun hopen => ?_⟩
  · obtain ⟨-, permit, length⟩ := s.seated_rsm ⟨rs, a, b⟩
    have inTable : i < (s.seated ⟨rs, a, b⟩).rsm.seats.length := by omega
    have seat : ((s.seated ⟨rs, a, b⟩).updateHold (!a && !b)).seat i = (s.seat i).sampled r := by
      rw [State.seat_updateHold inTable, State.seat_seated hread (hlen ▸ hi)]
      obtain (rfl | rfl | hp) | hq := hcalm
      · exact .inl rfl
      · exact .inl (Bool.and_false _)
      · exact .inr (.inl (permit.trans hp))
      · exact .inr (.inr hq)
    rw [seat, Seat.sampled_state, hv]
    obtain ⟨-, -, verified, -, -⟩ := SeatState.next_rows .verified ((s.seat i).classify r)
    exact verified rfl
  · have fault : ((s.seat i).sampled r).state = .fault .opened := by
      rw [Seat.sampled_state, hv, hopen]
      rfl
    have joined : .seatFault ∈ (s.seated ⟨rs, a, b⟩).msv.reasons :=
      State.seated_seatFault hread fault (by simp [hv])
    rw [State.updateHold_msv]
    exact ⟨joined, fun hnew => (s.seated_faultStops _).stops hnew joined⟩

/-- Settles O29: each seat's state by the rows of its machine, and its notices and faults by the laws of a sample. -/
theorem seatSampleRunsSeats : Obligations.SeatSampleRunsSeats := by
  intro s rs a b hr hlen hrs hopen
  have contacts : (!a && !b) = false := by rcases hopen with rfl | rfl <;> simp
  have run : exec (.seatSample rs a b) s = .next ((s.seated ⟨rs, a, b⟩).updateHold false) := by
    rw [exec_seatSample hr, contacts]
  obtain ⟨-, permit, length⟩ := s.seated_rsm ⟨rs, a, b⟩
  have seat (i : Nat) (r : SeatReading) (hread : rs[i]? = some r) :
      ((s.seated ⟨rs, a, b⟩).updateHold false).seat i = (s.seat i).sampled r :=
    State.seat_seated (v := ⟨rs, a, b⟩) hread (by
      obtain ⟨hi, -⟩ := List.getElem?_eq_some_iff.1 hread
      omega)
  refine ⟨_, run, ?_, rfl, permit, length.trans hlen, fun i r hread => ⟨seat i r hread, ?_⟩, fun hs => ?_, ?_, fun h => ?_⟩
  · exact (s.seated_sameBut _).andThen (State.updateHold_sameBut _ _)
  · rw [seat i r hread]
    exact SeatState.next_rows _ _
  · have notices := State.seated_source (v := ⟨rs, a, b⟩) hs (hrs.trans hlen.symm)
    rw [hrs] at notices
    exact notices
  · rintro ⟨i, f, hf, hne⟩
    have hi : i < rs.length := by
      by_contra hi
      have beyond : ((s.seated ⟨rs, a, b⟩).updateHold false).rsm.seats.length ≤ i :=
        (length.trans (hlen.trans hrs.symm)).trans_le (Nat.not_lt.1 hi)
      rw [State.seat_of_le beyond] at hf
      cases hf
    have hread : rs[i]? = some rs[i] := List.getElem?_eq_getElem hi
    rw [seat i _ hread] at hf
    have joined : .seatFault ∈ (s.seated ⟨rs, a, b⟩).msv.reasons := State.seated_seatFault hread hf hne
    exact ⟨joined, fun hnew => (s.seated_faultStops _).stops hnew joined⟩
  · have calm : SameBut [.rsm, .ntu] s (s.seated ⟨rs, a, b⟩) :=
      State.seated_sameBut_of_noFault fun i r f hread hf => h i f ((seat i r hread).symm ▸ hf)
    exact calm.trans (State.updateHold_sameBut _ _)

/-- Settles O30, by the phases of the hold. -/
theorem contactHold : Obligations.ContactHold := by
  intro s rs hr
  obtain ⟨hold, permit, -⟩ := s.seated_rsm ⟨rs, false, false⟩
  have now : (s.seated ⟨rs, false, false⟩).now = s.now := (s.seated_sameBut _).1
  refine ⟨_, exec_seatSample hr rs false false, fun h => ?_, fun b h hb => ?_, fun b h hb => ?_, fun h => ?_⟩
  all_goals
    rw [← hold] at h
    simp only [Bool.not_false, Bool.and_self]
  · rw [State.updateHold_idle h, State.setRsm_rsm, now]
  · rw [State.updateHold_early h (now ▸ hb), h]
  · rw [State.updateHold_due h (now ▸ hb)]
    refine ⟨State.completeHold_hold _, fun hp => ?_⟩
    rw [← permit] at hp
    rw [State.completeHold_denied (.inl hp)]
    exact ⟨hp, fun hs =>
      RaisesOnly.source_raise ((s.seated_raisesOnly _).trans (.of_ntu rfl)) (.release .denied) hs⟩
  · rw [State.updateHold_held h, h]

/-! ### The release events -/

/-- HOLD_COMPLETE, when due, is the seat sample that finds the levels of the one before it (log 3). -/
theorem holdComplete_due {s : State} {b : Nat} (h : s.rsm.hold = .timing b) (hb : b + 2000000 ≤ s.now) :
    holdComplete s = s.takeLevels s.rsm.sampled := by
  simp [holdComplete, h, (s.holdDue_iff b).2 hb]

theorem permitExpiry_due {s : State} {p : Permit} (h : s.rsm.permit = some p) (hp : p.expiry ≤ s.now) :
    permitExpiry s = (s.setRsm { s.rsm with permit := none }).raise (.release .expired) := by
  simp [permitExpiry, h, hp]

theorem releasePulseEnd_due {s : State} {i u : Nat} (h : (s.seat i).state = .releasing u) (hu : u ≤ s.now) :
    releasePulseEnd i s = (s.setSeatState i .unlatched).raise (.seat i .unlatched) := by
  simp [releasePulseEnd, h, hu]

theorem State.solenoid_of_unlatched {s : State} {i : Nat} (h : (s.seat i).state = .unlatched) : s.solenoid i = false := by
  have state : (s.rsm.seats.getD i Seat.reset).state = .unlatched := h
  simp only [State.solenoid, state]

/-- Settles O31: HOLD_COMPLETE by the decision of a completed hold, the other two by their own meanings. -/
theorem releaseEvents : Obligations.ReleaseEvents := by
  intro s hr
  refine ⟨fun b h hb => ?_, fun p hp hdue => ?_, fun i e he hdue => ?_⟩
  · -- The state holds the levels `v` already, so `u` is `s.seated v`.
    intro v u
    have run : exec .holdComplete s = .next (s.takeLevels v) :=
      congrArg Host.Outcome.next ((event_of_running hr).trans (holdComplete_due h hb))
    refine ⟨run.trans (congrArg Host.Outcome.next (event_of_running (f := seatSample _ _ _) hr)).symm, fun ha hb' => ?_⟩
    obtain ⟨hold, permit, -⟩ := s.seated_rsm v
    have frame : SameBut [.rsm, .msv, .cue, .flp, .snd, .ntu, .free] s u := s.seated_sameBut v
    have station : u.atStation = s.atStation := by simp only [State.atStation, State.activeSegment, frame.pos]
    have raises : RaisesOnly [1, 2, 3, 7] s u := s.seated_raisesOnly v
    have completed : exec .holdComplete s = .next u.completeHold := by
      rw [run, State.takeLevels_eq, ha, hb']
      exact congrArg Host.Outcome.next (State.updateHold_due (hold.trans h) (frame.1.symm ▸ hb))
    refine ⟨fun p hp hm hst => ?_, fun hdeny => ?_⟩
    · have fired := State.completeHold_fires (s := u) (permit.trans hp) hm (station.trans hst)
      have rsm := State.fireRelease_rsm p.mask (u.setRsm { u.rsm with hold := .held })
      refine ⟨_, completed, u.completeHold_sameBut, ?_, u.completeHold_hold, fun i hi => ?_, fun hs => ?_⟩
      all_goals rw [fired]
      · rw [rsm]
      · have seat := State.seat_releaseSeats (s := u.setRsm { u.rsm with hold := .held }) p.mask hi
        rw [← frame.1, ← frame.settings]
        simp only [State.seat, rsm] at seat ⊢
        exact seat
      · obtain ⟨w, seatNotices, e⟩ := State.fireRelease_raises p.mask (u.setRsm { u.rsm with hold := .held })
        rw [e]
        have held : RaisesOnly [1, 2, 3, 7] u (u.setRsm { u.rsm with hold := .held }) := .of_ntu rfl
        have before : RaisesOnly [1, 2, 3, 7] s w := (raises.trans held).trans seatNotices.mono
        exact before.source_raise (.release .done) hs
    · rw [completed]
      refine congrArg Host.Outcome.next (State.completeHold_denied ?_)
      rwa [station, show u.rsm.permit = s.rsm.permit from permit]
  · exact congrArg Host.Outcome.next ((event_of_running hr).trans (permitExpiry_due hp hdue))
  · have run : exec (.releasePulseEnd i) s = .next ((s.setSeatState i .unlatched).raise (.seat i .unlatched)) :=
      congrArg Host.Outcome.next ((event_of_running hr).trans (releasePulseEnd_due he hdue))
    have seat : ((s.setSeatState i .unlatched).raise (.seat i .unlatched)).seat i = { s.seat i with state := .unlatched } :=
      State.seat_setSeatState_self _ (State.lt_length_of_releasing he)
    refine ⟨_, run, (s.setSeatState_sameBut _ _).andThen (State.raise_sameBut _ _), seat, ?_, fun j hj => ?_, rfl, rfl, rfl⟩
    · exact State.solenoid_of_unlatched (by rw [seat])
    · exact State.seat_setSeatState_of_ne _ hj

end Sys2Proof.Machine
end

section
/-! PROOFS. The requests on SEAT and the two forms of RELEASE (03 R40, R41, R51, R58, R59). -/

namespace Sys2Proof.Machine

/-! ### SEAT (03 R40, R41, R51) -/

theorem State.atRest_iff (s : State) : s.atRest = true ↔ s.msv.motion = .parked ∨ s.msv.motion = .stopped := by
  simp [State.atRest]

/-- A seat neither in FAULT nor RELEASING may be edited (03 R40 checks 4 and 5). -/
theorem SeatState.editBar_eq_none {st : SeatState} (hf : ∀ f, st ≠ .fault f) (he : st.energised = false) :
    st.editBar = none := by
  cases st with
  | fault f => exact absurd rfl (hf f)
  | releasing u => cases he
  | _ => rfl

@[simp] theorem SeatWire.toWire_seat (w : SeatWire) (st : SeatState) : (w.seat st).toWire = w := rfl

/-- A seat request that edits one seat: its answer, the seat edited, the others and the permit and the hold as they were. -/
theorem seat_edit_answers {s u : State} {kind key : Nat} {act : State → Answer} {t : Seat} {p : List Byte}
    (hl : s.listening) (hk : key ≤ 7) (hlen : s.rsm.seats.length = 8) (hu : u = s.hearFrame.setSeat key t)
    (ha : act s.hearFrame = ok u p) :
    ∃ v, Host.Outcome.next (request kind key act s) = (.next v : Result) ∧ Answers s v [.rsm] .ok kind key false false p ∧
      v.seat key = t ∧ (∀ j, j ≠ key → v.seat j = s.seat j) ∧ v.rsm.permit = s.rsm.permit ∧ v.rsm.hold = s.rsm.hold := by
  have frame : SameBut [.rsm] s.hearFrame u := by simp [hu, sameBut_iff, State.setSeat]
  have rsm : (request kind key act s).rsm = (s.hearFrame.setSeat key t).rsm := by
    rw [request_take hl.1 hl.2 ha, State.respond_rsm, hu]
  have seat (j : Nat) : (request kind key act s).seat j = (s.hearFrame.setSeat key t).seat j := by
    simp only [State.seat, rsm]
  refine ⟨_, rfl, request_answers_calm hl ha frame, ?_, fun j hj => ?_, ?_, ?_⟩
  · rw [seat]
    exact State.seat_setSeat_self t (show key < s.rsm.seats.length by omega)
  · rw [seat]
    exact State.seat_setSeat_of_ne t hj
  · rw [rsm]
    rfl
  · rw [rsm]
    rfl

theorem putSeat_taken {s : State} {key : Nat} {w : SeatWire} (hm : s.atRest = true) (hk : key ≤ 7) (hw : w.valid = true)
    (hbar : (s.seat key).state.editBar = none) :
    putSeat key w s = s.takeSeat key (w.seat (if w.enabled then .unlatched else .disabled)) := by
  simp [putSeat, hm, Nat.not_lt.2 hk, hw, hbar]

theorem amendSeat_reports {s : State} {key presence : Nat} {w : SeatWire} (hm : s.atRest = true) (hk : key ≤ 7)
    (hbar : (s.seat key).state.editBar = none) (hp : presence % 64 = 0) :
    amendSeat key presence w s = ok s ((s.seat key).bytes s.now) := by
  simp [amendSeat, hm, Nat.not_lt.2 hk, hbar, noPresence, hp]

theorem amendSeat_taken {s : State} {key presence : Nat} {w w' : SeatWire} (hm : s.atRest = true) (hk : key ≤ 7)
    (hbar : (s.seat key).state.editBar = none) (hp : presence % 64 ≠ 0) (hw : w.over presence (s.seat key).toWire = w')
    (hv : w'.valid = true) :
    amendSeat key presence w s =
      s.takeSeat key (w'.seat (amendedSeatState (s.seat key).toWire w' (s.seat key).state)) := by
  simp [amendSeat, hm, Nat.not_lt.2 hk, hbar, noPresence, hp, hw, hv]

theorem seatClear_taken {s : State} {key : Nat} {f : FaultReason} (hm : s.atRest = true) (hk : key ≤ 7)
    (hf : (s.seat key).state = .fault f) : seatClear key s = ok (s.setSeatState key .unlatched) [1] := by
  simp [seatClear, hm, Nat.not_lt.2 hk, hf, SeatState.code, u8]

/-- A seat's state set, as the seat replaced. -/
theorem State.setSeatState_eq_setSeat {s : State} {i : Nat} (st : SeatState) (h : i < s.rsm.seats.length) :
    s.setSeatState i st = s.setSeat i { s.seat i with state := st } := by
  simp [State.setSeatState, State.setSeat, State.seat, List.modify_eq_set_get _ h, h]

/-- The state that a taken AMEND leaves a seat in, by the enabled flags before and after (03 R41). -/
theorem amendedSeatState_cases (o w : SeatWire) (st : SeatState) :
    (w.enabled = false → amendedSeatState o w st = .disabled) ∧
    (o.enabled = false → w.enabled = true → amendedSeatState o w st = .unlatched) ∧
    (w.enabled = true → w = o → amendedSeatState o w st = st) ∧
    (o.enabled = true → w.enabled = true → w ≠ o → amendedSeatState o w st = .unlatched) := by
  refine ⟨fun hw => ?_, fun ho hw => ?_, fun hw e => ?_, fun ho hw hne => ?_⟩
  · simp [amendedSeatState, hw]
  · simp [amendedSeatState, hw, ho]
  · subst e
    rw [amendedSeatState, if_neg (by simp [hw]), if_neg (by simp [hw]), if_pos rfl]
  · have same : ({ w with enabled := o.enabled } : SeatWire) = w := by rw [ho, ← hw]
    rw [amendedSeatState, if_neg (by simp [hw]), if_neg (by simp [ho]), same, if_neg hne]

/-- Settles O38: each request replaces one seat, by the state tables of R40, R41 and R51. -/
theorem seatRequests : Obligations.SeatRequests := by
  intro s key presence w hl hm hk hlen
  have atRest : s.hearFrame.atRest = true := s.hearFrame.atRest_iff.2 hm
  refine ⟨fun hw hf he => ?_, fun hf he => ?_, fun f hf => ?_⟩
  · have taken := putSeat_taken (s := s.hearFrame) atRest hk hw (SeatState.editBar_eq_none hf he)
    obtain ⟨t, run, answers, seat, others⟩ := seat_edit_answers (kind := 0x01) hl hk hlen rfl taken
    exact ⟨t, run, seat.symm ▸ answers, seat, others⟩
  · have free := SeatState.editBar_eq_none hf he
    refine ⟨fun hp => ⟨_, rfl, request_reports hl (amendSeat_reports (s := s.hearFrame) atRest hk free hp)⟩,
      fun hp hw => ?_⟩
    have taken := amendSeat_taken (s := s.hearFrame) atRest hk free hp rfl hw
    obtain ⟨t, run, answers, seat, others⟩ := seat_edit_answers (kind := 0x03) hl hk hlen rfl taken
    obtain ⟨disabled, enabled, kept, changed⟩ :=
      amendedSeatState_cases (s.seat key).toWire (w.over presence (s.seat key).toWire) (s.seat key).state
    refine ⟨t, run, seat.symm ▸ answers, ?_⟩
    rw [seat]
    exact ⟨rfl, disabled, enabled, kept, changed, others⟩
  · have inTable : key < s.rsm.seats.length := by omega
    exact seat_edit_answers (kind := 0x2A) hl hk hlen (State.setSeatState_eq_setSeat .unlatched inTable)
      (seatClear_taken (s := s.hearFrame) atRest hk hf)

/-! ### RELEASE (03 R58, R59) -/

theorem releasePermit_taken {s : State} {mask : Nat} (h1 : 1 ≤ mask) (h255 : mask ≤ 255) (hm : s.msv.motion = .stopped)
    (hst : s.atStation = true) :
    releasePermit mask s = ok (s.setRsm { s.rsm with permit := some ⟨mask, s.after s.settings.permitWindow⟩ })
      (u8 mask ++ u16 s.settings.permitWindow) := by
  have byte : mask % 256 = mask := Nat.mod_eq_of_lt (by omega)
  simp [releasePermit, byte, Nat.one_le_iff_ne_zero.1 h1, hm, hst]

theorem releaseImmediate_taken {s : State} {mask : Nat} (h1 : 1 ≤ mask) (h255 : mask ≤ 255)
    (hm : s.msv.motion = .parked) :
    releaseImmediate mask s = ok (s.releaseSeats mask) (u8 (s.releasedMask mask) ++ u16 0) := by
  have byte : mask % 256 = mask := Nat.mod_eq_of_lt (by omega)
  simp [releaseImmediate, byte, Nat.one_le_iff_ne_zero.1 h1, hm]

/-- Settles O39. -/
theorem releaseRequests : Obligations.ReleaseRequests := by
  intro s key mask hl h1 h255
  refine ⟨fun hm hst => ?_, fun hm => ?_⟩
  · have taken := releasePermit_taken (s := s.hearFrame) h1 h255 hm hst
    refine ⟨_, rfl, request_answers_calm hl taken (by simp [sameBut_iff]), ?_⟩
    rw [request_take hl.1 hl.2 taken]
    rfl
  · have taken := releaseImmediate_taken (s := s.hearFrame) h1 h255 hm
    have rsm : (request 0x29 key (releaseImmediate mask) s).rsm = (s.hearFrame.releaseSeats mask).rsm := by
      rw [request_take hl.1 hl.2 taken, State.respond_rsm]
    refine ⟨_, rfl, request_answers_calm hl taken (by simp [sameBut_iff, State.releaseSeats]), ?_, ?_, fun i hi => ?_⟩
    · rw [rsm]
      rfl
    · rw [rsm]
      rfl
    · have released := State.seat_releaseSeats (s := s.hearFrame) mask hi
      simp only [State.seat, rsm] at released ⊢
      exact released

end Sys2Proof.Machine
end

section
/-! SUPPORT. Relations between the states before and after an operation that hold because they hold across its parts: stop
reasons, a cue's dwell, the position step (01 R14) and GDU's stages (02). -/

namespace Sys2Proof.Machine

/-! ### Operations made of stop reasons -/

/-- A relation that holds where MSV, RSM and the settings stay, and across a reason that joins or leaves the set. -/
structure ReasonClosed (R : State → State → Prop) : Prop where
  trans : ∀ {s t u}, R s t → R t u → R s u
  calm : ∀ {s t}, t.msv = s.msv → t.rsm = s.rsm → t.settings = s.settings → R s t
  join : ∀ s r, R s (s.addReason r)
  leave : ∀ s r, R s (s.removeReason r)

namespace ReasonClosed

variable {R : State → State → Prop} (h : ReasonClosed R)
include h

theorem refl (s : State) : R s s := h.calm rfl rfl rfl

theorem judgeGuide (s : State) : R s s.judgeGuide := by
  have counted : R s s.counted := h.calm rfl rfl rfl
  rw [State.judgeGuide_eq]
  split
  · exact h.trans counted (h.join _ _)
  · exact counted

theorem superviseYaw (encoder : Int) (s : State) : R s (s.superviseYaw encoder) := by
  have followed : R s (s.followed encoder) := h.calm rfl rfl rfl
  obtain ⟨-, e⟩ | ⟨-, -, e⟩ | ⟨-, -, e⟩ := State.superviseYaw_cases encoder s
  · exact e ▸ followed
  · exact e ▸ h.trans followed (h.leave _ _)
  · exact e ▸ h.trans followed (h.join _ _)

/-- GDU's part of a sample is a judgement, commands and a supervision (02 R25 to R36). -/
theorem guide (encoder : Int) (s : State) : R s (s.guide encoder) := by
  have turned : R s.judgeGuide s.turned := by
    rw [State.turned, State.turned_eq]
    exact h.calm rfl rfl rfl
  exact h.trans (h.trans (h.judgeGuide s) turned) (h.superviseYaw encoder _)

theorem overrunCheck (s : State) : R s s.overrunCheck := by
  unfold State.overrunCheck
  split
  · exact h.join s _
  · exact h.refl s

theorem mismatch (a code : Nat) (s : State) : R s (s.mismatch a code) := h.trans (h.join s _) (h.calm rfl rfl rfl)

theorem grantAuthority (u : Authority) (path : List Nat) (s : State) : R s (s.grantAuthority u path) := by
  have checked : R s (s.storeAuthority u path).overrunCheck := h.trans (h.calm (t := s.storeAuthority u path) rfl rfl rfl) (h.overrunCheck _)
  unfold State.grantAuthority
  dsimp only
  split
  · exact h.trans checked (h.calm rfl rfl rfl)
  · exact checked

theorem putAuthority (key : Nat) (w : AuthorityWire) (s : State) : (putAuthority key w s).Leaves (R s) := by
  unfold Machine.putAuthority
  dsimp only
  repeat' split
  all_goals simp [h.grantAuthority]

theorem amendAuthority (key presence : Nat) (w : AuthorityWire) (s : State) :
    (amendAuthority key presence w s).Leaves (R s) := by
  unfold Machine.amendAuthority
  split
  · trivial
  · split
    · split
      · trivial
      · exact h.refl s
    · exact h.putAuthority _ _ s

theorem retireAuthority (key : Nat) (s : State) : (retireAuthority key s).Leaves (R s) := by
  unfold Machine.retireAuthority
  split
  · trivial
  · split
    · trivial
    · exact h.trans (h.calm (t := s.dropAuthority) rfl rfl rfl) (h.overrunCheck _)

end ReasonClosed

/-! ### The position step -/

/-- A relation that holds across each thing a position step is made of: POS's own records, stop reasons, POS's notices and
the cues' evaluation. -/
structure StepClosed (R : State → State → Prop) : Prop where
  trans : ∀ {s t u}, R s t → R t u → R s u
  record : ∀ s p, R s (s.setPos p)
  join : ∀ s r, R s (s.addReason r)
  report : ∀ s n, n.source = 5 → R s (s.raise n)
  evaluate : ∀ s moved, R s (s.evaluate moved)

namespace StepClosed

variable {R : State → State → Prop} (h : StepClosed R)
include h

theorem refl (s : State) : R s s := h.record s s.pos

theorem checkPoint (s : State) : R s s.checkPoint := by
  rw [State.checkPoint_eq]
  split
  · exact h.trans (h.record s _) (h.join _ _)
  · exact h.refl s

theorem missCheck (a : Nat) (g : Segment) (leaving : Bool) (s : State) : R s (s.missCheck a g leaving) := by
  have noted (n : Nat) : R s ((s.setPos (s.pos.noted true)).raise (.missed a n)) :=
    h.trans (h.record s _) (h.report _ _ rfl)
  rw [State.missCheck_eq, State.countedMiss]
  split
  · split
    · exact h.trans (noted _) (h.join _ _)
    · exact noted _
  · exact h.refl s

theorem transition (a : Nat) (g : Segment) (b : Nat) (s : State) : R s (s.transition a g b) :=
  h.trans (h.trans (h.trans (h.record s _) (h.missCheck a g true _)) (h.record _ _)) (h.checkPoint _)

theorem clampEnd (a : Nat) (g : Segment) (s : State) : R s (s.clampEnd a g) :=
  h.trans (h.trans (h.trans (h.record s _) (h.missCheck a g true _)) (h.join _ _)) (h.report _ _ rfl)

theorem advance (fuel : Nat) (moved : Bool) (s : State) : R s (Machine.advance fuel moved s).state := by
  induction fuel generalizing moved s with
  | zero => exact h.refl s
  | succ fuel ih =>
    unfold Machine.advance
    split
    · exact h.refl s
    · split
      · exact h.refl s
      · split
        · exact h.trans (h.transition _ _ _ s) (ih _ _)
        · exact h.clampEnd _ _ s

theorem stepCheck (s : State) : R s s.stepCheck := by
  unfold State.stepCheck
  split
  · exact h.refl s
  · exact h.missCheck _ _ _ s

/-- What holds across every part of a position step holds across the step (01 R14). -/
theorem positionStep (s : State) : R s s.positionStep.1 := by
  unfold State.positionStep
  split
  · exact h.refl s
  · have point : R s s.takeResidue.checkPoint := h.trans (h.record s _) (h.checkPoint _)
    exact h.trans (h.trans (h.trans point (h.advance _ _ _)) (h.stepCheck _)) (h.evaluate _ _)

theorem correct (offset : Nat) (s : State) : R s (s.correct offset) :=
  h.trans (h.trans (h.record s _) (h.checkPoint _)) (h.evaluate _ _)

end StepClosed

/-! ### Operations made of stop reasons and of a cue's dwell -/

/-- A relation that holds across stop reasons and across the dwell that a cue requests (04 R84). -/
structure MotionClosed (R : State → State → Prop) : Prop extends ReasonClosed R where
  dwell : ∀ {s t ms}, s.requestDwell ms = some t → R s t

namespace MotionClosed

variable {R : State → State → Prop} (h : MotionClosed R)
include h

/-- Of a cue's actions only the dwell reaches MSV, and none RSM or the settings. -/
theorem act (s : State) (id level idx : Nat) (a : Action) : R s (s.runAction id level idx a) := by
  cases a with
  | dwell ms =>
    unfold State.runAction State.runDwell
    dsimp only
    cases hd : s.requestDwell ms with
    | none => exact h.calm rfl rfl rfl
    | some t => exact h.dwell hd
  | play c b g l x => exact h.calm (by simp [State.runAction]) (by simp [State.runAction]) (by simp [State.runAction])
  | effect n on off k t => exact h.calm (by simp [State.runAction]) (by simp [State.runAction]) (by simp [State.runAction])
  | beacon c => exact h.calm (by simp [State.runAction]) (by simp [State.runAction]) (by simp [State.runAction])
  | yaw y => exact h.calm (by simp [State.runAction]) (by simp [State.runAction]) (by simp [State.runAction])
  | slow v => exact h.calm rfl rfl rfl

theorem cueClosed : CueClosed R where
  refl := h.refl
  trans := h.trans
  record _ _ := h.calm rfl rfl rfl
  raise _ _ := h.calm rfl rfl rfl
  fade _ _ := h.calm rfl rfl rfl
  act := h.act

theorem stepClosed : StepClosed R where
  trans := h.trans
  record _ _ := h.calm rfl rfl rfl
  join := h.join
  report _ _ _ := h.calm rfl rfl rfl
  evaluate s moved := h.cueClosed.evaluate moved s

theorem markerRead (code : Nat) (s : State) : R s (markerRead code s) := by
  unfold Machine.markerRead
  split
  · exact h.refl s
  · split
    · exact h.refl s
    · split
      · exact h.mismatch _ _ s
      · split
        · exact h.refl s
        · split
          · exact h.stepClosed.correct _ s
          · exact h.mismatch _ _ s

theorem placeAt (k position : Nat) (s : State) : R s (s.placeAt k position) := by
  have stands (p : Pos) : R s (s.setPos p) := h.calm rfl rfl rfl
  have restarts (t : State) (g : Gdu) : R t (t.setGdu g) := h.calm rfl rfl rfl
  exact h.trans (h.trans (h.trans (stands _) (h.leave _ .position)) (restarts _ _)) (h.cueClosed.evaluate true _)

/-- A guidance sample up to its speed stage (01 R14, 02). -/
theorem guided (encoder : Int) (s : State) : R s (s.positionStep.1.guide encoder) :=
  h.trans (h.stepClosed.positionStep s) (h.guide encoder _)

end MotionClosed

end Sys2Proof.Machine
end

section
/-! SUPPORT. The commands whose only effect on MSV is that of a good frame (04 R88). -/

namespace Sys2Proof

/-- The commands that may change MSV otherwise than a good frame does: samples and events that stop or move the vehicle,
resets, and the requests on AUTHORITY, on SETTINGS and of motion. -/
def Instr.drives : Instr → Bool
  | .guidanceSample _ _ | .markerRead _ | .seatSample _ _ _ | .holdComplete | .estopInputCheck _ | .linkExpiry
  | .supplyReading _ | .dwellExpiry | .powerReset _ | .pinReset _ | .resetEnd | .putAuthority _ _
  | .amendAuthority _ _ _ | .retireAuthority _ | .putSettings _ _ | .amendSettings _ _ _ | .enable _ | .park _
  | .place _ _ _ | .start _ | .stop _ | .estop _ | .resume _ | .skipDwell _ | .softReset _ => true
  | _ => false

end Sys2Proof

namespace Sys2Proof.Machine

/-- MSV is as it was, or as a good frame leaves it (04 R88). -/
def State.Hears (s t : State) : Prop := t.msv = s.msv ∨ t.msv = s.hearFrame.msv

theorem request_hears {bs : List Block} {kind key : Nat} {act : State → Answer} (h : ∀ u, (act u).Leaves (SameBut bs u))
    (s : State) (hb : .msv ∉ bs := by decide) : s.Hears (request kind key act s) := by
  obtain ⟨-, e⟩ | ⟨-, -, e⟩ | ⟨-, -, st, p, -, e⟩ | ⟨-, -, t, st, c, p, ha, e⟩ := request_cases s kind key act
  · exact .inl (by rw [e])
  · exact .inl (by rw [e, State.overrunFrame_msv])
  · exact .inr (by rw [e, State.respond_msv])
  · have taken : SameBut bs s.hearFrame t := by simpa [ha] using h s.hearFrame
    exact .inr (by rw [e, State.respond_msv, taken.msv hb])

theorem flashRead_hears (key addr len : Nat) (s : State) : s.Hears (flashRead key addr len s) := by
  unfold flashRead
  dsimp only
  split
  · exact .inl rfl
  · split
    · exact .inl rfl
    · split
      · exact .inr rfl
      · exact .inr rfl

theorem frameCheckFailure_hears (bs : List Byte) (s : State) : s.Hears (frameCheckFailure bs s) := by
  unfold frameCheckFailure State.failFrame
  split
  · exact .inl rfl
  · split
    · exact .inl rfl
    · split
      case h_3 | h_4 | h_5 => exact .inr rfl
      all_goals exact .inl rfl

/-- A command that does not drive leaves MSV as it was, or as a good frame leaves it. -/
theorem exec_hears (c : Instr) (s : State) (hc : c.drives = false) : Result.Leaves s.Hears (exec c s) := by
  have heard {bs : List Block} {kind key : Nat} {act : State → Answer} (h : ∀ u, (act u).Leaves (SameBut bs u))
      (hb : .msv ∉ bs := by decide) : Result.Leaves s.Hears (.next (request kind key act s)) :=
    next_leaves (request_hears h s hb)
  cases c
  case guidanceSample | markerRead | seatSample | holdComplete | estopInputCheck | linkExpiry | supplyReading
    | dwellExpiry | powerReset | pinReset | resetEnd | putAuthority | amendAuthority | retireAuthority | putSettings
    | amendSettings | enable | park | place | start | stop | estop | resume | skipDwell | softReset => cases hc
  case putSegment => exact heard (fun u => putSegment_frame u _ _)
  case amendSegment => exact heard (fun u => amendSegment_frame u _ _ _)
  case retireSegment => exact heard (fun u => retireSegment_frame u _)
  case getSegment => exact heard (fun u => getSegment_frame u _)
  case getAuthority => exact heard (fun u => getAuthority_frame u _)
  case listAuthority => exact heard (fun u => listAuthority_frame u _)
  case putSeat => exact heard (fun u => putSeat_frame u _ _)
  case amendSeat => exact heard (fun u => amendSeat_frame u _ _ _)
  case getSeat => exact heard (fun u => getSeat_frame u _)
  case putCue => exact heard (fun u => putCue_frame u _ _)
  case amendCue => exact heard (fun u => amendCue_frame u _ _ _)
  case retireCue | retireCueForce => exact heard (fun u => retireCue_frame u _ _)
  case getCue => exact heard (fun u => getCue_frame u _)
  case putClip => exact heard (fun u => putClip_frame u _ _)
  case amendClip => exact heard (fun u => amendClip_frame u _ _ _)
  case retireClip => exact heard (fun u => retireClip_frame u _)
  case getClip => exact heard (fun u => getClip_frame u _)
  case putSource => exact heard (fun u => putSource_frame u _ _)
  case amendSource => exact heard (fun u => amendSource_frame u _ _ _)
  case getSource => exact heard (fun u => getSource_frame u _)
  case getSettings => exact heard (fun u => getSettings_frame u _)
  case getVoice => exact heard (fun u => getVoice_frame u _)
  case getLine => exact heard (fun u => getLine_frame u _)
  case listSegment | listSeat | listCue | listClip | listSource | listSettings | listVoice | listLine =>
    exact heard (fun u => ok_frame u _)
  case yaw => exact heard (fun u => hostYaw_frame u _)
  case release => exact heard (fun u => releasePermit_frame u _)
  case releaseImmediate => exact heard (fun u => releaseImmediate_frame u _)
  case seatClear => exact heard (fun u => seatClear_frame u _)
  case rearm => exact heard (fun u => rearmCue_frame u _)
  case rearmAll => exact heard rearmAllCues_frame
  case disarm => exact heard (fun u => disarmCue_frame u _)
  case play => exact heard (fun u => hostPlay_frame u _)
  case hush => exact heard (fun u => hushVoice_frame u _)
  case hushAll => exact heard hushAll_frame
  case master => exact heard (fun u => hostMaster_frame u _)
  case flashRead => exact next_leaves (flashRead_hears _ _ _ s)
  case flashProgram => exact heard (fun u => flashProgram_frame u _ _)
  case flashErase => exact heard (fun u => flashErase_frame u _ _)
  case noticeSetup => exact heard (fun u => noticeSetup_frame u _ _)
  case noticeTake => exact heard noticeTake_frame
  case status => exact heard hostStatus_frame
  case frameCheckFailure bs =>
    obtain ⟨-, e⟩ | ⟨-, e⟩ := event_cases s (frameCheckFailure bs)
    · exact next_leaves (.inl (by rw [e]))
    · exact next_leaves (by rw [e]; exact frameCheckFailure_hears bs s)
  all_goals exact fun t ht => .inl ((exec_sameBut _ s rfl t ht).msv (by simp [Instr.blocks]))

end Sys2Proof.Machine
end

section
/-! SUPPORT. The ramp of the speed stage and the least of the ceiling's terms (04 R78, R80). -/

namespace Sys2Proof.Machine

theorem leastOf_eq_min? (l : List Nat) : leastOf l = l.min? := by
  cases l with
  | nil => rfl
  | cons x xs => exact List.min?_cons'.symm

/-- The least term of a ceiling that has one is a term, and no term is below it. -/
theorem leastOf_getD_spec {l : List Nat} (h : l ≠ []) :
    (leastOf l).getD 0 ∈ l ∧ ∀ x ∈ l, (leastOf l).getD 0 ≤ x := by
  obtain ⟨c, hc⟩ := Option.ne_none_iff_exists'.1 (mt List.min?_eq_none_iff.1 h)
  rw [leastOf_eq_min?, hc]
  exact List.min?_eq_some_iff.1 hc

theorem State.vmax_mem_ceilingTerms (s : State) : s.settings.vmax ∈ s.ceilingTerms := by simp [State.ceilingTerms]

theorem State.vCeil_le_vmax (s : State) : s.vCeil ≤ s.settings.vmax := by
  unfold State.vCeil
  split
  · exact (leastOf_getD_spec (List.ne_nil_of_mem s.vmax_mem_ceilingTerms)).2 _ s.vmax_mem_ceilingTerms
  · exact Nat.zero_le _

/-- MSV after the ramp: only v_cmd has changed (04 R80). -/
@[simp] theorem State.ramp_msv (s : State) : s.ramp.msv =
    { s.msv with vCmd := if s.msv.motion.moving then rampTo s.settings s.msv.vCmd s.vCeil else 0 } := rfl

theorem State.ramp_sameBut (s : State) : SameBut [.msv] s s.ramp := by simp [sameBut_iff, State.ramp]

variable (t : Settings) (v c : Nat)

theorem rampTo_le_max : rampTo t v c ≤ max v c := by
  unfold rampTo
  split <;> omega

theorem rampTo_le_add : rampTo t v c ≤ v + t.stepUp := by
  unfold rampTo
  split <;> omega

theorem sub_le_rampTo : v - t.stepDown ≤ rampTo t v c := by
  unfold rampTo
  split <;> omega

/-- Toward 0 the ramp takes off one step down (04 R80). -/
theorem rampTo_zero : rampTo t v 0 = v - t.stepDown := by
  unfold rampTo
  split <;> omega

end Sys2Proof.Machine
end

section
/-! PROOFS. The motion and restraint rules (03 R40, R48, R56, R58, 04 R63, R66, R81, R84): what each operation does to them, and
that every step keeps them. -/

namespace Sys2Proof.Machine

/-! ### The invariant, on MSV and on RSM -/

/-- MSV's part of the invariant, under the settings' vmax. -/
structure Msv.Orderly (vmax : Nat) (m : Msv) : Prop where
  eStopped : ∀ r ∈ m.reasons, r.isE = true → m.motion = .eStop ∨ m.motion = .parked
  atRest : m.motion.moving = false → m.vCmd = 0
  bounded : m.vCmd ≤ vmax
  dwell : m.dwell.isSome = true ↔ m.motion = .dwell
  held : m.held = true → m.motion = .running

/-- A seat agrees with its enabled flag, and its bar is held while the vehicle is `moving`. -/
structure Seat.Sits (moving : Bool) (q : Seat) : Prop where
  disabled : q.enabled = false ↔ q.state = .disabled
  riding : moving = true → q.enabled = true → q.state.heldClosed = true

/-- RSM's part of the invariant in a motion state. -/
structure Rsm.Restrained (motion : Motion) (r : Rsm) : Prop where
  seats : ∀ q ∈ r.seats, q.Sits motion.moving
  permit : r.permit.isSome = true → motion = .stopped ∨ motion = .eStop

theorem motionSafe_iff (s : State) :
    s.MotionSafe ↔ s.msv.Orderly s.settings.vmax ∧ s.rsm.Restrained s.msv.motion := by
  constructor
  · rintro ⟨eStopped, atRest, bounded, dwell, held, disabled, riding, permit⟩
    exact ⟨⟨eStopped, atRest, bounded, dwell, held⟩, fun q hq => ⟨disabled q hq, fun hm => riding hm q hq⟩, permit⟩
  · rintro ⟨⟨eStopped, atRest, bounded, dwell, held⟩, seats, permit⟩
    exact ⟨eStopped, atRest, bounded, dwell, held, fun q hq => (seats q hq).disabled,
      fun hm q hq => (seats q hq).riding hm, permit⟩

/-- A motion state may become another with the seats and the permit as they are: it does not begin to move, and a state that
may hold a permit becomes one that may. -/
abbrev Motion.Eases (m m' : Motion) : Prop :=
  (m'.moving = true → m.moving = true) ∧ (m = .stopped ∨ m = .eStop → m' = .stopped ∨ m' = .eStop)

/-- A vehicle that moves has its seats held and no permit, so any state may follow. -/
theorem Motion.Eases.of_moving {m m' : Motion} (h : m.moving = true) : m.Eases m' :=
  ⟨fun _ => h, fun hm => by rcases hm with rfl | rfl <;> cases h⟩

theorem Rsm.Restrained.eases {m m' : Motion} {r : Rsm} (h : r.Restrained m) (hm : m.Eases m') : r.Restrained m' :=
  ⟨fun q hq => ⟨(h.seats q hq).disabled, fun hm' => (h.seats q hq).riding (hm.1 hm')⟩, fun hp => hm.2 (h.permit hp)⟩

namespace Msv.Orderly

variable {vmax : Nat} {m : Msv}

/-- The rules do not read MSV's counts, levels and windows, and lose nothing with a reason. -/
theorem keep {m' : Msv} (h : m.Orderly vmax) (hr : ∀ r ∈ m'.reasons, r ∈ m.reasons) (hm : m'.motion = m.motion := by rfl)
    (hv : m'.vCmd = m.vCmd := by rfl) (hd : m'.dwell = m.dwell := by rfl) (hh : m'.held = m.held := by rfl) :
    m'.Orderly vmax where
  eStopped r h' := hm ▸ h.eStopped r (hr r h')
  atRest := by rw [hm, hv]; exact h.atRest
  bounded := by rw [hv]; exact h.bounded
  dwell := by rw [hd, hm]; exact h.dwell
  held := by rw [hh, hm]; exact h.held

/-- MSV once E_STOP has been entered (04 R66). -/
theorem eStop (hm : m.motion = .eStop) (hv : m.vCmd = 0) (hd : m.dwell = none) (hh : m.held = false) :
    m.Orderly vmax where
  eStopped _ _ _ := .inl hm
  atRest _ := hv
  bounded := hv ▸ Nat.zero_le _
  dwell := by simp [hm, hd]
  held := by simp [hh]

/-- Without an E reason in the set, another motion state may be taken with the speed it allows and no dwell. -/
theorem move (h : m.Orderly vmax) {m' : Msv} (hr : ∀ r ∈ m'.reasons, r.isE = false)
    (hm : m'.motion.moving = true ∨ m.motion.moving = false) (hv : m'.vCmd = m.vCmd := by rfl)
    (hd : m'.dwell.isSome = true ↔ m'.motion = .dwell := by simp) (hh : m'.held = false := by rfl) : m'.Orderly vmax where
  eStopped r h' he := absurd ((hr r h').symm.trans he) (by decide)
  atRest hm' := by
    rw [hv]
    exact h.atRest (hm.resolve_left (by simp [hm']))
  bounded := by rw [hv]; exact h.bounded
  dwell := hd
  held h' := absurd (hh.symm.trans h') (by decide)

/-- No E reason is in the set of a vehicle that moves. -/
theorem noE (h : m.Orderly vmax) (hm : m.motion.moving = true) : ∀ r ∈ m.reasons, r.isE = false :=
  fun r hr => Bool.eq_false_iff.2 fun he => by rcases h.eStopped r hr he with e | e <;> rw [e] at hm <;> cases hm

theorem dwell_eq_none (h : m.Orderly vmax) (hm : m.motion ≠ .dwell) : m.dwell = none :=
  Option.not_isSome_iff_eq_none.1 (mt h.dwell.1 hm)

theorem held_eq_false (h : m.Orderly vmax) (hm : m.motion ≠ .running) : m.held = false :=
  Bool.eq_false_iff.2 (mt h.held hm)

end Msv.Orderly

/-- A reason that joins the set keeps MSV's rules and eases the motion state (04 R65 to R67). -/
theorem Msv.Orderly.addReason {vmax : Nat} {s : State} (h : s.msv.Orderly vmax) (r : StopReason) :
    (s.addReason r).msv.Orderly vmax ∧ s.msv.motion.Eases (s.addReason r).msv.motion := by
  obtain ⟨-, e⟩ | ⟨-, -, hm, e⟩ | ⟨-, -, -, -, e⟩ | ⟨-, hr, hm, he⟩ | ⟨-, hr, -, -, e⟩ := s.addReason_cases r
  · rw [e]
    exact ⟨h, id, id⟩
  · have joined : (s.addReason r).msv = { s.msv with reasons := insertReason r s.msv.reasons } := by simp [e]
    rw [joined]
    exact ⟨{ h with eStopped := fun _ _ _ => hm.symm }, id, id⟩
  · have stops : (s.addReason r).msv = { s.msv with
        motion := .eStop, reasons := insertReason r s.msv.reasons, vCmd := 0, dwell := none, held := false
        overspeed := 0 } := by simp [e]
    rw [stops]
    exact ⟨.eStop rfl rfl rfl rfl, nofun, fun _ => .inr rfl⟩
  · have stops : (s.addReason r).msv = { s.msv with
        motion := .safeStop, reasons := insertReason r s.msv.reasons, dwell := none, held := false } := by
      rcases he with e | e <;> simp [e]
    have moves : s.msv.motion.moving = true := by rcases hm with hm | hm <;> rw [hm] <;> rfl
    have noE : ∀ x ∈ insertReason r s.msv.reasons, x.isE = false := by
      intro x hx
      rcases (mem_insertReason r x _).1 hx with rfl | hx
      · exact hr
      · exact h.noE moves x hx
    rw [stops]
    exact ⟨h.move noE (.inl rfl), .of_moving moves⟩
  · have joined : (s.addReason r).msv = { s.msv with reasons := insertReason r s.msv.reasons } := by simp [e]
    rw [joined]
    refine ⟨{ h with eStopped := fun x hx hE => ?_ }, id, id⟩
    rcases (mem_insertReason r x _).1 hx with rfl | hx
    · exact absurd (hr.symm.trans hE) (by decide)
    · exact h.eStopped x hx hE

namespace State.MotionSafe

variable {s t : State}

theorem of_same (h : s.MotionSafe) (hm : t.msv = s.msv := by rfl) (hr : t.rsm = s.rsm := by rfl)
    (hs : t.settings.vmax = s.settings.vmax := by rfl) : t.MotionSafe := by
  rw [motionSafe_iff] at h ⊢
  rwa [hm, hr, hs]

/-- MSV changes, RSM stays. -/
theorem of_msv (h : s.MotionSafe) (ho : t.msv.Orderly s.settings.vmax) (hm : s.msv.motion.Eases t.msv.motion)
    (hr : t.rsm = s.rsm := by simp) (hs : t.settings = s.settings := by simp) : t.MotionSafe := by
  rw [motionSafe_iff] at h ⊢
  rw [hr, hs]
  exact ⟨ho, h.2.eases hm⟩

/-- MSV's counts, levels and windows change, and reasons leave the set. -/
theorem of_keep (h : s.MotionSafe) (hr : ∀ r ∈ t.msv.reasons, r ∈ s.msv.reasons)
    (hm : t.msv.motion = s.msv.motion := by rfl) (hv : t.msv.vCmd = s.msv.vCmd := by rfl)
    (hd : t.msv.dwell = s.msv.dwell := by rfl) (hh : t.msv.held = s.msv.held := by rfl) (hrsm : t.rsm = s.rsm := by rfl)
    (hs : t.settings = s.settings := by rfl) : t.MotionSafe :=
  h.of_msv (((motionSafe_iff s).1 h).1.keep hr hm hv hd hh) (by rw [hm]; exact ⟨id, id⟩) hrsm hs

/-- RSM changes, MSV stays. -/
theorem of_rsm (h : s.MotionSafe) (hseats : ∀ q ∈ t.rsm.seats, q.Sits s.msv.motion.moving)
    (hp : t.rsm.permit.isSome = true → s.msv.motion = .stopped ∨ s.msv.motion = .eStop) (hm : t.msv = s.msv := by rfl)
    (hs : t.settings = s.settings := by rfl) : t.MotionSafe := by
  rw [motionSafe_iff] at h ⊢
  rw [hm, hs]
  exact ⟨h.1, hseats, hp⟩

theorem orderly (h : s.MotionSafe) : s.msv.Orderly s.settings.vmax := ((motionSafe_iff s).1 h).1

theorem restrained (h : s.MotionSafe) : s.rsm.Restrained s.msv.motion := ((motionSafe_iff s).1 h).2

/-- A seat of the table, or the record that stands for none. -/
theorem sits (h : s.MotionSafe) (i : Nat) : (s.seat i).Sits s.msv.motion.moving := by
  unfold State.seat
  rw [List.getD_eq_getElem?_getD]
  cases hq : s.rsm.seats[i]? with
  | none => exact ⟨by simp [Seat.reset], by simp [Seat.reset]⟩
  | some q => exact h.restrained.seats q (List.mem_of_getElem? hq)

/-! ### Stop reasons and the dwell -/

theorem removeReason (h : s.MotionSafe) (r : StopReason) : (s.removeReason r).MotionSafe :=
  h.of_keep fun _ hx => List.mem_of_mem_filter hx

theorem addReason (h : s.MotionSafe) (r : StopReason) : (s.addReason r).MotionSafe :=
  h.of_msv (h.orderly.addReason r).1 (h.orderly.addReason r).2

theorem requestDwell (h : s.MotionSafe) {ms : Nat} (ht : s.requestDwell ms = some t) : t.MotionSafe := by
  unfold State.requestDwell at ht
  split at ht
  · rename_i hm
    cases ht
    refine h.of_msv ?_ ?_ <;> simp only [State.raise_msv, State.setMsv_msv]
    · exact h.orderly.move (h.orderly.noE (by rw [hm]; rfl)) (.inl rfl)
    · exact .of_moving (by rw [hm]; rfl)
  · rename_i hm
    cases ht
    refine h.of_msv ?_ ⟨id, id⟩
    exact { h.orderly with dwell := by simp [hm] }
  all_goals cases ht

end State.MotionSafe

/-- What keeps the motion rules across stop reasons and a cue's dwell. -/
theorem motionSafe_closed : MotionClosed (fun s t => s.MotionSafe → t.MotionSafe) where
  trans h h' := h' ∘ h
  calm hm hr hs h := h.of_same hm hr (by rw [hs])
  join _ r h := h.addReason r
  leave _ r h := h.removeReason r
  dwell hd h := h.requestDwell hd

/-! ### Answers and events -/

theorem Answer.Leaves.imp {p q : State → Prop} {a : Answer} (h : a.Leaves p) (hpq : ∀ t, p t → q t) : a.Leaves q := by
  cases a with
  | refuse => trivial
  | take t => exact hpq t h

namespace State.MotionSafe

variable {s t : State}

theorem hearFrame (h : s.MotionSafe) : s.hearFrame.MotionSafe := h.of_keep fun _ hx => List.mem_of_mem_filter hx

/-- A request keeps the rules where its answer does. -/
theorem request (h : s.MotionSafe) {kind key : Nat} {act : State → Answer}
    (ha : ∀ u : State, u.MotionSafe → (act u).Leaves State.MotionSafe) : (request kind key act s).MotionSafe := by
  obtain ⟨-, e⟩ | ⟨-, -, e⟩ | ⟨-, -, st, p, -, e⟩ | ⟨-, -, t, st, c, p, hact, e⟩ := request_cases s kind key act
  · rwa [e]
  · rw [e]
    exact h.of_same
  · rw [e]
    exact h.hearFrame.of_same
  · have taken : t.MotionSafe := by simpa [hact] using ha s.hearFrame h.hearFrame
    rw [e]
    exact taken.of_same

theorem event (h : s.MotionSafe) {f : State → State} (hf : (f s).MotionSafe) : (event f s).MotionSafe := by
  obtain ⟨-, e⟩ | ⟨-, e⟩ := event_cases s f
  · rwa [e]
  · rwa [e]

end State.MotionSafe

/-! ### Seats (03) -/

/-- While a seat's bar is held, a reading keeps it held or is a fault (03 R46, R47). -/
theorem SeatState.heldClosed_next {st : SeatState} (h : st.heldClosed = true) (k : ReadingKind) :
    (st.next k).heldClosed = true ∨ ∃ f, st.next k = .fault f := by
  cases st with
  | verified => cases k <;> simp [SeatState.next, SeatState.heldClosed]
  | suspect c r =>
    cases k with
    | opened => exact .inr ⟨_, rfl⟩
    | good => by_cases hr : r + 1 < 2 <;> simp [SeatState.next, SeatState.heldClosed, hr]
    | disagree => by_cases hc : c + 1 < 3 <;> simp [SeatState.next, SeatState.heldClosed, hc]
  | _ => cases h

/-- No reading leaves DISABLED or enters it (03 Table 3-2). -/
theorem SeatState.next_eq_disabled {st : SeatState} {k : ReadingKind} : st.next k = .disabled ↔ st = .disabled := by
  cases st with
  | latching c => cases k <;> by_cases hc : c + 1 < 4 <;> simp [SeatState.next, hc]
  | suspect c r =>
    by_cases hr : r + 1 < 2 <;> by_cases hc : c + 1 < 3 <;> cases k <;> simp [SeatState.next, hr, hc]
  | _ => cases k <;> simp [SeatState.next]

theorem forall_mem_modify {α : Type} {p : α → Prop} {l : List α} {i : Nat} {f : α → α} (h : ∀ a ∈ l, p a)
    (hf : ∀ a, l[i]? = some a → p (f a)) : ∀ a ∈ l.modify i f, p a := by
  intro a ha
  obtain ⟨j, hj⟩ := List.mem_iff_getElem?.1 ha
  rw [List.getElem?_modify] at hj
  obtain ⟨b, hb, rfl⟩ := Option.map_eq_some_iff.1 hj
  by_cases hij : i = j
  · subst hij
    simpa using hf b hb
  · simpa [hij] using h b (List.mem_of_getElem? hb)

/-- A seat that is neither disabled nor held closed means that the vehicle does not move, and may be UNLATCHED. -/
theorem Seat.Sits.unlatched {moving : Bool} {q : Seat} (h : q.Sits moving) (hd : q.state ≠ .disabled)
    (hc : q.state.heldClosed = false) : { q with state := .unlatched }.Sits moving where
  disabled := by simpa using mt h.disabled.1 hd
  riding hm he := absurd (hc.symm.trans (h.riding hm he)) (by decide)

/-- At rest a seat need only agree with its flag. -/
theorem Seat.Sits.of_still {q : Seat} (h : q.enabled = false ↔ q.state = .disabled) : q.Sits false := ⟨h, nofun⟩

/-- A taken AMEND SEAT leaves the seat DISABLED exactly where it clears the enabled flag (03 R41). -/
theorem amended_disabled_iff {q : Seat} (hq : q.enabled = false ↔ q.state = .disabled) (w : SeatWire) :
    (w.seat (amendedSeatState q.toWire w q.state)).enabled = false ↔
      (w.seat (amendedSeatState q.toWire w q.state)).state = .disabled := by
  obtain ⟨disabled, enabled, kept, changed⟩ := amendedSeatState_cases q.toWire w q.state
  change w.enabled = false ↔ amendedSeatState q.toWire w q.state = .disabled
  cases hw : w.enabled with
  | false => simp [disabled hw]
  | true =>
    by_cases he : q.enabled = false
    · simp [enabled he hw]
    · by_cases hk : w = q.toWire
      · simpa [kept hw hk] using mt hq.2 he
      · simp [changed (Bool.ne_false_iff.1 he) hw hk]

namespace State.MotionSafe

variable {s t : State}

theorem sampleSeat (h : s.MotionSafe) (i : Nat) (r : SeatReading) : (s.sampleSeat i r).MotionSafe := by
  obtain ⟨orderly, eases⟩ : (s.sampleSeat i r).msv.Orderly s.settings.vmax ∧
      s.msv.motion.Eases (s.sampleSeat i r).msv.motion := by
    obtain ⟨-, e⟩ | ⟨-, -, e⟩ | ⟨-, -, e⟩ := s.sampleSeat_cases i r <;> rw [e]
    · exact ⟨h.orderly, id, id⟩
    · exact ⟨h.orderly, id, id⟩
    · exact Msv.Orderly.addReason (s := s.setSeatState i _) h.orderly _
  have rsm := State.sampleSeat_rsm i r s
  refine (motionSafe_iff _).2 ⟨by rwa [(s.sampleSeat_sameBut i r).settings], ⟨?_, ?_⟩⟩
  · rw [rsm]
    have others := (h.restrained.eases eases).seats
    refine forall_mem_modify others fun q hq => ⟨?_, fun hm he => ?_⟩
    · rw [Seat.sampled_state, SeatState.next_eq_disabled]
      exact (others q (List.mem_of_getElem? hq)).disabled
    · have bar : q.state.heldClosed = true := (others q (List.mem_of_getElem? hq)).riding hm he
      have seat : s.seat i = q := by simp [State.seat, hq]
      refine (SeatState.heldClosed_next bar (q.classify r)).resolve_right fun ⟨f, hf⟩ => ?_
      have joined : .seatFault ∈ (s.sampleSeat i r).msv.reasons :=
        State.sampleSeat_seatFault (by rwa [seat]) (by rw [seat]; rintro e; rw [e] at bar; cases bar)
      exact absurd (orderly.noE hm _ joined) (by decide)
  · rw [rsm]
    exact fun hp => eases.2 (h.restrained.permit hp)

theorem releaseSeats_sits (h : s.MotionSafe) (hm : s.msv.motion.moving = false) (mask : Nat) :
    ∀ q ∈ (s.releaseSeats mask).rsm.seats, q.Sits s.msv.motion.moving := by
  simp only [State.releaseSeats, State.setRsm_rsm, List.mem_map]
  rintro _ ⟨p, hp, rfl⟩
  have sits : p.1.Sits s.msv.motion.moving := h.restrained.seats _ (List.fst_mem_of_mem_zipIdx hp)
  split
  · rename_i released
    rw [hm]
    exact .of_still (by simp_all)
  · exact sits

theorem still_of_permit (h : s.MotionSafe) {p : Permit} (hp : s.rsm.permit = some p) : s.msv.motion.moving = false := by
  rcases h.restrained.permit (by rw [hp]; rfl) with hm | hm <;> rw [hm] <;> rfl

theorem completeHold (h : s.MotionSafe) : s.completeHold.MotionSafe := by
  obtain e | ⟨p, hp, e⟩ := s.completeHold_cases
  · rw [e]
    exact h.of_rsm h.restrained.seats h.restrained.permit
  · have held : (s.setRsm { s.rsm with hold := .held }).MotionSafe := h.of_rsm h.restrained.seats h.restrained.permit
    have frame := (s.setRsm { s.rsm with hold := .held }).fireRelease_sameBut p.mask
    rw [e]
    refine held.of_rsm ?_ ?_ frame.msv frame.settings <;> rw [State.fireRelease_rsm]
    · exact held.releaseSeats_sits (h.still_of_permit hp) p.mask
    · nofun

theorem updateHold (h : s.MotionSafe) (closed : Bool) : (s.updateHold closed).MotionSafe := by
  have timed (hold : Hold) : (s.setRsm { s.rsm with hold := hold }).MotionSafe :=
    h.of_rsm h.restrained.seats h.restrained.permit
  unfold State.updateHold
  split
  · split
    · exact timed _
    · split
      · exact h.completeHold
      · exact h
    · exact h
  · exact timed _

theorem takeLevels (h : s.MotionSafe) (v : SeatLevels) : (s.takeLevels v).MotionSafe := by
  have kept : (s.keepLevels v).MotionSafe := h.of_rsm h.restrained.seats h.restrained.permit
  have seated : (s.seated v).MotionSafe :=
    State.sampleSeats_lift (p := fun s t => s.MotionSafe → t.MotionSafe) (fun _ => id) (fun h h' => h' ∘ h)
      (fun i r _ h => h.sampleSeat i r) 0 v.readings _ kept
  exact seated.updateHold _

theorem holdComplete (h : s.MotionSafe) : (holdComplete s).MotionSafe := by
  unfold Machine.holdComplete
  split
  · split
    · exact h.takeLevels _
    · exact h
  all_goals exact h

theorem permitExpiry (h : s.MotionSafe) : (permitExpiry s).MotionSafe := by
  unfold Machine.permitExpiry
  split
  · split
    · exact h.of_rsm h.restrained.seats nofun
    · exact h
  · exact h

/-- Seat `i`, neither disabled nor held closed, becomes UNLATCHED. -/
theorem unlatch (h : s.MotionSafe) {i : Nat} (hd : (s.seat i).state ≠ .disabled)
    (hc : (s.seat i).state.heldClosed = false) : (s.setSeatState i .unlatched).MotionSafe := by
  refine h.of_rsm (forall_mem_modify h.restrained.seats fun q hq => ?_) h.restrained.permit
  have seat : s.seat i = q := by simp [State.seat, hq]
  rw [seat] at hd hc
  exact (h.restrained.seats q (List.mem_of_getElem? hq)).unlatched hd hc

theorem releasePulseEnd (h : s.MotionSafe) (i : Nat) : (releasePulseEnd i s).MotionSafe := by
  unfold Machine.releasePulseEnd
  split
  · rename_i hs
    split
    · have unlatched : (s.setSeatState i .unlatched).MotionSafe := h.unlatch (by rw [hs]; nofun) (by rw [hs]; rfl)
      exact unlatched.of_same
    · exact h
  · exact h

theorem setSeat (h : s.MotionSafe) {i : Nat} {q : Seat} (hq : q.Sits s.msv.motion.moving) : (s.setSeat i q).MotionSafe := by
  refine h.of_rsm (fun p hp => ?_) h.restrained.permit
  obtain hp | rfl := List.mem_or_eq_of_mem_set hp
  · exact h.restrained.seats p hp
  · exact hq

theorem still_of_atRest (hm : s.atRest = true) : s.msv.motion.moving = false := by
  rcases s.atRest_iff.1 hm with hm | hm <;> rw [hm] <;> rfl

theorem putSeat (h : s.MotionSafe) (key : Nat) (w : SeatWire) : (putSeat key w s).Leaves State.MotionSafe := by
  unfold Machine.putSeat
  split
  · trivial
  · rename_i hm
    have still : s.msv.motion.moving = false := still_of_atRest (by simpa using hm)
    split
    · trivial
    · split
      · trivial
      · exact h.setSeat (still ▸ .of_still (by cases hw : w.enabled <;> simp [SeatWire.seat, hw]))

theorem amendSeat (h : s.MotionSafe) (key presence : Nat) (w : SeatWire) :
    (amendSeat key presence w s).Leaves State.MotionSafe := by
  unfold Machine.amendSeat
  dsimp only
  split
  · trivial
  · rename_i hm
    have still : s.msv.motion.moving = false := still_of_atRest (by simpa using hm)
    split
    · trivial
    · split
      · trivial
      · split
        · exact h
        · split
          · exact h.setSeat (still ▸ .of_still (amended_disabled_iff (h.sits key).disabled _))
          · trivial

theorem seatClear (h : s.MotionSafe) (key : Nat) : (seatClear key s).Leaves State.MotionSafe := by
  unfold Machine.seatClear
  split
  · trivial
  · split
    · trivial
    · split
      · rename_i hs
        exact h.unlatch (by rw [hs]; nofun) (by rw [hs]; rfl)
      · trivial

theorem releasePermit (h : s.MotionSafe) (mask : Nat) : (releasePermit mask s).Leaves State.MotionSafe := by
  unfold Machine.releasePermit
  split
  · trivial
  · split
    · trivial
    · rename_i hm
      split
      · trivial
      · exact h.of_rsm h.restrained.seats fun _ => .inl (by simpa using hm)

theorem releaseImmediate (h : s.MotionSafe) (mask : Nat) : (releaseImmediate mask s).Leaves State.MotionSafe := by
  unfold Machine.releaseImmediate
  split
  · trivial
  · split
    · trivial
    · rename_i hm
      have parked : s.msv.motion = .parked := by simpa using hm
      exact h.of_rsm (h.releaseSeats_sits (by rw [parked]; rfl) mask) h.restrained.permit

/-! ### The speed stage -/

theorem overspeedCheck (h : s.MotionSafe) : s.overspeedCheck.MotionSafe := by
  have counted (n : Nat) : (s.setMsv { s.msv with overspeed := n }).MotionSafe := h.of_keep fun _ => id
  unfold State.overspeedCheck
  split
  · exact counted 0
  · split
    · split
      · exact (counted 0).addReason _
      · exact counted _
    · exact counted 0

theorem ramp (h : s.MotionSafe) : s.ramp.MotionSafe := by
  refine h.of_msv { h.orderly with atRest := fun hm => ?_, bounded := ?_ } ⟨id, id⟩ rfl rfl
  · rw [State.ramp_msv] at hm ⊢
    simp [hm]
  · have least := rampTo_le_max s.settings s.msv.vCmd s.vCeil
    have ceiling := s.vCeil_le_vmax
    have speed := h.orderly.bounded
    rw [State.ramp_msv]
    dsimp only
    split <;> omega

theorem heldTest (h : s.MotionSafe) : s.heldTest.MotionSafe := by
  unfold State.heldTest
  split
  · rename_i hm
    split
    · exact h
    · exact h.of_msv { h.orderly with held := fun _ => hm.1 } ⟨id, id⟩
  · split
    · exact h.of_msv { h.orderly with held := nofun } ⟨id, id⟩
    · exact h

theorem restStep (h : s.MotionSafe) : s.restStep.MotionSafe := by
  unfold State.restStep
  split
  · exact h
  · split
    · rename_i hm hd
      exact h.of_msv { h.orderly with dwell := by simp [hm] } ⟨id, id⟩
    · rename_i hv _ _ hm
      have moves : s.msv.motion.moving = true := by rw [hm]; rfl
      have noDwell := h.orderly.dwell_eq_none (by simp [hm])
      have unheld := h.orderly.held_eq_false (by simp [hm])
      refine h.of_msv ⟨fun r hr he => ?_, fun _ => by simpa using hv, h.orderly.bounded, ?_, ?_⟩ (.of_moving moves)
      · exact absurd ((h.orderly.noE moves r hr).symm.trans he) (by decide)
      · simp [noDwell]
      · simp [unheld]
    · exact h

theorem guidanceSample (h : s.MotionSafe) (encoder : Int) (current : Nat) :
    (guidanceSample encoder current s).MotionSafe := by
  have guided : (s.positionStep.1.guide encoder).MotionSafe := motionSafe_closed.guided encoder s h
  have windowed : ((s.positionStep.1.guide encoder).windowStep s.positionStep.2).MotionSafe := guided.of_keep fun _ => id
  have checked := motionSafe_closed.overrunCheck _ windowed.overspeedCheck
  have loaded := State.readLoad_sameBut (s.sped encoder) current
  exact checked.ramp.heldTest.restStep.of_same loaded.msv (loaded.same .rsm) (congrArg Settings.vmax loaded.settings)

/-! ### Requests of motion and the other events of MSV -/

end State.MotionSafe

theorem StopReason.mem_all (r : StopReason) : r ∈ StopReason.all := by cases r <;> decide

theorem firstE_eq_none {l : List StopReason} : firstE l = none ↔ ∀ r ∈ l, r.isE = false := by
  simp only [firstE, List.find?_eq_none, Bool.and_eq_true, List.contains_iff_mem, not_and]
  exact ⟨fun h r hr => Bool.eq_false_iff.2 fun he => h r r.mem_all he hr,
    fun h r _ he hr => absurd ((h r hr).symm.trans he) (by decide)⟩

/-- An outstanding permit is withdrawn; where there is none, nothing is (03 R56). -/
@[simp] theorem State.withdrawPermit_rsm (s : State) : s.withdrawPermit.rsm = { s.rsm with permit := none } := by
  unfold State.withdrawPermit
  split
  · rfl
  · rename_i h
    simp [← Option.not_isSome_iff_eq_none.1 h]

@[simp] theorem State.withdrawPermit_msv (s : State) : s.withdrawPermit.msv = s.msv := s.withdrawPermit_sameBut.msv

/-- A withdrawn permit leaves the rules to MSV and to the seats. -/
theorem State.withdrawPermit_motionSafe {s : State} (ho : s.msv.Orderly s.settings.vmax)
    (hseats : ∀ q ∈ s.rsm.seats, q.Sits s.msv.motion.moving) : s.withdrawPermit.MotionSafe := by
  rw [motionSafe_iff, State.withdrawPermit_msv, State.withdrawPermit_rsm, s.withdrawPermit_sameBut.settings]
  exact ⟨ho, hseats, nofun⟩

/-- With every enabled seat VERIFIED the vehicle may move (03 R50, 04 R71). -/
theorem State.sits_of_allVerified {s : State} (h : s.allVerified = true)
    (hd : ∀ q ∈ s.rsm.seats, q.enabled = false ↔ q.state = .disabled) : ∀ q ∈ s.rsm.seats, q.Sits true := by
  intro q hq
  refine ⟨hd q hq, fun _ he => ?_⟩
  have verified : q.state = .verified := by simpa [he] using List.all_eq_true.1 h q hq
  rw [verified]
  rfl

/-- Storing settings moves nothing of MSV but the supply run (04 R89). -/
theorem State.storeSettings_msv (t : Settings) (s : State) :
    ∃ n, (s.storeSettings t).msv = { s.msv with supplyRun := n } := by
  unfold State.storeSettings State.msvSettings State.sndSettings
  repeat' split
  · exact ⟨s.msv.supplyRun, rfl⟩
  · exact ⟨s.msv.supplyRun, rfl⟩
  · exact ⟨0, rfl⟩
  · exact ⟨0, rfl⟩

namespace State.MotionSafe

variable {s t : State}

theorem enableVehicle (h : s.MotionSafe) : (enableVehicle s).Leaves State.MotionSafe := by
  unfold Machine.enableVehicle
  split
  · trivial
  · rename_i hm
    have parked : s.msv.motion = .parked := by simpa using hm
    have still : s.msv.motion.moving = false := by rw [parked]; rfl
    have noDwell := h.orderly.dwell_eq_none (by simp [parked])
    have unheld := h.orderly.held_eq_false (by simp [parked])
    rw [leaves_ok]
    split
    · rename_i hE
      refine h.of_msv (h.orderly.move (firstE_eq_none.1 hE) (.inr still) rfl ?_ unheld) ⟨nofun, fun _ => .inl rfl⟩
      simp [noDwell]
    · refine h.of_msv ?_ ?_ <;> rw [State.raise_msv, State.enterEStop_msv]
      · exact .eStop rfl rfl rfl rfl
      · exact ⟨nofun, fun _ => .inr rfl⟩

theorem parkVehicle (h : s.MotionSafe) : (parkVehicle s).Leaves State.MotionSafe := by
  unfold Machine.parkVehicle
  split
  · rename_i hm
    have still : s.msv.motion.moving = false := by rcases hm with hm | hm <;> rw [hm] <;> rfl
    have noDwell := h.orderly.dwell_eq_none (by rcases hm with hm | hm <;> simp [hm])
    refine State.withdrawPermit_motionSafe ?_ fun q hq => .of_still (h.restrained.seats q hq).disabled
    exact ⟨fun _ _ _ => .inr rfl, fun _ => h.orderly.atRest still, h.orderly.bounded, by simp [noDwell], nofun⟩
  · trivial

theorem startVehicle (h : s.MotionSafe) : (startVehicle s).Leaves State.MotionSafe := by
  unfold Machine.startVehicle
  split
  · trivial
  · rename_i hm
    have stopped : s.msv.motion = .stopped := by simpa using hm
    have noDwell := h.orderly.dwell_eq_none (by simp [stopped])
    split
    · trivial
    · rename_i hbar
      have none : s.msv.reasons.filter (· ≠ .hostStop) = [] := by simpa [barringStart] using hbar
      split
      · trivial
      · split
        · trivial
        · rename_i hv
          refine State.withdrawPermit_motionSafe ?_ (State.sits_of_allVerified (s := s) (by simpa using hv) fun q hq =>
            (h.restrained.seats q hq).disabled)
          refine h.orderly.move (fun r hr => ?_) (.inl rfl) rfl ?_
          · change r ∈ s.msv.reasons.filter (· ≠ .hostStop) at hr
            rw [none] at hr
            cases hr
          · simp [State.removeReason, noDwell]

theorem resumeVehicle (h : s.MotionSafe) : (resumeVehicle s).Leaves State.MotionSafe := by
  unfold Machine.resumeVehicle
  split
  · trivial
  · rename_i hm
    have stopped : s.msv.motion = .eStop := by simpa using hm
    have noDwell := h.orderly.dwell_eq_none (by simp [stopped])
    split
    · trivial
    · dsimp only
      split
      · trivial
      · refine h.of_msv (h.orderly.move (fun r hr => ?_) (.inr (by rw [stopped]; rfl)) rfl ?_) ⟨nofun, fun _ => .inl rfl⟩
        · simpa using (List.mem_filter.1 hr).2
        · simp [noDwell]

/-- A dwell that ends returns to RUNNING (04 R75, R85). -/
theorem endDwell (h : s.MotionSafe) (hm : s.msv.motion = .dwell) :
    (s.setMsv { s.msv with motion := .running, dwell := none, held := false }).MotionSafe := by
  have moves : s.msv.motion.moving = true := by rw [hm]; rfl
  exact h.of_msv (h.orderly.move (h.orderly.noE moves) (.inl rfl)) (.of_moving moves)

theorem skipDwell (h : s.MotionSafe) : (skipDwell s).Leaves State.MotionSafe := by
  unfold Machine.skipDwell
  split
  · trivial
  · exact h.endDwell (by simp_all)

theorem dwellExpiry (h : s.MotionSafe) : (dwellExpiry s).MotionSafe := by
  unfold Machine.dwellExpiry
  split
  · rename_i hm _
    split
    · exact (h.endDwell hm).of_same
    · exact h
  · exact h

theorem stopVehicle (h : s.MotionSafe) : (stopVehicle s).Leaves State.MotionSafe := by
  unfold Machine.stopVehicle
  split
  · trivial
  · exact h.addReason _

theorem estopInputCheck (h : s.MotionSafe) (high : Bool) : (estopInputCheck high s).MotionSafe := by
  have qualified : (s.setMsv { s.msv with
      estopAsserted := qualifyEstop s.msv.estopAsserted s.msv.estopLevel high, estopLevel := some high }).MotionSafe :=
    h.of_keep fun _ => id
  unfold Machine.estopInputCheck
  dsimp only
  split
  · exact qualified.addReason _
  · exact qualified

theorem linkExpiry (h : s.MotionSafe) : (linkExpiry s).MotionSafe := by
  have silent : (s.setMsv { s.msv with linkExpiry := none }).MotionSafe := h.of_keep fun _ => id
  unfold Machine.linkExpiry
  split
  · exact h
  · dsimp only
    split
    · split
      · exact silent.addReason _
      · exact silent
    · exact h

theorem supplyReading (h : s.MotionSafe) (count : Nat) : (supplyReading count s).MotionSafe := by
  unfold Machine.supplyReading
  repeat' split
  all_goals exact h.of_keep fun _ => id

/-! ### Settings and resets -/

theorem takeSettings (h : s.MotionSafe) (hm : s.atRest = true) (ws : List Nat) :
    (s.takeSettings ws).Leaves State.MotionSafe := by
  have stored (new : Settings) : (s.storeSettings new).MotionSafe := by
    obtain ⟨n, msv⟩ := s.storeSettings_msv new
    have rsm : (s.storeSettings new).rsm = s.rsm := (s.storeSettings_sameBut new).same .rsm
    rw [motionSafe_iff, msv, rsm]
    exact ⟨{ h.orderly with bounded := (h.orderly.atRest (still_of_atRest hm)).trans_le (Nat.zero_le _) }, h.restrained⟩
  unfold State.takeSettings
  dsimp only
  split
  · trivial
  · split
    · trivial
    · exact stored _

theorem putSettings (h : s.MotionSafe) (key : Nat) (ws : List Nat) :
    (putSettings key ws s).Leaves State.MotionSafe := by
  unfold Machine.putSettings
  split
  · trivial
  · split
    · trivial
    · exact h.takeSettings (by simp_all) ws

theorem amendSettings (h : s.MotionSafe) (key presence : Nat) (ws : List Nat) :
    (amendSettings key presence ws s).Leaves State.MotionSafe := by
  unfold Machine.amendSettings
  split
  · trivial
  · split
    · trivial
    · split
      · exact h
      · exact h.takeSettings (by simp_all) _

theorem placeVehicle (h : s.MotionSafe) (segment position : Nat) :
    (placeVehicle segment position s).Leaves State.MotionSafe := by
  have placed : (s.placeAt segment position).MotionSafe := motionSafe_closed.placeAt segment position s h
  unfold Machine.placeVehicle
  repeat' split
  all_goals simp [placed]

theorem softReset (h : s.MotionSafe) : (Machine.softReset s).Leaves State.MotionSafe := by
  unfold Machine.softReset
  split
  · refine (motionSafe_iff _).2 ⟨⟨nofun, fun _ => rfl, Nat.zero_le _, by simp [State.softReset, Msv.soft], nofun⟩, ?_, nofun⟩
    simp only [State.softReset, Rsm.soft, List.mem_map]
    rintro _ ⟨q, hq, rfl⟩
    refine .of_still ?_
    split
    · simp_all
    · exact (h.restrained.seats q hq).disabled
  · trivial

theorem of_reset (hm : t.msv = Msv.reset s.now) (hr : t.rsm = Rsm.reset) : t.MotionSafe := by
  rw [motionSafe_iff, hm, hr]
  refine ⟨⟨nofun, fun _ => rfl, Nat.zero_le _, by simp [Msv.reset], nofun⟩, fun q hq => .of_still ?_, nofun⟩
  rw [List.eq_of_mem_replicate hq]
  simp [Seat.reset]

theorem resetEnd (h : s.MotionSafe) : (resetEnd s).MotionSafe := by
  unfold Machine.resetEnd
  split
  · exact h.of_keep fun _ => id
  · exact h

/-! ### The step -/

/-- Every command keeps the rules: those that neither drive nor change RSM or the settings by their frame, the others each by
its own rule. -/
theorem exec (h : s.MotionSafe) (c : Instr) : Result.Leaves State.MotionSafe (exec c s) := by
  have others (hd : c.drives = false) (hc : c.isReset = false) (hr : .rsm ∉ c.blocks) (hs : .settings ∉ c.blocks) :
      Result.Leaves State.MotionSafe (Machine.exec c s) := by
    intro t ht
    have frame := exec_sameBut c s hc t ht
    have heard := exec_hears c s hd t ht
    obtain e | e := heard
    · exact h.of_same e (frame.same .rsm hr) (congrArg Settings.vmax (frame.settings hs))
    · exact h.hearFrame.of_same e (frame.same .rsm hr) (congrArg Settings.vmax (frame.settings hs))
  cases c
  case guidanceSample e i => exact next_leaves (h.event (h.guidanceSample e i))
  case markerRead code => exact next_leaves (h.event (motionSafe_closed.markerRead code s h))
  case seatSample => exact next_leaves (h.event (h.takeLevels _))
  case holdComplete => exact next_leaves (h.event h.holdComplete)
  case permitExpiry => exact next_leaves (h.event h.permitExpiry)
  case releasePulseEnd i => exact next_leaves (h.event (h.releasePulseEnd i))
  case estopInputCheck high => exact next_leaves (h.event (h.estopInputCheck high))
  case linkExpiry => exact next_leaves (h.event h.linkExpiry)
  case supplyReading n => exact next_leaves (h.event (h.supplyReading n))
  case dwellExpiry => exact next_leaves (h.event h.dwellExpiry)
  case powerReset | pinReset => exact next_leaves (of_reset (s := s) rfl rfl)
  case resetEnd => exact next_leaves h.resetEnd
  case putAuthority => exact next_leaves (h.request fun u hu =>
    (motionSafe_closed.putAuthority _ _ u).imp fun _ ht => ht hu)
  case amendAuthority => exact next_leaves (h.request fun u hu =>
    (motionSafe_closed.amendAuthority _ _ _ u).imp fun _ ht => ht hu)
  case retireAuthority => exact next_leaves (h.request fun u hu =>
    (motionSafe_closed.retireAuthority _ u).imp fun _ ht => ht hu)
  case putSeat => exact next_leaves (h.request fun _ hu => hu.putSeat _ _)
  case amendSeat => exact next_leaves (h.request fun _ hu => hu.amendSeat _ _ _)
  case seatClear => exact next_leaves (h.request fun _ hu => hu.seatClear _)
  case release => exact next_leaves (h.request fun _ hu => hu.releasePermit _)
  case releaseImmediate => exact next_leaves (h.request fun _ hu => hu.releaseImmediate _)
  case putSettings => exact next_leaves (h.request fun _ hu => hu.putSettings _ _)
  case amendSettings => exact next_leaves (h.request fun _ hu => hu.amendSettings _ _ _)
  case master => exact next_leaves (h.request fun _ hu => hu.of_same)
  case place => exact next_leaves (h.request fun _ hu => hu.placeVehicle _ _)
  case enable => exact next_leaves (h.request fun _ hu => hu.enableVehicle)
  case park => exact next_leaves (h.request fun _ hu => hu.parkVehicle)
  case start => exact next_leaves (h.request fun _ hu => hu.startVehicle)
  case stop => exact next_leaves (h.request fun _ hu => hu.stopVehicle)
  case estop => exact next_leaves (h.request fun _ hu => hu.addReason _)
  case resume => exact next_leaves (h.request fun _ hu => hu.resumeVehicle)
  case skipDwell => exact next_leaves (h.request fun _ hu => hu.skipDwell)
  case softReset => exact next_leaves (h.request fun _ hu => hu.softReset)
  all_goals exact others rfl rfl (by simp [Instr.blocks]) (by simp [Instr.blocks])

end State.MotionSafe

/-- Settles O17: a step runs a command on the queue's rest, or lets a microsecond pass, and each keeps the rules. -/
theorem motionSafeKept : Obligations.MotionSafeKept := by
  intro s t hs ht
  unfold step at ht
  split at ht
  · cases ht
    exact hs.of_same
  · rename_i c rest _
    have rest : (s.setPending rest).MotionSafe := hs.of_same
    exact rest.exec c t ht

end Sys2Proof.Machine
end

section
/-! PROOFS. The events of MSV apart from the guidance sample: E-stop input, link expiry, supply readings and the end of a
dwell (04 R85, R87 to R89). -/

namespace Sys2Proof.Machine

/-- A reason leaves MSV's windows, counts and levels. -/
theorem State.addReason_msv (r : StopReason) (s : State) :
    let m := (s.addReason r).msv
    m = { s.msv with
      motion := m.motion, reasons := m.reasons, vCmd := m.vCmd, dwell := m.dwell, held := m.held
      overspeed := m.overspeed } := by
  obtain ⟨-, e⟩ | ⟨-, -, -, e⟩ | ⟨-, -, -, -, e⟩ | ⟨-, -, -, e | e⟩ | ⟨-, -, -, -, e⟩ := s.addReason_cases r
  all_goals simp [e]

/-- MSV once the E-stop input has been read (04 R87). -/
def State.readEstop (high : Bool) (s : State) : State :=
  s.setMsv { s.msv with
    estopAsserted := qualifyEstop s.msv.estopAsserted s.msv.estopLevel high, estopLevel := some high }

theorem estopInputCheck_eq (high : Bool) (s : State) : estopInputCheck high s =
    if (s.readEstop high).msv.estopAsserted then (s.readEstop high).addReason .estopInput else s.readEstop high := rfl

/-- What a check of the E-stop input leaves of the input (04 R87). -/
theorem estopInputCheck_input (high : Bool) (s : State) :
    (estopInputCheck high s).msv.estopLevel = some high ∧
    (estopInputCheck high s).msv.estopAsserted = qualifyEstop s.msv.estopAsserted s.msv.estopLevel high := by
  rw [estopInputCheck_eq]
  split
  · rw [State.addReason_msv]
    exact ⟨rfl, rfl⟩
  · exact ⟨rfl, rfl⟩

/-- A silent link stops a vehicle that moves; it is noted once (04 R88). -/
theorem linkExpiry_due {s : State} {e : Nat} (he : s.msv.linkExpiry = some e) (hn : e ≤ s.now) : linkExpiry s =
    if s.msv.motion.moving then (s.setMsv { s.msv with linkExpiry := none }).addReason .linkLost
    else s.setMsv { s.msv with linkExpiry := none } := by
  unfold linkExpiry
  rw [he]
  exact if_pos hn

/-- A dwell that is over returns to RUNNING (04 R85). -/
theorem dwellExpiry_due {s : State} {u : Nat} (hm : s.msv.motion = .dwell) (hd : s.msv.dwell = some (.holding u))
    (hu : u ≤ s.now) : dwellExpiry s =
      (s.setMsv { s.msv with motion := .running, dwell := none, held := false }).raise (.motion .running) := by
  unfold dwellExpiry
  rw [hm, hd]
  exact if_pos hu

/-- Readings on the other side of the set state's threshold are counted to four (04 R89). -/
theorem supplyReading_counts {n : Nat} {s : State} (hrun : s.msv.supplyRun < 3)
    (h : s.msv.supplyLow = false ∧ n < s.settings.supplyThreshold ∨
      s.msv.supplyLow = true ∧ s.settings.supplyThreshold + s.settings.supplyHysteresis < n) :
    supplyReading n s = s.setMsv { s.msv with supplyRun := s.msv.supplyRun + 1 } := by
  have more : s.msv.supplyRun + 1 < 4 := by omega
  obtain ⟨low, below⟩ | ⟨low, above⟩ := h
  · simp [supplyReading, low, below, more]
  · simp [supplyReading, low, above, more]

/-- Settles O33, event by event. -/
theorem motionEvents : Obligations.MotionEvents := by
  intro s hr
  have runs (f : State → State) : Host.Outcome.next (event f s) = (.next (f s) : Result) :=
    congrArg Host.Outcome.next (event_of_running hr)
  refine ⟨fun high => ⟨_, runs _, estopInputCheck_sameBut s high, (estopInputCheck_input high s).1, ?_, ?_, ?_⟩,
    fun e he hn => ⟨_, runs _, ?_⟩, fun n => ⟨?_, ?_, ?_, ?_, ?_⟩, fun u hm hd hu => (runs _).trans ?_⟩
  · exact (estopInputCheck_input high s).2
  · rw [(estopInputCheck_input high s).2]
    intro ha
    rw [estopInputCheck_eq, if_pos (c := (s.readEstop high).msv.estopAsserted = true) ha]
    exact ⟨by simp, fun hnew hm => State.addReason_motion_of_isE rfl hnew hm⟩
  · rw [(estopInputCheck_input high s).2]
    intro ha
    rw [estopInputCheck_eq, if_neg (by simp [State.readEstop, ha])]
    exact ⟨by simp [sameBut_iff, State.readEstop], rfl, rfl⟩
  · rw [linkExpiry_due he hn]
    have silent : SameBut [.msv, .ntu] s (s.setMsv { s.msv with linkExpiry := none }) := by simp [sameBut_iff]
    split
    · rename_i hm
      refine ⟨silent.trans (State.addReason_sameBut_of_isS rfl _), by rw [State.addReason_msv]; rfl, by simp [hm], fun _ => ?_⟩
      exact ⟨by simp, fun hnew => State.addReason_motion_of_moving rfl hnew hm⟩
    · rename_i hm
      exact ⟨silent, rfl, fun _ => ⟨rfl, rfl⟩, fun h => absurd h hm⟩
  · intro low above
    exact (runs _).trans (by simp [supplyReading, low, Nat.not_lt.2 above, State.setMsv])
  · intro low below
    exact (runs _).trans (by simp [supplyReading, low, Nat.not_lt.2 below, State.setMsv])
  · intro run h
    exact (runs _).trans (congrArg Host.Outcome.next (supplyReading_counts run h))
  · intro run low below
    refine ⟨_, runs _, supplyReading_sameBut s n, ?_⟩
    simp only [supplyReading, low, below, run, Bool.false_eq_true, if_false, if_true, Nat.lt_irrefl]
    exact ⟨rfl, rfl, rfl⟩
  · intro run low above
    exact (runs _).trans (by simp [supplyReading, low, above, run, State.setMsv])
  · exact congrArg Host.Outcome.next (dwellExpiry_due hm hd hu)

end Sys2Proof.Machine
end

section
/-! SUPPORT. Claims for a voice (07 R144, R145) and the stop announcement (07 R153), case by case. -/

namespace Sys2Proof.Machine

/-! ### The choice of a voice -/

/-- The pick of a list is a member. -/
theorem mem_of_firstLeast {α : Type} {before : α → α → Bool} {l : List α} {x : α} (h : firstLeast before l = some x) :
    x ∈ l := by
  cases l with
  | nil => cases h
  | cons y ys =>
    have fold (zs : List α) (b : α) :
        zs.foldl (fun best z => if before z best then z else best) b ∈ b :: zs := by
      induction zs generalizing b with
      | nil => simp
      | cons z zs ih =>
        rw [List.foldl_cons]
        split
        · exact List.mem_cons_of_mem b (ih z)
        · have := ih b
          grind
    exact Option.some.inj h ▸ fold ys y

theorem firstLeast_eq_none {α : Type} {before : α → α → Bool} {l : List α} : firstLeast before l = none ↔ l = [] := by
  cases l <;> simp [firstLeast]

/-- The voice that a claim of `level` takes is IDLE, FADING, or PLAYING below that level (07 R144). -/
def Voice.yields (level : Nat) (v : Voice) : Prop :=
  v.state = .idle ∨ v.state = .fading ∨ v.state = .playing ∧ v.level < level

theorem chooseVoice_yields {vs : List Voice} {level i : Nat} (h : chooseVoice vs level = some i) :
    ∃ v, vs[i]? = some v ∧ v.yields level := by
  have place {p : Voice × Nat} (hp : p ∈ vs.zipIdx) : vs[p.2]? = some p.1 := List.mem_zipIdx_iff_getElem?.1 hp
  simp only [chooseVoice, Option.orElse_eq_orElse, Option.orElse_eq_or, Option.or_eq_some_iff, Option.map_eq_some_iff] at h
  obtain ⟨p, hp, rfl⟩ | ⟨-, ⟨p, hp, rfl⟩ | ⟨-, p, hp, rfl⟩⟩ := h
  · exact ⟨p.1, place (List.mem_of_find?_eq_some hp), .inl (by simpa using List.find?_some hp)⟩
  · obtain ⟨mem, state⟩ := List.mem_filter.1 (mem_of_firstLeast hp)
    exact ⟨p.1, place mem, .inr (.inl (by simpa using state))⟩
  · obtain ⟨mem, state⟩ := List.mem_filter.1 (mem_of_firstLeast hp)
    exact ⟨p.1, place mem, .inr (.inr (by simpa using state))⟩

/-- With every voice PLAYING at the claim's level or above there is none to take (07 R144). -/
theorem chooseVoice_eq_none {vs : List Voice} {level : Nat} (h : ∀ v ∈ vs, v.state = .playing ∧ level ≤ v.level) :
    chooseVoice vs level = none := by
  rw [Option.eq_none_iff_forall_ne_some]
  intro i hi
  obtain ⟨v, hv, state⟩ := chooseVoice_yields hi
  obtain ⟨playing, above⟩ := h v (List.mem_of_getElem? hv)
  obtain idle | fading | ⟨-, below⟩ := state
  · simp [playing] at idle
  · simp [playing] at fading
  · omega

/-! ### The start of a voice -/

/-- The refill request of a voice, placed when it needs one (07 R147). -/
def Voice.request (v : Voice) (c : Clip) : Option Refill :=
  if v.needsRefill c then some ⟨v.fetch, min 128 (v.boundary c - v.fetch)⟩ else v.refill

theorem State.placeRefill_snd {i : Nat} {c : Clip} {s : State} (hi : i < s.snd.voices.length)
    (hc : s.clipOf (s.voice i) = some c) : (s.placeRefill i).snd =
      { s.snd with voices := s.snd.voices.set i { s.voice i with refill := (s.voice i).request c } } := by
  have same : s.snd.voices.set i (s.voice i) = s.snd.voices := by simp [State.voice, hi]
  unfold State.placeRefill
  dsimp only
  rw [hc]
  dsimp only
  unfold Voice.request
  split
  · rfl
  · exact congrArg (fun vs => { s.snd with voices := vs }) same.symm

/-- SND once voice `i` has been started (07 R145, R147). -/
theorem State.startVoice_snd {i : Nat} {q : Claim} {c : Clip} {s : State} (hi : i < s.snd.voices.length)
    (hc : Table.get s.flp.clips q.clip = some c) :
    let v := Voice.started q c s.snd.startCounter
    (s.startVoice i q c).snd = { s.snd with
      voices := s.snd.voices.set i { v with refill := v.request c }, startCounter := s.nextStamp } := by
  dsimp only
  unfold State.startVoice
  dsimp only
  rw [State.placeRefill_snd (c := c)]
  · split <;> simp [State.voice, State.setVoice, State.withdrawRefill, State.nextStamp, hi]
  · split <;> simpa [State.setVoice, State.withdrawRefill] using hi
  · split <;> simpa [State.clipOf, State.voice, State.setVoice, State.withdrawRefill, hi, Voice.started] using hc

/-- The free counter moves on when the start counter has no value left (07 §7.1). -/
theorem State.startVoice_free (i : Nat) (q : Claim) (c : Clip) (s : State) : (s.startVoice i q c).free =
    if s.snd.startCounter + 1 < 2 ^ 48 then s.free else s.free + 1 := by
  unfold State.startVoice
  dsimp only
  rw [State.placeRefill_free, State.setSnd_free]
  have counter : ((s.yieldVoice i).withdrawRefill i).snd.startCounter = s.snd.startCounter := by
    simp [State.withdrawRefill, State.setVoice]
  rw [counter]
  split <;> simp

/-- A start raises what the taken voice owes (07 R145). -/
theorem State.startVoice_ntu (i : Nat) (q : Claim) (c : Clip) (s : State) :
    (s.startVoice i q c).ntu = (s.yieldVoice i).ntu := by
  unfold State.startVoice
  dsimp only
  rw [State.placeRefill_ntu, State.setSnd_ntu]
  split <;> simp

/-! ### The stop announcement -/

/-- The voices once those PLAYING below level 3 fade (07 R153). -/
def State.hushed (s : State) : State := s.fadeVoices (fun v => v.level < 3)

/-- The stop announcement's claim for clip `id` (07 R153). -/
def stopClaim (id : Nat) : Claim := ⟨id, ⟨true, true⟩, 256, false, false, 3, .stopCall⟩

theorem State.hushed_snd (s : State) : s.hushed.snd = { s.snd with voices := s.hushed.snd.voices } := rfl

theorem State.hushed_voices (s : State) : s.hushed.snd.voices =
    s.snd.voices.map fun v => if v.state = .playing ∧ v.level < 3 then { v with state := .fading } else v := by
  refine List.map_congr_left fun v _ => ?_
  unfold Voice.fade
  split_ifs <;> simp_all

/-- No voice is left PLAYING below level 3 (07 R153). -/
theorem State.hushed_level (s : State) : ∀ v ∈ s.hushed.snd.voices, v.state = .playing → 3 ≤ v.level := by
  rw [s.hushed_voices]
  intro v hv hp
  obtain ⟨w, -, rfl⟩ := List.mem_map.1 hv
  split at hp
  · cases hp
  · rename_i h
    rw [if_neg h]
    exact Nat.not_lt.1 fun hl => h ⟨hp, hl⟩

/-- Fading takes no voice out of IDLE, nor into it, and leaves the owner. -/
theorem State.hushed_voice (s : State) (i : Nat) :
    ((s.hushed.voice i).state = .idle ↔ (s.voice i).state = .idle) ∧ (s.hushed.voice i).owner = (s.voice i).owner := by
  rw [State.voice, s.hushed_voices, State.voice]
  simp only [List.getD_eq_getElem?_getD, List.getElem?_map]
  cases s.snd.voices[i]? with
  | none => simp
  | some v =>
    simp only [Option.map_some, Option.getD_some]
    split
    · simp_all
    · simp

section
variable {s : State} {id : Nat} {c : Clip}

theorem State.announceStop_of_none (h : s.settings.stopClip = none) : s.announceStop = s.hushed := by
  unfold State.announceStop
  dsimp only
  rw [State.fadeVoices_settings, h]
  rfl

theorem State.announceStop_of_not_ready (h : s.settings.stopClip = some id) (hc : s.readyClip id = none) :
    s.announceStop = s.hushed.raise (.voiceRefused id false) := by
  have ready : s.hushed.readyClip id = none := hc
  unfold State.announceStop
  dsimp only
  rw [State.fadeVoices_settings, h]
  dsimp only
  rw [← State.hushed, ready]

theorem State.announceStop_of_no_voice (h : s.settings.stopClip = some id) (hc : s.readyClip id = some c)
    (hv : chooseVoice s.hushed.snd.voices 3 = none) : s.announceStop = s.hushed.raise (.voiceRefused id true) := by
  have ready : s.hushed.readyClip id = some c := hc
  have refused : s.hushed.claimVoice (stopClaim id) = none := by simp [State.claimVoice, stopClaim, hv]
  unfold State.announceStop
  dsimp only
  rw [State.fadeVoices_settings, h]
  dsimp only
  rw [← State.hushed, ready]
  dsimp only
  rw [← stopClaim, refused]

theorem State.announceStop_of_voice {i : Nat} (h : s.settings.stopClip = some id) (hc : s.readyClip id = some c)
    (hv : chooseVoice s.hushed.snd.voices 3 = some i) : s.announceStop = s.hushed.startVoice i (stopClaim id) c := by
  have ready : s.hushed.readyClip id = some c := hc
  have granted : s.hushed.claimVoice (stopClaim id) = some (s.hushed.startVoice i (stopClaim id) c, i) := by
    unfold State.claimVoice
    rw [show s.hushed.readyClip (stopClaim id).clip = some c from hc, show (stopClaim id).level = 3 from rfl, hv]
  unfold State.announceStop
  dsimp only
  rw [State.fadeVoices_settings, h]
  dsimp only
  rw [← State.hushed, ready]
  dsimp only
  rw [← stopClaim, granted]

end

end Sys2Proof.Machine
end

section
/-! PROOFS. What a stop reason that joins the set does (04 R64 to R67, 05 R115, 07 R153). -/

namespace Sys2Proof.Machine

/-! ### The reason's effect, case by case -/

section
variable {r : StopReason} {s : State} (hnew : r ∉ s.msv.reasons)
include hnew

theorem State.addReason_new :
    s.addReason r = (s.setMsv { s.msv with reasons := insertReason r s.msv.reasons }).reasonEffect r := by
  simp [State.addReason, hnew]

/-- An E reason only joins, with its notice, in PARKED and E_STOP (04 R66). -/
theorem State.addReason_notes (hr : r.isE = true) (hm : s.msv.motion = .parked ∨ s.msv.motion = .eStop) :
    s.addReason r = (s.setMsv { s.msv with reasons := insertReason r s.msv.reasons }).raise (.estop r) := by
  rw [State.addReason_new hnew, State.reasonEffect, if_pos hr]
  obtain hm | hm := hm <;> simp only [State.setMsv_msv, hm]

/-- An E reason enters E_STOP outside PARKED and E_STOP (04 R66). -/
theorem State.addReason_enters (hr : r.isE = true) (hp : s.msv.motion ≠ .parked) (he : s.msv.motion ≠ .eStop) :
    s.addReason r = (s.setMsv { s.msv with reasons := insertReason r s.msv.reasons }).enterEStop.raise (.estop r) := by
  rw [State.addReason_new hnew, State.reasonEffect, if_pos hr]
  cases hm : s.msv.motion
  case parked => exact absurd hm hp
  case eStop => exact absurd hm he
  all_goals simp only [State.setMsv_msv, hm]

/-- An S reason makes a vehicle in RUNNING or DWELL stop safely, with a notice unless the host asked (04 R64, R67). -/
theorem State.addReason_stops (hr : r.isE = false) (hm : s.msv.motion = .running ∨ s.msv.motion = .dwell) :
    let t := (s.setMsv { s.msv with reasons := insertReason r s.msv.reasons }).enterSafeStop
    s.addReason r = if r = .hostStop then t else t.raise (.motion .safeStop) := by
  rw [State.addReason_new hnew, State.reasonEffect, if_neg (by simp [hr])]
  obtain hm | hm := hm <;> simp only [State.setMsv_msv, hm]

/-- An S reason only joins elsewhere (04 R67). -/
theorem State.addReason_joins (hr : r.isE = false) (h1 : s.msv.motion ≠ .running) (h2 : s.msv.motion ≠ .dwell) :
    s.addReason r = s.setMsv { s.msv with reasons := insertReason r s.msv.reasons } := by
  rw [State.addReason_new hnew, State.reasonEffect, if_neg (by simp [hr])]
  cases hm : s.msv.motion
  case running => exact absurd hm h1
  case dwell => exact absurd hm h2
  all_goals simp only [State.setMsv_msv, hm]

end

/-! ### The entry to E_STOP -/

/-- The same notice at the same NTU leaves the same NTU. -/
theorem State.raise_ntu_congr {s t : State} (h : t.ntu = s.ntu) (n : Notice) : (t.raise n).ntu = (s.raise n).ntu := by
  simp only [State.raise, State.setNtu_ntu, h]

/-- The state in which the stop announcement of an entry to E_STOP is made: MSV stopped and every effect line off. -/
def State.stilled (s : State) : State :=
  (s.setMsv { s.msv with motion := .eStop, vCmd := 0, dwell := none, held := false, overspeed := 0 }).releaseLines
    (fun _ => true)

theorem State.enterEStop_eq (s : State) : s.enterEStop = s.stilled.announceStop := rfl

theorem State.enterEStop_cue (s : State) :
    s.enterEStop.cue = { s.cue with lines := s.cue.lines.map (fun _ => none) } := by
  rw [State.enterEStop_eq, State.announceStop_cue]
  simp [State.stilled, State.releaseLines]

/-- An announcement that starts voice `i` with clip `c` (07 R145, R153). -/
structure State.Announces (s t : State) (id : Nat) (c : Clip) (i : Nat) : Prop where
  snd : t.snd = { s.snd with
    voices := s.hushed.snd.voices.set i ⟨.playing, some id, 0, 0, false, ⟨true, true⟩, c.gain, c.gain, 3, .stopCall,
      s.snd.startCounter, false, [], false, false, if c.length = 0 then none else some ⟨0, min 128 c.length⟩⟩
    startCounter := t.snd.startCounter }
  counter : s.snd.startCounter + 1 < 2 ^ 48 → t.snd.startCounter = s.snd.startCounter + 1 ∧ t.free = s.free
  flp : t.flp = { s.flp with grant := t.flp.grant }
  ntu : t.ntu = State.ntu (if (s.voice i).state = .idle then s else s.raise (.voiceEnded i (s.voice i).owner))

/-- The first refill request of the stop clip (07 R147). -/
theorem stopClaim_request (id stamp : Nat) (c : Clip) : (Voice.started (stopClaim id) c stamp).request c =
    if c.length = 0 then none else some ⟨0, min 128 c.length⟩ := by
  have needs : (Voice.started (stopClaim id) c stamp).needsRefill c = decide (0 ≠ c.length) := by
    simp [Voice.needsRefill, Voice.sounding, Voice.loops, Voice.started, stopClaim]
  unfold Voice.request
  rw [needs]
  by_cases h : c.length = 0
  · rw [if_neg (by simp [h]), if_pos h]
    rfl
  · rw [if_pos (decide_eq_true (Ne.symm h)), if_neg h]
    rfl

section
variable {s : State} {id : Nat}

/-- What the announcement's voice owes: a PLAYING one below level 3 has begun to fade, so none is PREEMPTED (07 R145). -/
theorem State.hushed_yieldVoice {i : Nat} (hi : chooseVoice s.hushed.snd.voices 3 = some i) :
    (s.hushed.yieldVoice i).ntu =
      State.ntu (if (s.voice i).state = .idle then s else s.raise (.voiceEnded i (s.voice i).owner)) := by
  obtain ⟨v, hv, state⟩ := chooseVoice_yields hi
  have chosen : s.hushed.voice i = v := by simp [State.voice, hv]
  obtain ⟨idle, owner⟩ := s.hushed_voice i
  rw [chosen] at idle owner
  unfold State.yieldVoice
  rw [chosen, ← owner]
  obtain h | h | ⟨h, below⟩ := state
  · rw [h, if_pos (idle.1 h)]
    rfl
  · rw [h, if_neg fun h' => by simp [idle.2 h'] at h]
    exact State.raise_ntu_congr rfl _
  · exact absurd (s.hushed_level v (List.mem_of_getElem? hv) h) (Nat.not_le.2 below)

theorem State.announceStop_announces {i : Nat} {c : Clip} (h : s.settings.stopClip = some id)
    (hc : s.readyClip id = some c) (hi : chooseVoice s.hushed.snd.voices 3 = some i) :
    s.Announces s.announceStop id c i := by
  obtain ⟨v, hv, -⟩ := chooseVoice_yields hi
  have placed : i < s.hushed.snd.voices.length := (List.getElem?_eq_some_iff.1 hv).1
  have stored : Table.get s.hushed.flp.clips id = some c := (Option.filter_eq_some_iff.1 hc).1
  have gain : c.gain * 256 / 256 = c.gain := Nat.mul_div_cancel _ (by decide)
  have snd := State.startVoice_snd (q := stopClaim id) placed stored
  dsimp only at snd
  rw [stopClaim_request] at snd
  rw [State.announceStop_of_voice h hc hi]
  refine ⟨?_, fun hlt => ⟨?_, ?_⟩, (State.startVoice_sustains _ _ _ _).flp, ?_⟩
  · rw [snd]
    simp [Voice.started, stopClaim, gain, State.hushed, State.fadeVoices]
  · rw [snd]
    exact if_pos hlt
  · exact (State.startVoice_free _ _ _ _).trans (if_pos hlt)
  · rw [State.startVoice_ntu]
    exact State.hushed_yieldVoice hi

/-- No voice below level 3 plays on after the announcement (07 R153). -/
theorem State.announceStop_level (s : State) : ∀ v ∈ s.announceStop.snd.voices, v.state = .playing → 3 ≤ v.level := by
  cases h : s.settings.stopClip with
  | none => rw [State.announceStop_of_none h]; exact s.hushed_level
  | some id =>
    cases hc : s.readyClip id with
    | none => rw [State.announceStop_of_not_ready h hc]; exact s.hushed_level
    | some c =>
      cases hi : chooseVoice s.hushed.snd.voices 3 with
      | none => rw [State.announceStop_of_no_voice h hc hi]; exact s.hushed_level
      | some i =>
        rw [(State.announceStop_announces h hc hi).snd]
        intro v hv hp
        obtain hv | rfl := List.mem_or_eq_of_mem_set hv
        · exact s.hushed_level v hv hp
        · exact Nat.le_refl 3

end

/-- The state in which the entry to E_STOP for reason `r` makes its announcement; of the units that the announcement reads or
changes it has those of `s`. -/
def State.entering (r : StopReason) (s : State) : State :=
  (s.setMsv { s.msv with reasons := insertReason r s.msv.reasons }).stilled

/-- An entry to E_STOP whose announcement starts no voice and leaves NTU as `n` has it. -/
theorem silent_entry {s w n t : State} {r : StopReason} (ha : (s.entering r).announceStop = w)
    (ht : t = (s.entering r).announceStop.raise (.estop r)) (hw : SameBut [.ntu] (s.entering r).hushed w)
    (hntu : w.ntu = n.ntu) :
    t.snd = { s.snd with voices := s.hushed.snd.voices } ∧ t.flp = s.flp ∧ t.free = s.free ∧
      t.ntu = (n.raise (.estop r)).ntu := by
  rw [ht, ha]
  exact ⟨hw.same .snd, hw.same .flp, hw.same .free, State.raise_ntu_congr hntu _⟩

/-- Settles O32: a reason present, an E reason that only joins, an entry to E_STOP with its announcement, and an S reason. -/
theorem reasonsAct : Obligations.ReasonsAct := by
  intro s r
  refine ⟨fun h => by simp [State.addReason, h], fun hnew => ⟨fun x => State.mem_addReason r x s, fun hr hm => ?_,
    fun hr hp he => ?_, fun hr hm => ?_, fun hr h1 h2 => ?_⟩⟩
  · rw [State.addReason_notes hnew hr hm]
    exact ⟨by simp [sameBut_iff], rfl, rfl⟩
  · have entered : s.addReason r = (s.entering r).announceStop.raise (.estop r) := State.addReason_enters hnew hr hp he
    dsimp only
    rw [← s.hushed_voices]
    refine ⟨State.addReason_sameBut s r, ?_, ?_, ?_, fun hlen => ?_, fun h => ?_, fun id h => ⟨fun hc => ?_, fun c hc =>
      ⟨fun hv => ?_, fun i hi => ?_⟩⟩⟩
    · rw [entered, State.raise_msv, State.announceStop_msv]
      rfl
    · rw [entered, State.raise_cue]
      exact State.enterEStop_cue _
    · rw [entered]
      exact (s.entering r).announceStop_level
    · have raised := (s.entering r).announceStop_raisesOnly
      have recorded := State.source_raise (.estop r) (raised.length.trans hlen)
      rw [entered]
      exact recorded.trans (congrArg (Source.record _) (raised.source 1))
    · exact silent_entry (n := s) (State.announceStop_of_none h) entered (.refl _ _) rfl
    · exact silent_entry (State.announceStop_of_not_ready h hc) entered
        (State.raise_sameBut _ _) (State.raise_ntu_congr rfl _)
    · have noVoice : chooseVoice s.hushed.snd.voices 3 = none := by
        rw [s.hushed_voices]
        refine chooseVoice_eq_none fun v hv' => ?_
        obtain ⟨w, hw, rfl⟩ := List.mem_map.1 hv'
        have above := hv w hw
        rwa [if_neg fun hl => Nat.not_lt.2 above.2 hl.2]
      exact silent_entry (State.announceStop_of_no_voice h hc noVoice) entered
        (State.raise_sameBut _ _) (State.raise_ntu_congr rfl _)
    · have starts := State.announceStop_announces (s := s.entering r) h hc hi
      rw [entered]
      refine ⟨starts.snd, starts.counter, starts.flp, State.raise_ntu_congr (starts.ntu.trans ?_) _⟩
      change State.ntu (if (s.voice i).state = .idle then _ else _) = _
      split <;> rfl
  · rw [State.addReason_stops hnew hr hm]
    dsimp only
    split
    · rename_i h
      exact ⟨by simp [sameBut_iff, State.enterSafeStop], rfl, fun _ => rfl, fun h' => absurd h h'⟩
    · rename_i h
      exact ⟨by simp [sameBut_iff, State.enterSafeStop], rfl, fun h' => absurd h' h, fun _ => rfl⟩
  · rw [State.addReason_joins hnew hr h1 h2]
    exact ⟨by simp [sameBut_iff], rfl⟩

end Sys2Proof.Machine
end

section
/-! PROOFS. The requests of motion, taken and refused (04 R69 to R75). -/

namespace Sys2Proof.Machine

/-! ### What each request answers -/

section
variable {s : State}

theorem enableVehicle_stops (hm : s.msv.motion = .parked) (h : ∀ r ∈ s.msv.reasons, r.isE = false) :
    enableVehicle s = ok (s.setMsv { s.msv with motion := .stopped }) [1] := by
  rw [enableVehicle, if_neg (not_not.2 hm), firstE_eq_none.2 h]
  rfl

theorem enableVehicle_enters (hm : s.msv.motion = .parked) (h : ∃ r ∈ s.msv.reasons, r.isE = true) :
    ∃ r, enableVehicle s = ok (s.enterEStop.raise (.estop r)) [5] := by
  obtain ⟨r, hr⟩ := Option.ne_none_iff_exists'.1 (mt firstE_eq_none.1 (by simpa using h))
  refine ⟨r, ?_⟩
  rw [enableVehicle, if_neg (not_not.2 hm), hr]
  simp [State.motionBytes, u8, Motion.code]

/-- The vehicle as PARK leaves it, but for the permit (04 R70). -/
def State.parked (s : State) : State :=
  (s.setMsv { s.msv with motion := .parked, held := false, overspeed := 0 }).setGdu { s.gdu with delta := 0 }

theorem parkVehicle_taken (hm : s.msv.motion = .stopped ∨ s.msv.motion = .eStop) :
    parkVehicle s = ok s.parked.withdrawPermit [0] := by
  rw [parkVehicle, if_pos hm]
  simp [State.parked, State.motionBytes, u8, Motion.code]

/-- The vehicle as START leaves it, but for the permit (04 R71). -/
def State.started (s : State) : State :=
  (s.removeReason .hostStop).setMsv
    { (s.removeReason .hostStop).msv with motion := .running, held := false, overspeed := 0 }

theorem startVehicle_taken (hm : s.msv.motion = .stopped) (hbar : barringStart s.msv.reasons = [])
    (ha : s.pos.authority ≠ none) (hv : s.allVerified = true) :
    startVehicle s = ok s.started.withdrawPermit [2] := by
  rw [startVehicle, if_neg (not_not.2 hm), if_neg (not_not.2 hbar), if_neg (by simpa using ha), if_neg (by simp [hv])]
  simp [State.started, State.motionBytes, u8, Motion.code]

theorem startVehicle_notReady (hm : s.msv.motion = .stopped) (hbar : barringStart s.msv.reasons = [])
    (h : s.pos.authority = none ∨ s.allVerified = false) : startVehicle s = deny .notReady := by
  rw [startVehicle, if_neg (not_not.2 hm), if_neg (not_not.2 hbar)]
  obtain h | h := h <;> simp [h]

theorem startVehicle_barred (hm : s.msv.motion = .stopped) (hbar : barringStart s.msv.reasons ≠ []) :
    startVehicle s = .refuse .reasonsActive (reasonList (barringStart s.msv.reasons)) := by
  rw [startVehicle, if_neg (not_not.2 hm), if_pos hbar]

theorem stopVehicle_taken (hm : s.msv.motion ≠ .parked) :
    stopVehicle s = ok (s.addReason .hostStop) (s.addReason .hostStop).motionBytes := if_neg hm

/-- The vehicle as RESUME leaves it (04 R74). -/
def State.resumed (s : State) : State :=
  s.setMsv { s.msv with motion := .stopped, held := false, reasons := s.msv.reasons.filter (fun r => !r.isE) }

theorem resumeVehicle_taken (hm : s.msv.motion = .eStop) (hz : s.zeroSpeed = true)
    (h : s.msv.reasons.filter s.conditionRemains = []) :
    resumeVehicle s = ok s.resumed (1 :: reasonList s.resumed.msv.reasons) := by
  rw [resumeVehicle, if_neg (not_not.2 hm), if_neg (by simp [hz])]
  simp [h, State.resumed, State.motionBytes, u8, Motion.code]

theorem resumeVehicle_notReady (hm : s.msv.motion = .eStop) (hz : s.zeroSpeed = false) :
    resumeVehicle s = deny .notReady := by
  rw [resumeVehicle, if_neg (not_not.2 hm), if_pos (by simp [hz])]

theorem resumeVehicle_barred (hm : s.msv.motion = .eStop) (hz : s.zeroSpeed = true)
    (h : s.msv.reasons.filter s.conditionRemains ≠ []) :
    resumeVehicle s = .refuse .reasonsActive (reasonList (s.msv.reasons.filter s.conditionRemains)) := by
  rw [resumeVehicle, if_neg (not_not.2 hm), if_neg (by simp [hz])]
  exact if_pos h

theorem skipDwell_taken (hm : s.msv.motion = .dwell) :
    skipDwell s = ok (s.setMsv { s.msv with motion := .running, dwell := none, held := false }) [2] := by
  rw [skipDwell, if_neg (not_not.2 hm)]
  rfl

/-- A permit that is out is withdrawn with its notice (03 R56). -/
theorem State.withdrawPermit_ntu {s t : State} (hr : t.rsm = s.rsm) (hn : t.ntu = s.ntu) :
    t.withdrawPermit.ntu = if s.rsm.permit = none then s.ntu else (s.raise (.release .withdrawn)).ntu := by
  unfold State.withdrawPermit
  rw [← hr]
  split
  · rename_i out
    exact (State.raise_ntu_congr hn _).trans (if_neg fun h => by simp [h] at out).symm
  · rename_i kept
    exact hn.trans (if_pos (by simpa using kept)).symm

/-- STOP raises no notice (04 R64). -/
theorem State.addReason_hostStop_sameBut (s : State) : SameBut [.msv] s (s.addReason .hostStop) := by
  obtain ⟨h, e⟩ | ⟨-, h, -⟩ | ⟨-, h, -⟩ | ⟨hnew, -, hm, -⟩ | ⟨-, -, -, -, e⟩ := s.addReason_cases .hostStop
  · rw [e]
    exact .refl _ _
  · cases h
  · cases h
  · rw [State.addReason_stops hnew rfl hm]
    simp [sameBut_iff, State.enterSafeStop]
  · simp [e, sameBut_iff]

/-- An S reason leaves the motion state, or makes a vehicle in RUNNING or DWELL stop safely (04 R67). -/
theorem State.addReason_motion_of_isS {r : StopReason} (hr : r.isE = false) (s : State) :
    (s.addReason r).msv.motion = s.msv.motion ∨
    (s.msv.motion = .running ∨ s.msv.motion = .dwell) ∧ (s.addReason r).msv.motion = .safeStop := by
  obtain ⟨-, e⟩ | ⟨-, h, -⟩ | ⟨-, h, -⟩ | ⟨-, -, hm, e | e⟩ | ⟨-, -, -, -, e⟩ := s.addReason_cases r
  · exact .inl (by rw [e])
  · simp [hr] at h
  · simp [hr] at h
  · exact .inr ⟨hm, by simp [e]⟩
  · exact .inr ⟨hm, by simp [e]⟩
  · exact .inl (by simp [e])

end

/-! ### The stop reasons once the frame has been heard (04 R88) -/

section
variable {s : State}

theorem barringStart_heard : barringStart s.hearFrame.msv.reasons =
    s.msv.reasons.filter (fun r => r ≠ .hostStop ∧ r ≠ .linkLost) := by
  simp [barringStart, List.filter_filter]

theorem barringStart_heard_eq_nil :
    barringStart s.hearFrame.msv.reasons = [] ↔ ∀ r ∈ s.msv.reasons, r = .hostStop ∨ r = .linkLost := by
  rw [barringStart_heard, List.filter_eq_nil_iff]
  simp [or_iff_not_imp_left]

/-- The condition of LINK_LOST is not asked for, so the frame leaves the conditions that remain (04 R74). -/
theorem conditionRemains_heard :
    s.hearFrame.msv.reasons.filter s.hearFrame.conditionRemains = s.msv.reasons.filter s.conditionRemains := by
  have same : s.hearFrame.conditionRemains = s.conditionRemains := by
    funext r
    cases r <;> rfl
  rw [same, State.hearFrame_msv]
  dsimp only
  rw [List.filter_filter]
  refine List.filter_congr fun r _ => ?_
  cases r <;> simp [State.conditionRemains]

end

/-! ### The frame of the answer -/

theorem entersEStop_of_ne {s t : State} (h : t.msv.motion ≠ .eStop) : entersEStop s t = false := by
  simp [entersEStop, h]

/-- A request that is refused (09 R173, 10 R187). -/
theorem request_answers_refused {s : State} {kind key : Nat} {act : State → Answer} {st : Status} {p : List Byte}
    (hl : s.listening) (ha : act s.hearFrame = .refuse st p) :
    Answers s (request kind key act s) [] st kind key false false p := by
  rw [request_refuse hl.1 hl.2 ha]
  exact ⟨rfl, fun _ => rfl, (s.hearFrame_sameBut.mono (by simp)).trans ((State.respond_sameBut _ _ _ _ _ _ _).mono (by simp))⟩

/-- A request of motion taken, that enters E_STOP or not. -/
structure Taken (s t u : State) (bs : List Block) (kind key : Nat) (e : Bool) (p : List Byte) : Prop where
  answers : Answers s t bs .ok kind key false e p
  rest : SameBut [.port] u t

theorem request_taken {s u : State} {bs : List Block} {kind key : Nat} {act : State → Answer} {e : Bool} {p : List Byte}
    (hl : s.listening) (ha : act s.hearFrame = ok u p) (hf : SameBut bs s.hearFrame u)
    (he : entersEStop s.hearFrame u = e) (hport : .port ∉ bs := by decide) :
    Taken s (request kind key act s) u bs kind key e p := by
  refine ⟨he ▸ request_answers hl ha hf hport, ?_⟩
  rw [request_take hl.1 hl.2 ha]
  exact State.respond_sameBut _ _ _ _ _ _ _

/-- Settles O34, request by request. -/
theorem motionRequests : Obligations.MotionRequests := by
  intro s key hl
  refine ⟨fun hm hE => ?_, fun hm hE => ?_, fun hm => ?_, fun hm hbar ha hv => ?_, fun hm => ?_, fun hnew => ?_,
    fun hm hz hc => ?_, fun hm => ?_, fun c kind hc => ?_, fun hm hbar h => ?_, fun hm hbar => ?_, fun hm hz => ?_,
    fun hm hz hc => ?_⟩
  · have heard : ∀ r ∈ s.hearFrame.msv.reasons, r.isE = false := fun r hr => hE r (List.mem_filter.1 hr).1
    have taken := request_taken (key := key) (kind := 0x20) hl (enableVehicle_stops hm heard)
      (bs := [.msv]) (by simp [sameBut_iff]) (entersEStop_of_ne nofun)
    exact ⟨_, rfl, taken.answers, taken.rest.msv⟩
  · have heard : ∃ r ∈ s.hearFrame.msv.reasons, r.isE = true := by
      obtain ⟨r, hr, he⟩ := hE
      exact ⟨r, List.mem_filter.2 ⟨hr, by cases r <;> simp_all [StopReason.isE]⟩, he⟩
    obtain ⟨r, ha⟩ := enableVehicle_enters (s := s.hearFrame) hm heard
    have frame : SameBut [.msv, .cue, .flp, .snd, .ntu, .free] s.hearFrame (s.hearFrame.enterEStop.raise (.estop r)) := by
      simpa [ha] using enableVehicle_frame s.hearFrame
    have enters : entersEStop s.hearFrame (s.hearFrame.enterEStop.raise (.estop r)) = true := by
      simp [entersEStop, hm]
    have taken := request_taken (key := key) (kind := 0x20) hl ha frame enters
    refine ⟨_, rfl, taken.answers, taken.rest.msv.trans ?_, (taken.rest.same .cue).trans s.hearFrame.enterEStop_cue⟩
    rw [State.raise_msv, State.enterEStop_msv]
    rfl
  · have frame : SameBut [.msv, .gdu, .rsm, .ntu] s.hearFrame s.hearFrame.parked.withdrawPermit :=
      (show SameBut [.msv, .gdu] s.hearFrame s.hearFrame.parked by simp [sameBut_iff, State.parked]).append
        (State.withdrawPermit_sameBut _)
    have taken := request_taken (key := key) (kind := 0x21) hl (parkVehicle_taken (s := s.hearFrame) hm) frame
      (entersEStop_of_ne (by simp [State.parked]))
    refine ⟨_, rfl, taken.answers, ?_, ?_, ?_, ?_⟩
    · exact taken.rest.msv.trans s.hearFrame.parked.withdrawPermit_msv
    · exact taken.rest.gdu.trans s.hearFrame.parked.withdrawPermit_sameBut.gdu
    · exact (taken.rest.same .rsm).trans s.hearFrame.parked.withdrawPermit_rsm
    · exact taken.rest.ntu.trans (State.withdrawPermit_ntu (by simp [State.parked]) (by simp [State.parked]))
  · have unbarred := barringStart_heard_eq_nil.2 hbar
    have frame : SameBut [.msv, .rsm, .ntu] s.hearFrame s.hearFrame.started.withdrawPermit :=
      (show SameBut [.msv] s.hearFrame s.hearFrame.started by simp [sameBut_iff, State.started, State.removeReason]).append
        (State.withdrawPermit_sameBut _)
    have taken := request_taken (key := key) (kind := 0x23) hl (startVehicle_taken (s := s.hearFrame) hm unbarred ha hv)
      frame (entersEStop_of_ne (by simp [State.started]))
    refine ⟨_, rfl, taken.answers, ?_, ?_, ?_⟩
    · refine (taken.rest.msv.trans s.hearFrame.started.withdrawPermit_msv).trans ?_
      rw [← unbarred]
      rfl
    · exact (taken.rest.same .rsm).trans s.hearFrame.started.withdrawPermit_rsm
    · have started : SameBut [.port, .msv] s s.hearFrame.started := by simp [sameBut_iff, State.started, State.removeReason]
      exact taken.rest.ntu.trans (State.withdrawPermit_ntu (started.same .rsm) started.ntu)
  · have frame := s.hearFrame.addReason_hostStop_sameBut
    have motion := State.addReason_motion_of_isS (r := .hostStop) rfl s.hearFrame
    have calm : entersEStop s.hearFrame (s.hearFrame.addReason .hostStop) = false := by
      obtain same | ⟨-, stops⟩ := motion
      · exact entersEStop_of_motion same
      · exact entersEStop_of_ne (by simp [stops])
    have taken := request_taken (key := key) (kind := 0x24) hl (stopVehicle_taken (s := s.hearFrame) hm) frame calm
    refine ⟨_, rfl, ?_⟩
    rw [taken.rest.msv]
    refine ⟨taken.answers, by simp, fun hnew hm => ?_, fun hm => motion.resolve_right fun h => ?_⟩
    · exact State.addReason_motion_of_moving rfl (not_mem_heard hnew) (by rcases hm with hm | hm <;> simp [hm, Motion.moving])
    · rcases hm with hm | hm | hm <;> simp [hm] at h
  · have motion : (s.hearFrame.addReason .hostEstop).msv.motion = if s.msv.motion = .parked then .parked else .eStop := by
      split
      · rename_i hm
        rw [State.addReason_notes (s := s.hearFrame) (not_mem_heard hnew) rfl (.inl hm)]
        exact hm
      · rename_i hm
        exact State.addReason_motion_of_isE rfl (not_mem_heard hnew) hm
    have enters : entersEStop s.hearFrame (s.hearFrame.addReason .hostEstop) =
        decide (s.msv.motion ≠ .parked ∧ s.msv.motion ≠ .eStop) := by
      rw [entersEStop, motion]
      by_cases hm : s.msv.motion = .parked <;> simp [hm]
    have taken := request_taken (key := key) (kind := 0x25) (act := estopVehicle) hl rfl (State.addReason_sameBut _ _) enters
    refine ⟨_, rfl, ?_⟩
    rw [taken.rest.msv]
    exact ⟨taken.answers, by simp, motion⟩
  · have remaining : s.hearFrame.msv.reasons.filter s.hearFrame.conditionRemains = [] := by
      rw [conditionRemains_heard, List.filter_eq_nil_iff]
      simpa using hc
    have taken := request_taken (key := key) (kind := 0x26) hl (resumeVehicle_taken (s := s.hearFrame) hm hz remaining)
      (bs := [.msv]) (by simp [sameBut_iff, State.resumed]) (entersEStop_of_ne nofun)
    refine ⟨_, rfl, ?_⟩
    rw [taken.rest.msv]
    exact ⟨rfl, taken.answers, rfl, rfl⟩
  · have taken := request_taken (key := key) (kind := 0x27) hl (skipDwell_taken (s := s.hearFrame) hm)
      (bs := [.msv]) (by simp [sameBut_iff]) (entersEStop_of_ne nofun)
    exact ⟨_, rfl, taken.answers, taken.rest.msv⟩
  · obtain ⟨rfl, rfl, hm⟩ | ⟨rfl, rfl, h1, h2⟩ | ⟨rfl, rfl, hm⟩ | ⟨rfl, rfl, hm⟩ | ⟨rfl, rfl, hm⟩ | ⟨rfl, rfl, hm⟩ := hc
    · exact ⟨_, rfl, request_answers_refused hl (if_pos hm)⟩
    · exact ⟨_, rfl, request_answers_refused hl (if_neg (not_or.2 ⟨h1, h2⟩))⟩
    · exact ⟨_, rfl, request_answers_refused hl (if_pos hm)⟩
    · exact ⟨_, rfl, request_answers_refused hl (if_pos hm)⟩
    · exact ⟨_, rfl, request_answers_refused hl (if_pos hm)⟩
    · exact ⟨_, rfl, request_answers_refused hl (if_pos hm)⟩
  · exact ⟨_, rfl, request_answers_refused hl
      (startVehicle_notReady (s := s.hearFrame) hm (barringStart_heard_eq_nil.2 hbar) h)⟩
  · have barred : barringStart s.hearFrame.msv.reasons ≠ [] := by
      rw [Ne, barringStart_heard_eq_nil]
      simpa using hbar
    rw [← barringStart_heard]
    exact ⟨_, rfl, request_answers_refused hl (startVehicle_barred (s := s.hearFrame) hm barred)⟩
  · exact ⟨_, rfl, request_answers_refused hl (resumeVehicle_notReady (s := s.hearFrame) hm hz)⟩
  · have remaining : s.hearFrame.msv.reasons.filter s.hearFrame.conditionRemains ≠ [] := by
      rw [conditionRemains_heard, Ne, List.filter_eq_nil_iff]
      simpa using hc
    rw [← conditionRemains_heard]
    exact ⟨_, rfl, request_answers_refused hl (resumeVehicle_barred (s := s.hearFrame) hm hz remaining)⟩

end Sys2Proof.Machine
end

section
/-! SUPPORT. The speed stage part by part (04 R76 to R86): what a sample does to the speed before it, what its checks leave, and
what its ramp, its held test and its rest step do. -/

namespace Sys2Proof.Machine

/-! ### Before the speed stage -/

/-- The vehicle keeps its speed command and over-speed count, or has stopped in E_STOP; it does not leave E_STOP nor enter
RUNNING; supply-low and, in RUNNING, the held flag stand. -/
structure State.Coasts (s t : State) : Prop where
  speed : (t.msv.vCmd = s.msv.vCmd ∧ t.msv.overspeed = s.msv.overspeed) ∨ (t.msv.motion = .eStop ∧ t.msv.vCmd = 0)
  eStop : s.msv.motion = .eStop → t.msv.motion = .eStop
  running : t.msv.motion = .running → s.msv.motion = .running ∧ t.msv.held = s.msv.held
  supplyLow : t.msv.supplyLow = s.msv.supplyLow

namespace State.Coasts

variable {s t u : State}

theorem of_msv (hm : t.msv = s.msv) : s.Coasts t := by
  constructor <;> simp [hm]

theorem trans (h : s.Coasts t) (h' : t.Coasts u) : s.Coasts u where
  speed := by
    obtain ⟨v, n⟩ | still := h'.speed
    · rw [v, n]
      exact h.speed.imp_right fun ⟨hm, hv⟩ => ⟨h'.eStop hm, hv⟩
    · exact .inr still
  eStop := h'.eStop ∘ h.eStop
  running hm := ⟨(h.running (h'.running hm).1).1, (h'.running hm).2.trans (h.running (h'.running hm).1).2⟩
  supplyLow := h'.supplyLow.trans h.supplyLow

end State.Coasts

theorem State.addReason_coasts (r : StopReason) (s : State) : s.Coasts (s.addReason r) := by
  obtain ⟨-, e⟩ | ⟨-, -, -, e⟩ | ⟨-, -, -, -, e⟩ | ⟨-, -, hm, e | e⟩ | ⟨-, -, -, -, e⟩ := s.addReason_cases r
  case inr.inr.inl => constructor <;> simp [e]
  case inr.inr.inr.inl.inl | inr.inr.inr.inl.inr =>
    have moves : s.msv.motion ≠ .eStop := by rcases hm with hm | hm <;> simp [hm]
    constructor <;> simp [e, moves]
  all_goals constructor <;> simp [e]

theorem State.requestDwell_coasts {s t : State} {ms : Nat} (h : s.requestDwell ms = some t) : s.Coasts t := by
  unfold State.requestDwell at h
  cases hm : s.msv.motion <;> simp only [hm] at h <;> cases h
  all_goals constructor <;> simp [hm]

theorem coasts_closed : MotionClosed State.Coasts where
  trans := .trans
  calm hm _ _ := .of_msv hm
  join s r := State.addReason_coasts r s
  leave _ _ := ⟨.inl ⟨rfl, rfl⟩, id, fun h => ⟨h, rfl⟩, rfl⟩
  dwell := State.requestDwell_coasts

/-- What stop reasons leave of a dwell that goes on. -/
def State.Dwells (s t : State) : Prop :=
  t.msv.motion = .dwell → s.msv.motion = .dwell ∧ t.msv.dwell = s.msv.dwell

theorem State.addReason_dwells (r : StopReason) (s : State) : s.Dwells (s.addReason r) := by
  unfold State.Dwells
  obtain ⟨-, e⟩ | ⟨-, -, -, e⟩ | ⟨-, -, -, -, e⟩ | ⟨-, -, -, e | e⟩ | ⟨-, -, -, -, e⟩ := s.addReason_cases r
  all_goals simp [e]

theorem dwells_closed : ReasonClosed State.Dwells where
  trans h h' hm := ⟨(h (h' hm).1).1, (h' hm).2.trans (h (h' hm).1).2⟩
  calm hm _ _ h := ⟨hm ▸ h, by rw [hm]⟩
  join s r := State.addReason_dwells r s
  leave _ _ h := ⟨h, rfl⟩

/-- A new E reason outside PARKED and E_STOP enters E_STOP with v_cmd 0 (04 R66). -/
theorem State.addReason_eStop {r : StopReason} {s : State} (hr : r.isE = true) (hnew : r ∉ s.msv.reasons)
    (hp : s.msv.motion ≠ .parked) (he : s.msv.motion ≠ .eStop) :
    (s.addReason r).msv.motion = .eStop ∧ (s.addReason r).msv.vCmd = 0 := by
  simp [State.addReason_enters hnew hr hp he]

/-! ### The checks (04 R76, R79) -/

/-- A sample at which the over-speed check adds OVERSPEED: the third over-speed one in a row (04 R76). -/
def State.overspeeds (s : State) : Prop :=
  s.msv.motion ≠ .parked ∧ s.msv.motion ≠ .eStop ∧
    s.measuredSpeed > ((s.msv.vCmd + s.settings.overspeedTol : Nat) : Int) ∧ 2 ≤ s.msv.overspeed

/-- The count after the over-speed check (04 R76). -/
def State.nextOverspeed (s : State) : Nat :=
  if s.msv.motion = .parked ∨ s.msv.motion = .eStop then 0
  else if s.measuredSpeed > ((s.msv.vCmd + s.settings.overspeedTol : Nat) : Int) ∧ s.msv.overspeed < 2 then
    s.msv.overspeed + 1
  else 0

/-- MSV with the over-speed check's count. -/
def State.recounted (s : State) : State := s.setMsv { s.msv with overspeed := s.nextOverspeed }

theorem State.overspeedCheck_overspeeds {s : State} (h : s.overspeeds) :
    s.overspeedCheck = s.recounted.addReason .overspeed := by
  obtain ⟨hp, he, fast, third⟩ := h
  have count : s.nextOverspeed = 0 := by simp [State.nextOverspeed, Nat.not_lt.2 third]
  rw [State.overspeedCheck, if_neg (not_or.2 ⟨hp, he⟩), if_pos fast, if_pos third, State.recounted, count]

theorem State.overspeedCheck_counts {s : State} (h : ¬ s.overspeeds) : s.overspeedCheck = s.recounted := by
  unfold State.overspeedCheck State.recounted State.nextOverspeed
  by_cases hm : s.msv.motion = .parked ∨ s.msv.motion = .eStop
  · rw [if_pos hm, if_pos hm]
  · rw [if_neg hm, if_neg hm]
    by_cases fast : s.measuredSpeed > ((s.msv.vCmd + s.settings.overspeedTol : Nat) : Int)
    · have less : s.msv.overspeed < 2 := Nat.not_le.1 fun third => h ⟨mt .inl hm, mt .inr hm, fast, third⟩
      rw [if_pos fast, if_neg (Nat.not_le.2 less), if_pos ⟨fast, less⟩]
    · rw [if_neg fast, if_neg fun h' => fast h'.1]

/-- The over-speed check counts, or it enters E_STOP with a new OVERSPEED. -/
theorem State.overspeedCheck_cases (s : State) : s.overspeedCheck = s.recounted ∨
    s.overspeeds ∧ s.overspeedCheck.msv.motion = .eStop ∧ s.overspeedCheck.msv.vCmd = 0 := by
  by_cases h : s.overspeeds
  · rw [State.overspeedCheck_overspeeds h]
    by_cases hnew : .overspeed ∈ s.recounted.msv.reasons
    · exact .inl (by simp [State.addReason, hnew])
    · exact .inr ⟨h, State.addReason_eStop rfl hnew h.1 h.2.1⟩
  · exact .inl (State.overspeedCheck_counts h)

/-- A new AUTHORITY_OVERRUN stops the vehicle in E_STOP (04 R79). -/
theorem State.overrunCheck_new {s : State} (hm : s.msv.motion.moving = true)
    (hv : s.vAuth + s.settings.overspeedTol < s.msv.vCmd) (hnew : .authorityOverrun ∉ s.msv.reasons) :
    s.overrunCheck.msv.motion = .eStop ∧ s.overrunCheck.msv.vCmd = 0 ∧ .authorityOverrun ∈ s.overrunCheck.msv.reasons := by
  have adds : s.overrunCheck = s.addReason .authorityOverrun := by simp [State.overrunCheck, hm, hv]
  have hp : s.msv.motion ≠ .parked := fun h => by rw [h] at hm; cases hm
  obtain ⟨motion, speed⟩ := State.addReason_eStop rfl hnew hp (moving_ne_eStop hm)
  rw [adds]
  exact ⟨motion, speed, by simp⟩

theorem State.overrunCheck_still {s : State} (hm : s.msv.motion.moving = false) : s.overrunCheck = s := by
  simp [State.overrunCheck, hm]

theorem State.overrunCheck_cases (s : State) :
    s.overrunCheck = s ∨ s.overrunCheck.msv.motion = .eStop ∧ s.overrunCheck.msv.vCmd = 0 := by
  by_cases hm : s.msv.motion.moving = true
  · by_cases hv : s.vAuth + s.settings.overspeedTol < s.msv.vCmd
    · by_cases hnew : .authorityOverrun ∈ s.msv.reasons
      · exact .inl (by simp [State.overrunCheck, State.addReason, hnew])
      · obtain ⟨motion, speed, -⟩ := State.overrunCheck_new hm hv hnew
        exact .inr ⟨motion, speed⟩
    · exact .inl (by simp [State.overrunCheck, hv])
  · exact .inl (State.overrunCheck_still (by simpa using hm))

/-- The two checks of a sample, once its distance has entered the window. -/
def State.checked (s : State) : State := s.overspeedCheck.overrunCheck

/-- The checks leave the sample's count, or the vehicle in E_STOP. -/
theorem State.checked_cases (s : State) : s.checked = s.recounted ∨ s.checked.msv.motion = .eStop ∧ s.checked.msv.vCmd = 0 := by
  unfold State.checked
  obtain counts | ⟨-, motion, speed⟩ := s.overspeedCheck_cases
  · rw [counts]
    exact s.recounted.overrunCheck_cases
  · rw [State.overrunCheck_still (by rw [motion]; rfl)]
    exact .inr ⟨motion, speed⟩

theorem State.checked_settings (s : State) : s.checked.settings = s.settings :=
  (State.overrunCheck_sameBut _).settings.trans (State.overspeedCheck_sameBut s).settings

/-! ### The ramp, the held test and the rest step (04 R80, R81, R85, R86) -/

/-- The held flag after the held test (04 R81). -/
def State.nextHeld (s : State) : Bool :=
  if s.msv.motion = .running ∧ s.msv.vCmd = 0 ∧ s.vAuth = 0 then true else if 0 < s.msv.vCmd then false else s.msv.held

theorem State.heldTest_msv (s : State) : s.heldTest.msv = { s.msv with held := s.nextHeld } := by
  unfold State.heldTest State.nextHeld
  split
  · split
    · rename_i held
      rw [← held]
    · rfl
  · split <;> rfl

/-- AUTHORITY HELD is noted once, when the flag is set (04 R81). -/
theorem State.heldTest_ntu (s : State) : s.heldTest.ntu =
    if (s.msv.motion = .running ∧ s.msv.vCmd = 0 ∧ s.vAuth = 0) ∧ s.msv.held = false then (s.raise .held).ntu else s.ntu := by
  unfold State.heldTest
  split
  · cases s.msv.held <;> simp_all [State.raise]
  · split <;> simp_all

/-- What the held test does in RUNNING (04 R81). -/
theorem State.heldTest_running {s : State} (hm : s.msv.motion = .running) (hlen : s.ntu.sources.length = 12) :
    (s.msv.vCmd = 0 → s.vAuth = 0 → s.heldTest.msv.held = true ∧
      s.heldTest.source 4 = if s.msv.held = true then s.source 4 else Source.record .held (s.source 4)) ∧
    (s.msv.vCmd = 0 → 0 < s.vAuth → s.heldTest.msv.held = s.msv.held ∧ s.heldTest.source 4 = s.source 4) ∧
    (0 < s.msv.vCmd → s.heldTest.msv.held = false ∧ s.heldTest.source 4 = s.source 4) := by
  have source {n : State} (h : s.heldTest.ntu = n.ntu) : s.heldTest.source 4 = n.source 4 := by
    rw [State.source, h]
    rfl
  rw [State.heldTest_msv]
  refine ⟨fun hv ha => ⟨if_pos ⟨hm, hv, ha⟩, ?_⟩, fun hv ha => ⟨?_, source ?_⟩, fun hv => ⟨?_, source ?_⟩⟩
  · split
    · rename_i held
      exact source ((State.heldTest_ntu s).trans (if_neg (by simp [held])))
    · rename_i held
      have noted : s.heldTest.ntu = (s.raise .held).ntu :=
        (State.heldTest_ntu s).trans (if_pos ⟨⟨hm, hv, ha⟩, by simpa using held⟩)
      exact (source noted).trans (State.source_raise .held hlen)
  · exact (if_neg fun h => by omega).trans (if_neg (by omega))
  · exact (State.heldTest_ntu s).trans (if_neg fun h => by omega)
  · exact (if_neg fun h => by omega).trans (if_pos hv)
  · exact (State.heldTest_ntu s).trans (if_neg fun h => by omega)

/-- At speed 0 a RAMPING dwell begins to hold and SAFE_STOP ends; otherwise the rest step does nothing (04 R85, R86). -/
theorem State.restStep_cases (s : State) : s.restStep = s ∨
    (s.msv.vCmd = 0 ∧ s.msv.motion = .dwell ∧ ∃ ms, s.msv.dwell = some (.ramping ms) ∧
      s.restStep = s.setMsv { s.msv with dwell := some (.holding (s.after ms)) }) ∨
    (s.msv.vCmd = 0 ∧ s.msv.motion = .safeStop ∧
      s.restStep = (s.setMsv { s.msv with motion := .stopped }).raise (.motion .stopped)) := by
  unfold State.restStep
  split
  · exact .inl rfl
  · rename_i hv
    split
    · rename_i ms hm hd
      exact .inr (.inl ⟨not_not.1 hv, hm, ms, hd, rfl⟩)
    · rename_i hm
      exact .inr (.inr ⟨not_not.1 hv, hm, rfl⟩)
    · exact .inl rfl

theorem State.restStep_running {s : State} (hm : s.msv.motion = .running) : s.restStep = s := by
  obtain e | ⟨-, h, -⟩ | ⟨-, h, -⟩ := s.restStep_cases
  · exact e
  · simp [hm] at h
  · simp [hm] at h

theorem State.restStep_fast {s : State} (h : s.msv.vCmd ≠ 0) : s.restStep = s := if_pos h

theorem State.restStep_safeStop {s : State} (hv : s.msv.vCmd = 0) (hm : s.msv.motion = .safeStop) :
    s.restStep = (s.setMsv { s.msv with motion := .stopped }).raise (.motion .stopped) := by
  rw [State.restStep, if_neg (not_not.2 hv), hm]

theorem State.restStep_ramping {s : State} {ms : Nat} (hv : s.msv.vCmd = 0) (hm : s.msv.motion = .dwell)
    (hd : s.msv.dwell = some (.ramping ms)) :
    s.restStep = s.setMsv { s.msv with dwell := some (.holding (s.after ms)) } := by
  rw [State.restStep, if_neg (not_not.2 hv), hm, hd]

theorem State.restStep_holding {s : State} {e : Nat} (hd : s.msv.dwell = some (.holding e))
    (hm : s.msv.motion = .dwell) : s.restStep = s := by
  rw [State.restStep, hm, hd]
  split <;> rfl

/-- What follows the checks in a sample. -/
def State.settled (s : State) : State := s.ramp.heldTest.restStep

theorem State.speedStage_eq (ds : Int) (s : State) : s.speedStage ds = (s.windowStep ds).checked.settled := rfl

/-- The speed after the ramp (04 R80). -/
def State.ramped (s : State) : Nat := if s.msv.motion.moving then rampTo s.settings s.msv.vCmd s.vCeil else 0

/-- What the rest of a sample leaves of MSV: the ramp's speed, and the motion state but for a SAFE_STOP that ends. -/
structure State.Settles (s t : State) : Prop where
  vCmd : t.msv.vCmd = s.ramped
  reasons : t.msv.reasons = s.msv.reasons
  overspeed : t.msv.overspeed = s.msv.overspeed
  held : t.msv.held = s.ramp.nextHeld
  motion : t.msv.motion = s.msv.motion ∨ s.msv.motion = .safeStop ∧ s.ramped = 0 ∧ t.msv.motion = .stopped

/-- MSV before the rest step. -/
theorem State.ramp_heldTest_msv (s : State) :
    s.ramp.heldTest.msv = { s.msv with vCmd := s.ramped, held := s.ramp.nextHeld } := by
  rw [State.heldTest_msv, State.ramp_msv]
  rfl

theorem State.settled_settles (s : State) : s.Settles s.settled := by
  have msv := s.ramp_heldTest_msv
  unfold State.settled
  obtain e | ⟨-, -, _, -, e⟩ | ⟨hv, hm, e⟩ := s.ramp.heldTest.restStep_cases
  · rw [e]
    constructor <;> simp [msv]
  · rw [e]
    constructor <;> simp [msv]
  · rw [msv] at hv hm
    rw [e]
    constructor <;> simp [msv]
    exact .inr ⟨hm, hv⟩

namespace State.Settles

variable {s t : State} (h : s.Settles t)
include h

/-- A motion state that the rest of the sample does not make is the one before it. -/
theorem motion_of_ne (hm : t.msv.motion ≠ .stopped) : s.msv.motion = t.msv.motion :=
  (h.motion.resolve_right fun h' => hm h'.2.2).symm

theorem eStop (hm : s.msv.motion = .eStop) : t.msv.motion = .eStop ∧ t.msv.vCmd = 0 := by
  refine ⟨(h.motion.resolve_right fun h' => by simp [hm] at h').trans hm, h.vCmd.trans ?_⟩
  simp [State.ramped, hm, Motion.moving]

/-- The rest of a sample does not end in a state that moves unless it began in it. -/
theorem moving (hm : t.msv.motion.moving = true) : s.msv.motion = t.msv.motion :=
  h.motion_of_ne fun e => by rw [e] at hm; cases hm

theorem still (hm : t.msv.motion.moving = false) : t.msv.vCmd = 0 := by
  obtain e | ⟨-, hv, -⟩ := h.motion
  · rw [h.vCmd, State.ramped, ← e, hm]
    rfl
  · exact h.vCmd.trans hv

end State.Settles

end Sys2Proof.Machine
end

section
/-! PROOFS. The speed command rises by the ramp only, and is cut to 0 only to stand (04 R63, R66, R80). -/

namespace Sys2Proof.Machine

/-! ### The guidance sample -/

/-- A guidance sample up to the checks of its speed stage (01 R14, 02, 04 R76). -/
def State.toSpeed (encoder : Int) (s : State) : State := (s.positionStep.1.guide encoder).windowStep s.positionStep.2

theorem State.toSpeed_coasts (encoder : Int) (s : State) : s.Coasts (s.toSpeed encoder) :=
  (coasts_closed.guided encoder s).trans ⟨.inl ⟨rfl, rfl⟩, id, fun h => ⟨h, rfl⟩, rfl⟩

theorem State.toSpeed_settings (encoder : Int) (s : State) : (s.toSpeed encoder).settings = s.settings :=
  (State.guide_sameBut _ encoder).settings.trans s.positionStep_settings

theorem guidanceSample_settles (encoder : Int) (current : Nat) (s : State) :
    (s.toSpeed encoder).checked.Settles (guidanceSample encoder current s) := by
  have msv : (guidanceSample encoder current s).msv = (s.toSpeed encoder).checked.settled.msv :=
    (guidanceSample_afterSpeed s encoder current).msv
  obtain ⟨vCmd, reasons, overspeed, held, motion⟩ := (s.toSpeed encoder).checked.settled_settles
  constructor <;> rwa [msv]

/-- The ramp starts from the speed before the sample, unless the sample has stopped the vehicle. -/
theorem State.toSpeed_checked (encoder : Int) (s : State) :
    (s.toSpeed encoder).checked.msv.motion = .eStop ∨ (s.toSpeed encoder).checked.msv.vCmd = s.msv.vCmd := by
  obtain keeps | ⟨motion, -⟩ := (s.toSpeed encoder).checked_cases
  · rw [keeps]
    exact (s.toSpeed_coasts encoder).speed.symm.imp And.left And.left
  · exact .inl motion

/-- What a sample adds to the speed, and what it takes from it while the vehicle moves (04 R80). -/
theorem guidanceSample_vCmd (encoder : Int) (current : Nat) (s : State) :
    (guidanceSample encoder current s).msv.vCmd ≤ s.msv.vCmd + s.settings.stepUp ∧
    ((guidanceSample encoder current s).msv.motion.moving = true →
      s.msv.vCmd - s.settings.stepDown ≤ (guidanceSample encoder current s).msv.vCmd) := by
  have settles := guidanceSample_settles encoder current s
  have settings := (s.toSpeed encoder).checked_settings.trans (s.toSpeed_settings encoder)
  obtain stopped | speed := s.toSpeed_checked encoder
  · obtain ⟨motion, speed⟩ := settles.eStop stopped
    rw [motion, speed]
    exact ⟨Nat.zero_le _, nofun⟩
  · refine ⟨?_, fun hm => ?_⟩
    · rw [settles.vCmd, State.ramped, settings, speed]
      split
      · exact rampTo_le_add _ _ _
      · exact Nat.zero_le _
    · rw [settles.vCmd, State.ramped, settings, speed, settles.moving hm, if_pos hm]
      exact sub_le_rampTo _ _ _

/-! ### The other commands -/

/-- The speed command stands, or is 0 in a vehicle that does not move. -/
def State.Stands (s t : State) : Prop := t.msv.vCmd = s.msv.vCmd ∨ t.msv.vCmd = 0 ∧ t.msv.motion.moving = false

theorem State.Coasts.stands {s t : State} (h : s.Coasts t) : s.Stands t :=
  h.speed.imp And.left fun ⟨hm, hv⟩ => ⟨hv, by rw [hm]; rfl⟩

theorem request_stands {kind key : Nat} {act : State → Answer} {s : State} (h : ∀ u, (act u).Leaves u.Stands) :
    s.Stands (request kind key act s) := by
  obtain ⟨-, e⟩ | ⟨-, -, e⟩ | ⟨-, -, st, p, -, e⟩ | ⟨-, -, t, st, c, p, ha, e⟩ := request_cases s kind key act
  · exact .inl (by rw [e])
  · exact .inl (by rw [e, State.overrunFrame_msv])
  · exact .inl (by rw [e, State.respond_msv, State.hearFrame_msv])
  · have taken : s.hearFrame.Stands t := by simpa [ha] using h s.hearFrame
    rw [e]
    exact taken

theorem event_stands {f : State → State} {s : State} (h : s.Stands (f s)) : s.Stands (event f s) := by
  obtain ⟨-, e⟩ | ⟨-, e⟩ := event_cases s f
  · exact .inl (by rw [e])
  · rwa [e]

section
variable (s : State)

theorem State.sampleSeat_coasts (i : Nat) (r : SeatReading) : s.Coasts (s.sampleSeat i r) := by
  obtain ⟨-, e⟩ | ⟨-, -, e⟩ | ⟨-, -, e⟩ := s.sampleSeat_cases i r
  · exact e ▸ .of_msv rfl
  · exact e ▸ .of_msv rfl
  · have seated : s.Coasts (s.setSeatState i ((s.seat i).sampled r).state) := .of_msv rfl
    have noted (t : State) (n : Notice) : t.Coasts (t.raise n) := .of_msv rfl
    rw [e]
    exact (seated.trans (State.addReason_coasts _ _)).trans (noted _ _)

theorem State.takeLevels_coasts (v : SeatLevels) : s.Coasts (s.takeLevels v) := by
  have seated : (s.keepLevels v).Coasts (s.seated v) :=
    State.sampleSeats_lift (fun _ => .of_msv rfl) .trans (fun i r t => t.sampleSeat_coasts i r) 0 v.readings _
  have kept : s.Coasts (s.keepLevels v) := .of_msv rfl
  exact (kept.trans seated).trans (.of_msv (State.updateHold_sameBut _ _).msv)

theorem holdComplete_coasts : s.Coasts (holdComplete s) := by
  unfold holdComplete
  split
  · split
    · exact s.takeLevels_coasts _
    · exact .of_msv rfl
  all_goals exact .of_msv rfl

theorem estopInputCheck_stands (high : Bool) : s.Stands (estopInputCheck high s) := by
  rw [estopInputCheck_eq]
  split
  · exact (State.addReason_coasts _ _).stands
  · exact .inl rfl

theorem linkExpiry_stands : s.Stands (linkExpiry s) := by
  unfold linkExpiry
  split
  · exact .inl rfl
  · split
    · dsimp only
      split
      · exact (State.addReason_coasts .linkLost (s.setMsv { s.msv with linkExpiry := none })).stands
      · exact .inl rfl
    · exact .inl rfl

theorem supplyReading_stands (count : Nat) : s.Stands (supplyReading count s) := by
  unfold supplyReading
  repeat' split
  all_goals exact .inl rfl

theorem dwellExpiry_stands : s.Stands (dwellExpiry s) := by
  unfold dwellExpiry
  repeat' split
  all_goals exact .inl rfl

theorem resetEnd_stands : s.Stands (resetEnd s) := by
  unfold resetEnd
  split
  all_goals exact .inl rfl

theorem State.takeSettings_stands (ws : List Nat) : (s.takeSettings ws).Leaves s.Stands := by
  have stored (new : Settings) : s.Stands (s.storeSettings new) := by
    obtain ⟨n, msv⟩ := s.storeSettings_msv new
    exact .inl (by rw [msv])
  unfold State.takeSettings
  dsimp only
  repeat' split
  case isFalse.isFalse => exact stored _
  all_goals trivial

theorem putSettings_stands (key : Nat) (ws : List Nat) : (putSettings key ws s).Leaves s.Stands := by
  unfold putSettings
  repeat' split
  case isFalse.isFalse => exact s.takeSettings_stands ws
  all_goals trivial

theorem amendSettings_stands (key presence : Nat) (ws : List Nat) : (amendSettings key presence ws s).Leaves s.Stands := by
  unfold amendSettings
  repeat' split
  case isFalse.isFalse.isTrue => exact .inl rfl
  case isFalse.isFalse.isFalse => exact s.takeSettings_stands _
  all_goals trivial

theorem enableVehicle_stands : (enableVehicle s).Leaves s.Stands := by
  unfold enableVehicle
  split
  · trivial
  · rw [leaves_ok]
    split
    · exact .inl rfl
    · exact .inr (by simp [Motion.moving])

theorem parkVehicle_stands : (parkVehicle s).Leaves s.Stands := by
  have parked : s.Stands s.parked.withdrawPermit := .inl (by rw [State.withdrawPermit_msv]; rfl)
  unfold parkVehicle
  split
  · exact parked
  · trivial

theorem startVehicle_stands : (startVehicle s).Leaves s.Stands := by
  have started : s.Stands s.started.withdrawPermit := .inl (by rw [State.withdrawPermit_msv]; rfl)
  unfold startVehicle
  repeat' split
  case isFalse.isFalse.isFalse.isFalse => exact started
  all_goals trivial

theorem stopVehicle_stands : (stopVehicle s).Leaves s.Stands := by
  unfold stopVehicle
  split
  · trivial
  · exact (State.addReason_coasts _ _).stands

theorem resumeVehicle_stands : (resumeVehicle s).Leaves s.Stands := by
  unfold resumeVehicle
  dsimp only
  repeat' split
  case isFalse.isFalse.isFalse => exact .inl rfl
  all_goals trivial

theorem skipDwell_stands : (skipDwell s).Leaves s.Stands := by
  unfold skipDwell
  split
  · trivial
  · exact .inl rfl

theorem placeVehicle_stands (segment position : Nat) : (placeVehicle segment position s).Leaves s.Stands := by
  have placed : s.Stands (s.placeAt segment position) := (coasts_closed.placeAt segment position s).stands
  unfold placeVehicle
  repeat' split
  all_goals simp [placed]

theorem softReset_stands : (softReset s).Leaves s.Stands := by
  unfold softReset
  split
  · exact .inr ⟨rfl, rfl⟩
  · trivial

/-- A command other than a guidance sample leaves the speed, or stops the vehicle. -/
theorem exec_stands (c : Instr) (hc : ¬ ∃ e i, c = .guidanceSample e i) : Result.Leaves s.Stands (exec c s) := by
  have others (hd : c.drives = false) : Result.Leaves s.Stands (exec c s) :=
    fun t ht => .inl ((exec_hears c s hd t ht).elim (congrArg Msv.vCmd) (congrArg Msv.vCmd))
  have coasting {a : Answer} {u : State} (h : a.Leaves u.Coasts) : a.Leaves u.Stands := h.imp fun _ => State.Coasts.stands
  cases c
  case guidanceSample e i => exact absurd ⟨e, i, rfl⟩ hc
  case markerRead code => exact next_leaves (event_stands (coasts_closed.markerRead code s).stands)
  case seatSample => exact next_leaves (event_stands (s.takeLevels_coasts _).stands)
  case holdComplete => exact next_leaves (event_stands (holdComplete_coasts s).stands)
  case estopInputCheck high => exact next_leaves (event_stands (estopInputCheck_stands s high))
  case linkExpiry => exact next_leaves (event_stands (linkExpiry_stands s))
  case supplyReading n => exact next_leaves (event_stands (supplyReading_stands s n))
  case dwellExpiry => exact next_leaves (event_stands (dwellExpiry_stands s))
  case powerReset | pinReset => exact next_leaves (.inr ⟨rfl, rfl⟩)
  case resetEnd => exact next_leaves (resetEnd_stands s)
  case putAuthority k w => exact next_leaves (request_stands fun u => coasting (coasts_closed.putAuthority k w u))
  case amendAuthority k b w => exact next_leaves (request_stands fun u => coasting (coasts_closed.amendAuthority k b w u))
  case retireAuthority k => exact next_leaves (request_stands fun u => coasting (coasts_closed.retireAuthority k u))
  case putSettings k ws => exact next_leaves (request_stands fun u => putSettings_stands u k ws)
  case amendSettings k b ws => exact next_leaves (request_stands fun u => amendSettings_stands u k b ws)
  case place k g x => exact next_leaves (request_stands fun u => placeVehicle_stands u g x)
  case enable => exact next_leaves (request_stands enableVehicle_stands)
  case park => exact next_leaves (request_stands parkVehicle_stands)
  case start => exact next_leaves (request_stands startVehicle_stands)
  case stop => exact next_leaves (request_stands stopVehicle_stands)
  case estop => exact next_leaves (request_stands fun u => (State.addReason_coasts _ u).stands)
  case resume => exact next_leaves (request_stands resumeVehicle_stands)
  case skipDwell => exact next_leaves (request_stands skipDwell_stands)
  case softReset => exact next_leaves (request_stands softReset_stands)
  all_goals exact others rfl

end

/-- Settles O16: the guidance sample by its ramp, every other command by what it leaves of the speed. -/
theorem speedChangesOnlyByRamp : Obligations.SpeedChangesOnlyByRamp := by
  intro c s t ht
  by_cases hc : ∃ e i, c = .guidanceSample e i
  · obtain ⟨e, i, rfl⟩ := hc
    have done : event (guidanceSample e i) s = t := Host.Outcome.next.inj ht
    obtain ⟨-, held⟩ | ⟨-, sampled⟩ := event_cases s (guidanceSample e i)
    · obtain rfl := held.symm.trans done
      exact ⟨.inl (Nat.le_refl _), .inl rfl, fun _ => Nat.sub_le _ _⟩
    · obtain rfl := sampled.symm.trans done
      obtain ⟨rise, fall⟩ := guidanceSample_vCmd e i s
      exact ⟨.inr ⟨⟨e, i, rfl⟩, rise⟩, .inr (.inr ⟨e, i, rfl⟩), fall⟩
  · obtain same | ⟨zero, still⟩ := exec_stands s c hc t ht
    · exact ⟨.inl same.le, .inl same, fun _ => same ▸ Nat.sub_le _ _⟩
    · exact ⟨.inl (zero ▸ Nat.zero_le _), .inr (.inl zero), fun hm => by rw [still] at hm; cases hm⟩

end Sys2Proof.Machine
end

section
/-! PROOFS. The speed stage of a guidance sample (04 R76 to R86). -/

namespace Sys2Proof.Machine

/-! ### The square root (00 §0.5.3) -/

/-- The bits already found are a lower bound whose last place still to come is an upper one. -/
theorem isqrtBits_spec (n k r : Nat) (hlo : r * r ≤ n) (hhi : n < (r + 2 ^ k) * (r + 2 ^ k)) :
    isqrtBits n k r * isqrtBits n k r ≤ n ∧ n < (isqrtBits n k r + 1) * (isqrtBits n k r + 1) := by
  induction k generalizing r with
  | zero => exact ⟨hlo, hhi⟩
  | succ k ih =>
    rw [isqrtBits]
    split
    · rename_i fits
      exact ih _ fits (by rwa [add_assoc, ← two_mul, ← pow_succ'])
    · rename_i exceeds
      exact ih _ hlo (Nat.not_le.1 exceeds)

theorem isqrt_spec (n : Nat) : isqrt n * isqrt n ≤ n ∧ n < (isqrt n + 1) * (isqrt n + 1) := by
  unfold isqrt
  refine isqrtBits_spec n _ 0 (Nat.zero_le n) ?_
  calc n < 2 ^ (n.log2 + 1) := Nat.lt_log2_self
    _ ≤ 2 ^ (n.log2 / 2 + 1 + (n.log2 / 2 + 1)) := Nat.pow_le_pow_right (by decide) (by omega)
    _ = (0 + 2 ^ (n.log2 / 2 + 1)) * (0 + 2 ^ (n.log2 / 2 + 1)) := by rw [pow_add, zero_add]

/-! ### What the ceiling reads -/

theorem State.vAuth_congr {s t : State} (hp : t.pos = s.pos) (hs : t.settings = s.settings) : t.vAuth = s.vAuth := by
  unfold State.vAuth
  rw [State.dAuth_congr hp, hs]

theorem State.ceilingTerms_congr {s t : State} (hp : t.pos = s.pos) (hs : t.settings = s.settings) (hr : t.rsm = s.rsm)
    (hc : t.cue.cues = s.cue.cues) (hl : t.msv.supplyLow = s.msv.supplyLow) : t.ceilingTerms = s.ceilingTerms := by
  have ceiling : t.ceilingOf = s.ceilingOf := by
    funext k
    rw [State.ceilingOf, hp]
    rfl
  have distances : t.distances = s.distances := by
    rw [State.distances, State.lengthOf_congr hp, hp]
    rfl
  have lookahead : t.lookahead = s.lookahead := by
    funext q
    rw [State.lookahead, ceiling, hs]
    rfl
  have slow : t.slowCap = s.slowCap := by
    rw [State.slowCap, hc]
    rfl
  have crawl : t.crawlApplies = s.crawlApplies := by
    rw [State.crawlApplies, State.anySuspect, hr, hl]
    rfl
  unfold State.ceilingTerms
  rw [hs, hp, ceiling, distances, lookahead, State.vAuth_congr hp hs, slow, crawl]

/-! ### What the sample reports before its speed stage -/

theorem positionStep_raisesOnly (s : State) : RaisesOnly [1, 3, 5, 6, 7] s s.positionStep.1 :=
  StepClosed.positionStep (R := RaisesOnly [1, 3, 5, 6, 7])
    { trans := .trans
      record := fun _ _ => .of_ntu rfl
      join := fun s r => (State.addReason_raisesOnly r s).mono
      report := fun s n hn => State.raise_raisesOnly n s (by simp [hn])
      evaluate := fun s moved => (s.evaluate_cueStep moved).raises.mono } s

/-- GDU's stages report stop reasons only, and leave the cues' records. -/
structure State.Steers (s t : State) : Prop where
  raises : RaisesOnly [1, 3, 7] s t
  cues : t.cue.cues = s.cue.cues

theorem State.addReason_steers (r : StopReason) (s : State) : s.Steers (s.addReason r) := by
  refine ⟨State.addReason_raisesOnly r s, ?_⟩
  obtain ⟨-, e⟩ | ⟨-, -, -, e⟩ | ⟨-, -, -, -, e⟩ | ⟨-, -, -, e | e⟩ | ⟨-, -, -, -, e⟩ := s.addReason_cases r
  case inr.inr.inl => rw [e, State.raise_cue, State.enterEStop_cue, State.setMsv_cue]
  all_goals simp [e]

theorem State.guide_steers (encoder : Int) (s : State) : s.Steers (s.guide encoder) := by
  have calm {t u : State} (hn : u.ntu = t.ntu) (hc : u.cue.cues = t.cue.cues) : t.Steers u := ⟨.of_ntu hn, hc⟩
  have trans {t u v : State} (h : t.Steers u) (h' : u.Steers v) : t.Steers v :=
    ⟨h.raises.trans h'.raises, h'.cues.trans h.cues⟩
  have judged : s.Steers s.judgeGuide := by
    rw [State.judgeGuide_eq]
    split
    · exact trans (calm (u := s.counted) rfl rfl) (State.addReason_steers _ _)
    · exact calm rfl rfl
  have turned : s.judgeGuide.Steers s.turned := by
    rw [State.turned, State.turned_eq]
    exact calm rfl rfl
  have followed : s.turned.Steers (s.turned.followed encoder) := calm rfl rfl
  rw [State.guide_eq]
  refine trans (trans judged turned) ?_
  obtain ⟨-, e⟩ | ⟨-, -, e⟩ | ⟨-, -, e⟩ := s.turned.superviseYaw_cases encoder
  · exact e ▸ followed
  · exact e ▸ trans followed (calm rfl rfl)
  · exact e ▸ trans followed (State.addReason_steers _ _)

/-- With a valid guide reading GDU's stages change YAW_FOLLOW only, and with it at most stop the vehicle safely. -/
theorem State.guide_of_valid {s : State} (hv : s.guideValid = true) (encoder : Int) :
    ((s.guide encoder).msv.motion = s.msv.motion ∨ (s.guide encoder).msv.motion = .safeStop) ∧
    ∀ r, r ≠ .yawFollow → (r ∈ (s.guide encoder).msv.reasons ↔ r ∈ s.msv.reasons) := by
  have msv : (s.turned.followed encoder).msv = s.msv := by
    rw [State.followed, State.setGdu_msv, State.setLines_msv, State.turned_msv, State.judgeGuide_eq, if_neg (by simp [hv])]
    rfl
  rw [State.guide_eq]
  obtain ⟨-, e⟩ | ⟨-, -, e⟩ | ⟨-, -, e⟩ := s.turned.superviseYaw_cases encoder
  · rw [e, msv]
    exact ⟨.inl rfl, fun _ _ => Iff.rfl⟩
  · rw [e, State.removeReason, State.setMsv_msv, msv]
    exact ⟨.inl rfl, fun r hr => by simp [hr]⟩
  · rw [e]
    refine ⟨?_, fun r hr => by simp [hr, msv]⟩
    rw [← msv]
    exact (State.addReason_motion_of_isS rfl _).imp_right And.right

section
variable (s : State) (encoder : Int) (current : Nat)

theorem State.toSpeed_pos : (s.toSpeed encoder).pos = s.positionStep.1.pos := (State.guide_sameBut _ encoder).pos

theorem State.toSpeed_now : (s.toSpeed encoder).now = s.now := by
  obtain ⟨guided, -⟩ := State.guide_sameBut s.positionStep.1 encoder
  obtain ⟨stepped, -⟩ := s.positionStep_sameBut
  exact guided.trans stepped

theorem State.toSpeed_raisesOnly : RaisesOnly [1, 3, 5, 6, 7] s (s.toSpeed encoder) :=
  ((positionStep_raisesOnly s).trans (State.guide_steers encoder _).raises.mono).trans (.of_ntu rfl)

theorem State.toSpeed_measuredSpeed :
    (s.toSpeed encoder).measuredSpeed = 25 * (s.msv.window.drop 1 ++ [s.positionStep.2]).sum := by
  rw [← (s.guided_sustains encoder).window]
  rfl

theorem State.toSpeed_ceilingTerms : (s.toSpeed encoder).ceilingTerms = s.positionStep.1.ceilingTerms :=
  State.ceilingTerms_congr (s.toSpeed_pos encoder) (State.guide_sameBut _ encoder).settings
    ((State.guide_sameBut _ encoder).same .rsm) (State.guide_steers encoder _).cues
    (coasts_closed.guide encoder s.positionStep.1).supplyLow

theorem State.toSpeed_vAuth : (s.toSpeed encoder).vAuth = s.positionStep.1.vAuth :=
  State.vAuth_congr (s.toSpeed_pos encoder) (State.guide_sameBut _ encoder).settings

end

end Sys2Proof.Machine
end

section
/-! PROOFS. A guidance sample after its speed stage, clause by clause (04 R76 to R86). -/

namespace Sys2Proof.Machine

section
variable (s : State) (encoder : Int) (current : Nat)

/-! ### The over-speed and overrun checks (04 R76, R79) -/

/-- A sample that does not stop the vehicle in E_STOP starts its checks from the speed and count before it, and they count. -/
structure State.Proceeds : Prop where
  checked : (s.toSpeed encoder).checked = (s.toSpeed encoder).recounted
  awake : (s.toSpeed encoder).msv.motion ≠ .eStop
  vCmd : (s.toSpeed encoder).msv.vCmd = s.msv.vCmd
  overspeed : (s.toSpeed encoder).msv.overspeed = s.msv.overspeed

theorem State.toSpeed_speed (h : (s.toSpeed encoder).msv.motion ≠ .eStop) :
    (s.toSpeed encoder).msv.vCmd = s.msv.vCmd ∧ (s.toSpeed encoder).msv.overspeed = s.msv.overspeed :=
  (s.toSpeed_coasts encoder).speed.resolve_right fun h' => h h'.1

theorem guidanceSample_proceeds (h : (guidanceSample encoder current s).msv.motion ≠ .eStop) : s.Proceeds encoder := by
  have settles := guidanceSample_settles encoder current s
  have goes : (s.toSpeed encoder).checked.msv.motion ≠ .eStop := fun e => h (settles.eStop e).1
  have checked := (s.toSpeed encoder).checked_cases.resolve_right fun e => goes e.1
  have awake : (s.toSpeed encoder).msv.motion ≠ .eStop := by
    rw [checked] at goes
    exact goes
  obtain ⟨vCmd, overspeed⟩ := s.toSpeed_speed encoder awake
  exact ⟨checked, awake, vCmd, overspeed⟩

/-- The third over-speed sample in a row with a valid guide reading adds OVERSPEED (04 R76). -/
theorem guidanceSample_overspeeds (hv : s.positionStep.1.guideValid = true)
    (hp : s.positionStep.1.msv.motion ≠ .parked) (he : s.positionStep.1.msv.motion ≠ .eStop)
    (fast : (s.toSpeed encoder).measuredSpeed > ((s.msv.vCmd + s.settings.overspeedTol : Nat) : Int))
    (third : 2 ≤ s.msv.overspeed) :
    .overspeed ∈ (guidanceSample encoder current s).msv.reasons ∧
    (.overspeed ∉ s.positionStep.1.msv.reasons → (guidanceSample encoder current s).msv.motion = .eStop) := by
  obtain ⟨motion, reasons⟩ := State.guide_of_valid hv encoder
  have hp' : (s.toSpeed encoder).msv.motion ≠ .parked := by
    obtain e | e := motion
    · exact fun h => hp (e.symm.trans h)
    · exact fun h => absurd (e.symm.trans h) (by decide)
  have he' : (s.toSpeed encoder).msv.motion ≠ .eStop := by
    obtain e | e := motion
    · exact fun h => he (e.symm.trans h)
    · exact fun h => absurd (e.symm.trans h) (by decide)
  obtain ⟨vCmd, overspeed⟩ := s.toSpeed_speed encoder he'
  have overspeeds : (s.toSpeed encoder).overspeeds := by
    refine ⟨hp', he', ?_, overspeed ▸ third⟩
    rwa [vCmd, s.toSpeed_settings]
  have settles := guidanceSample_settles encoder current s
  have checked := State.overspeedCheck_overspeeds overspeeds
  constructor
  · rw [settles.reasons, State.checked, checked]
    exact (State.overrunCheck_trails _).carries.reasons _ (by simp) (by decide)
  · intro hnew
    have new : .overspeed ∉ (s.toSpeed encoder).recounted.msv.reasons := mt (reasons .overspeed (by decide)).1 hnew
    obtain ⟨stopped, -⟩ := State.addReason_eStop rfl new hp' he'
    refine (settles.eStop ?_).1
    rw [State.checked, checked]
    exact (State.overrunCheck_trails _).carries.eStop stopped

/-- PARKED and E_STOP hold the over-speed count at 0 (04 R76). -/
theorem guidanceSample_overspeed_still
    (hm : (s.toSpeed encoder).msv.motion = .parked ∨ (s.toSpeed encoder).msv.motion = .eStop) :
    (guidanceSample encoder current s).msv.overspeed = 0 := by
  have counts : (s.toSpeed encoder).overspeedCheck = (s.toSpeed encoder).recounted :=
    State.overspeedCheck_counts fun h => hm.elim h.1 h.2.1
  have still : (s.toSpeed encoder).recounted.msv.motion.moving = false := by
    change (s.toSpeed encoder).msv.motion.moving = false
    rcases hm with hm | hm <;> rw [hm] <;> rfl
  rw [(guidanceSample_settles encoder current s).overspeed, State.checked, counts, State.overrunCheck_still still]
  exact if_pos hm

/-- Outside them an over-speed sample counts, and any other clears the count (04 R76). -/
theorem guidanceSample_overspeed (hp : (s.toSpeed encoder).msv.motion ≠ .parked)
    (ht : (guidanceSample encoder current s).msv.motion ≠ .eStop) (hn : s.msv.overspeed < 2) :
    (guidanceSample encoder current s).msv.overspeed =
      if (s.toSpeed encoder).measuredSpeed > ((s.msv.vCmd + s.settings.overspeedTol : Nat) : Int) then s.msv.overspeed + 1
      else 0 := by
  obtain ⟨checked, awake, vCmd, overspeed⟩ := guidanceSample_proceeds s encoder current ht
  rw [(guidanceSample_settles encoder current s).overspeed, checked, State.recounted, State.setMsv_msv]
  simp only [State.nextOverspeed, hp, awake, or_self, if_false, vCmd, overspeed, hn, and_true, s.toSpeed_settings]

/-- A moving vehicle beyond v_auth and the tolerance is stopped in E_STOP (04 R79). -/
theorem guidanceSample_overruns (hm : (s.toSpeed encoder).msv.motion.moving = true)
    (hv : s.positionStep.1.vAuth + s.settings.overspeedTol < (s.toSpeed encoder).msv.vCmd)
    (hnew : .authorityOverrun ∉ (s.toSpeed encoder).msv.reasons) :
    (guidanceSample encoder current s).msv.motion = .eStop ∧ (guidanceSample encoder current s).msv.vCmd = 0 ∧
    ((s.toSpeed encoder).msv.overspeed < 2 → .authorityOverrun ∈ (guidanceSample encoder current s).msv.reasons) := by
  have settles := guidanceSample_settles encoder current s
  obtain counts | ⟨⟨-, -, -, third⟩, stopped, -⟩ := (s.toSpeed encoder).overspeedCheck_cases
  · have exceeds : (s.toSpeed encoder).recounted.vAuth + (s.toSpeed encoder).recounted.settings.overspeedTol <
        (s.toSpeed encoder).recounted.msv.vCmd := by
      rw [← s.toSpeed_vAuth encoder, ← s.toSpeed_settings encoder] at hv
      exact hv
    obtain ⟨stopped, -, joined⟩ := State.overrunCheck_new (s := (s.toSpeed encoder).recounted) hm exceeds hnew
    have checked : (s.toSpeed encoder).checked = (s.toSpeed encoder).recounted.overrunCheck := by
      rw [State.checked, counts]
    obtain ⟨motion, speed⟩ := settles.eStop (checked ▸ stopped)
    exact ⟨motion, speed, fun _ => by rwa [settles.reasons, checked]⟩
  · have checked : (s.toSpeed encoder).checked = (s.toSpeed encoder).overspeedCheck :=
      State.overrunCheck_still (by rw [stopped]; rfl)
    obtain ⟨motion, speed⟩ := settles.eStop (checked ▸ stopped)
    exact ⟨motion, speed, fun hn => absurd third (Nat.not_le.2 hn)⟩

/-! ### The ramp (04 R78, R80) -/

/-- A vehicle that still moves after the sample has ramped from the speed before it toward its ceiling. -/
theorem guidanceSample_ramps (ht : (guidanceSample encoder current s).msv.motion.moving = true) :
    (guidanceSample encoder current s).msv.vCmd =
      rampTo s.settings s.msv.vCmd (s.toSpeed encoder).recounted.vCeil ∧
    (s.toSpeed encoder).msv.motion = (guidanceSample encoder current s).msv.motion := by
  have settles := guidanceSample_settles encoder current s
  obtain ⟨checked, -, vCmd, -⟩ := guidanceSample_proceeds s encoder current (moving_ne_eStop ht)
  have motion := settles.moving ht
  have settings := (s.toSpeed encoder).checked_settings.trans (s.toSpeed_settings encoder)
  rw [settles.vCmd, State.ramped, motion, if_pos ht, settings, checked]
  rw [checked] at motion
  exact ⟨congrArg (rampTo s.settings · _) vCmd, motion⟩

/-- In RUNNING the ceiling is the least of the terms at the position reached (04 R78). -/
theorem State.recounted_vCeil (hm : (s.toSpeed encoder).msv.motion = .running) :
    (s.toSpeed encoder).recounted.vCeil = (leastOf s.positionStep.1.ceilingTerms).getD 0 := by
  have terms : (s.toSpeed encoder).recounted.ceilingTerms = (s.toSpeed encoder).ceilingTerms :=
    State.ceilingTerms_congr rfl rfl rfl rfl rfl
  have running : (s.toSpeed encoder).recounted.msv.motion = .running := hm
  rw [State.vCeil, if_pos running, terms, s.toSpeed_ceilingTerms]

theorem guidanceSample_running (ht : (guidanceSample encoder current s).msv.motion = .running) :
    ∃ c, c ∈ s.positionStep.1.ceilingTerms ∧ (∀ x ∈ s.positionStep.1.ceilingTerms, c ≤ x) ∧
      (guidanceSample encoder current s).msv.vCmd = rampTo s.settings s.msv.vCmd c := by
  obtain ⟨ramps, motion⟩ := guidanceSample_ramps s encoder current (by rw [ht]; rfl)
  obtain ⟨mem, least⟩ := leastOf_getD_spec (List.ne_nil_of_mem s.positionStep.1.vmax_mem_ceilingTerms)
  exact ⟨_, mem, least, by rw [ramps, s.recounted_vCeil encoder (motion.trans ht)]⟩

theorem guidanceSample_slows (ht : (guidanceSample encoder current s).msv.motion = .dwell ∨
    (guidanceSample encoder current s).msv.motion = .safeStop) :
    (guidanceSample encoder current s).msv.vCmd = s.msv.vCmd - s.settings.stepDown := by
  obtain ⟨ramps, motion⟩ := guidanceSample_ramps s encoder current (by rcases ht with ht | ht <;> rw [ht] <;> rfl)
  have away : (s.toSpeed encoder).recounted.msv.motion ≠ .running := by
    change (s.toSpeed encoder).msv.motion ≠ .running
    rw [motion]
    rcases ht with ht | ht <;> simp [ht]
  rw [ramps, State.vCeil, if_neg away, rampTo_zero]

/-! ### The held test and the rest step (04 R81, R85, R86) -/

/-- The sample before its rest step, where the checks have not stopped the vehicle. -/
def State.tested : State := (s.toSpeed encoder).recounted.ramp.heldTest

theorem State.tested_msv : (s.tested encoder).msv = { (s.toSpeed encoder).recounted.msv with
    vCmd := (s.toSpeed encoder).recounted.ramped, held := (s.toSpeed encoder).recounted.ramp.nextHeld } :=
  State.ramp_heldTest_msv _

theorem State.tested_now : (s.tested encoder).now = s.now := by
  obtain ⟨now, -⟩ := (s.toSpeed encoder).recounted.ramp.heldTest_sameBut
  exact now.trans (s.toSpeed_now encoder)

/-- MSV and NTU after the sample are those of its last step. -/
theorem guidanceSample_rests {current : Nat} (h : s.Proceeds encoder) :
    (guidanceSample encoder current s).msv = (s.tested encoder).restStep.msv ∧
    (guidanceSample encoder current s).ntu = (s.tested encoder).restStep.ntu := by
  have after := guidanceSample_afterSpeed s encoder current
  have sped : s.sped encoder = (s.tested encoder).restStep := by
    rw [State.sped, State.speedStage_eq, ← State.toSpeed, h.checked]
    rfl
  rw [← sped]
  exact ⟨after.msv, after.ntu⟩

theorem guidanceSample_ramped {current : Nat} (h : s.Proceeds encoder) :
    (guidanceSample encoder current s).msv.vCmd = (s.tested encoder).msv.vCmd := by
  rw [(guidanceSample_settles encoder current s).vCmd, h.checked, State.tested_msv]

theorem State.source_congr {s t : State} (h : t.ntu = s.ntu) (n : Nat) : t.source n = s.source n := by
  rw [State.source, h]
  rfl

theorem State.recounted_vAuth : (s.toSpeed encoder).recounted.ramp.vAuth = s.positionStep.1.vAuth := by
  have ramp := (s.toSpeed encoder).recounted.ramp_sameBut
  rw [← s.toSpeed_vAuth encoder]
  exact State.vAuth_congr ramp.pos ramp.settings

/-- RUNNING at speed 0 with v_auth 0 is held, noted once; a speed above 0 clears the flag (04 R81). -/
theorem guidanceSample_holds (ht : (guidanceSample encoder current s).msv.motion = .running)
    (hlen : s.ntu.sources.length = 12) :
    let t := guidanceSample encoder current s
    (t.msv.vCmd = 0 → s.positionStep.1.vAuth = 0 → t.msv.held = true ∧
      t.source 4 = if s.msv.held = true then s.source 4 else Source.record .held (s.source 4)) ∧
    (t.msv.vCmd = 0 → 0 < s.positionStep.1.vAuth → t.msv.held = s.msv.held ∧ t.source 4 = s.source 4) ∧
    (0 < t.msv.vCmd → t.msv.held = false ∧ t.source 4 = s.source 4) := by
  have proceeds := guidanceSample_proceeds s encoder current (by simp [ht])
  obtain ⟨-, motion⟩ := guidanceSample_ramps s encoder current (by rw [ht]; rfl)
  have running : (s.toSpeed encoder).msv.motion = .running := motion.trans ht
  have held : (s.toSpeed encoder).recounted.ramp.msv.held = s.msv.held := by
    rw [State.ramp_msv]
    exact ((s.toSpeed_coasts encoder).running running).2
  have raises := s.toSpeed_raisesOnly encoder
  have rests := State.restStep_running (s := s.tested encoder) (by rw [State.tested_msv]; exact running)
  have source : (s.toSpeed encoder).recounted.ramp.source 4 = s.source 4 :=
    (State.source_congr (s.toSpeed encoder).recounted.ramp_sameBut.ntu 4).trans (raises.source 4)
  have tested := State.heldTest_running (s := (s.toSpeed encoder).recounted.ramp) running (raises.length.trans hlen)
  obtain ⟨msv, ntu⟩ := guidanceSample_rests s encoder (current := current) proceeds
  rw [rests] at msv ntu
  have speed := guidanceSample_ramped s encoder (current := current) proceeds
  rw [State.tested_msv] at speed
  dsimp only at speed ⊢
  rw [speed, State.source_congr ntu, msv, ← s.recounted_vAuth encoder, ← source, ← held]
  exact tested

/-- At speed 0 a RAMPING dwell is HOLDING from now; otherwise it stays as it is (04 R85). -/
theorem guidanceSample_dwells (ht : (guidanceSample encoder current s).msv.motion = .dwell) {d : Dwell}
    (hd : s.positionStep.1.msv.dwell = some d) :
    let t := guidanceSample encoder current s
    (∀ ms, d = .ramping ms → t.msv.vCmd = 0 → t.msv.dwell = some (.holding (s.now + ms * 1000))) ∧
    (∀ ms, d = .ramping ms → 0 < t.msv.vCmd → t.msv.dwell = some d) ∧
    (∀ u, d = .holding u → t.msv.dwell = some d) := by
  have proceeds := guidanceSample_proceeds s encoder current (by simp [ht])
  obtain ⟨-, motion⟩ := guidanceSample_ramps s encoder current (by rw [ht]; rfl)
  have dwelling : (s.toSpeed encoder).msv.motion = .dwell := motion.trans ht
  have kept := dwells_closed.guide encoder s.positionStep.1 dwelling
  obtain ⟨msv, -⟩ := guidanceSample_rests s encoder (current := current) proceeds
  have speed := guidanceSample_ramped s encoder (current := current) proceeds
  have hm : (s.tested encoder).msv.motion = .dwell := by
    rw [State.tested_msv]
    exact dwelling
  have dwell : (s.tested encoder).msv.dwell = some d := by
    rw [State.tested_msv]
    exact kept.2.trans hd
  dsimp only
  rw [speed, msv]
  refine ⟨?_, ?_, ?_⟩
  · rintro ms rfl hv
    rw [State.restStep_ramping hv hm dwell, State.setMsv_msv, State.after, s.tested_now]
    rfl
  · rintro ms rfl hv
    rwa [State.restStep_fast hv.ne']
  · rintro u rfl
    rwa [State.restStep_holding dwell hm]

/-- SAFE_STOP that has come to 0 is STOPPED, with the brake applied and a MOTION notice (04 R86). -/
theorem guidanceSample_stops (hm : (s.toSpeed encoder).msv.motion = .safeStop)
    (ht : (guidanceSample encoder current s).msv.motion ≠ .eStop) (hlen : s.ntu.sources.length = 12) :
    let t := guidanceSample encoder current s
    (s.msv.vCmd ≤ s.settings.stepDown → t.msv.motion = .stopped ∧ t.brakeRelease = false ∧
      t.source 3 = Source.record (.motion .stopped) ((s.toSpeed encoder).source 3)) ∧
    (s.settings.stepDown < s.msv.vCmd → t.msv.motion = .safeStop ∧ t.source 3 = (s.toSpeed encoder).source 3) := by
  have proceeds := guidanceSample_proceeds s encoder current ht
  obtain ⟨msv, ntu⟩ := guidanceSample_rests s encoder (current := current) proceeds
  have stopping : (s.tested encoder).msv.motion = .safeStop := by
    rw [State.tested_msv]
    exact hm
  have speed : (s.tested encoder).msv.vCmd = s.msv.vCmd - s.settings.stepDown := by
    have moves : (s.toSpeed encoder).recounted.msv.motion = .safeStop := hm
    rw [State.tested_msv, ← s.toSpeed_settings encoder, ← proceeds.vCmd]
    dsimp only
    rw [State.ramped, State.vCeil, moves]
    exact rampTo_zero _ _
  have unheld : (s.tested encoder).ntu = (s.toSpeed encoder).ntu := by
    have stays := (s.toSpeed encoder).recounted.ramp.heldTest_ntu
    have away : (s.toSpeed encoder).recounted.ramp.msv.motion ≠ .running := by
      change (s.toSpeed encoder).msv.motion ≠ .running
      simp [hm]
    exact stays.trans (if_neg fun h => away h.1.1)
  dsimp only
  rw [State.source_congr ntu, State.brakeRelease, msv]
  refine ⟨fun h => ?_, fun h => ?_⟩
  · rw [State.restStep_safeStop (by omega) stopping]
    refine ⟨rfl, rfl, ?_⟩
    rw [← State.source_congr unheld 3]
    refine State.source_raise (.motion .stopped) ?_
    rw [State.setMsv_ntu, unheld]
    exact (s.toSpeed_raisesOnly encoder).length.trans hlen
  · rw [State.restStep_fast (by omega)]
    exact ⟨stopping, State.source_congr unheld 3⟩

end

/-- Settles O27, clause by clause. -/
theorem speedStageRamps : Obligations.SpeedStageRamps := by
  refine ⟨isqrt_spec, fun s encoder current hr => ?_⟩
  have sampled : exec (.guidanceSample encoder current) s = .next (guidanceSample encoder current s) :=
    congrArg Host.Outcome.next (event_of_running hr)
  have settles := guidanceSample_settles encoder current s
  dsimp only
  rw [← s.toSpeed_measuredSpeed encoder]
  exact ⟨_, sampled, guidanceSample_running s encoder current, guidanceSample_slows s encoder current, settles.still,
    guidanceSample_overspeeds s encoder current, guidanceSample_overspeed_still s encoder current,
    guidanceSample_overspeed s encoder current, guidanceSample_overruns s encoder current,
    guidanceSample_holds s encoder current, fun ht _ => guidanceSample_dwells s encoder current ht,
    guidanceSample_stops s encoder current⟩

end Sys2Proof.Machine
end

section
/-! PROOFS. The events of the effect lines and of the beacon transmitter (05 R113, R114, R116). -/

namespace Sys2Proof.Machine

/-! ### One pattern (05 R113) -/

section
variable {h : LineHold}

theorem LineHold.tick_of_ended (he : h.phase = .ended) : h.tick = some h := if_pos he

theorem LineHold.tick_of_lt (he : h.phase ≠ .ended) (ht : 10 < h.timer) :
    h.tick = some { h with timer := h.timer - 10 } := by
  rw [LineHold.tick, if_neg he, if_neg (Nat.not_le.2 ht)]

/-- Every outcome of a phase end sets the timer anew, so the old one does not count. -/
theorem LineHold.phaseEnd_withTimer (h : LineHold) (n : Nat) : { h with timer := n }.phaseEnd = h.phaseEnd := rfl

theorem LineHold.tick_of_le (he : h.phase ≠ .ended) (ht : h.timer ≤ 10) :
    h.tick = h.phaseEnd := by
  rw [LineHold.tick, if_neg he, if_pos ht, LineHold.phaseEnd_withTimer]

theorem LineHold.phaseEnd_on (hp : h.phase = .on) (ho : 0 < h.offMs) :
    h.phaseEnd = some { h with phase := .off, timer := h.offMs } := if_pos ⟨hp, ho⟩

/-- The end of a cycle: after its OFF phase, or after ON where there is none (05 R113). -/
theorem LineHold.phaseEnd_cycle (hc : h.phase = .off ∨ h.offMs = 0) : h.phaseEnd =
    if h.remaining = 0 then some h.repeated
    else if h.remaining = 1 then
      if h.timed then none else some { h with remaining := 0, phase := .ended, timer := 0 }
    else some { h.repeated with remaining := h.remaining - 1 } := by
  have last : ¬(h.phase = .on ∧ 0 < h.offMs) := by
    rintro ⟨hp, ho⟩
    rcases hc with hc | hc
    · simp [hp] at hc
    · omega
  rw [LineHold.phaseEnd, if_neg last]

end

/-! ### The events -/

section
variable {s : State} {i : Nat}

theorem exec_effectTick (hr : s.inReset = false) : exec .effectTick s = .next (effectTick s) :=
  congrArg Host.Outcome.next (event_of_running hr)

/-- A tick is one tick of each line's entry. -/
theorem effectTick_line (s : State) (i : Nat) :
    (effectTick s).cue.lines[i]? = s.cue.lines[i]?.map (fun e => e.bind LineHold.tick) := by
  simp [effectTick]

theorem effectTick_held {h : LineHold} (hh : s.cue.lines[i]? = some (some h)) :
    (effectTick s).cue.lines[i]? = some h.tick := by
  rw [effectTick_line, hh]
  rfl

/-- A free line and an ended pattern stay as they are. -/
theorem effectTick_idle
    (hi : s.cue.lines[i]? = some none ∨ ∃ h, s.cue.lines[i]? = some (some h) ∧ h.phase = .ended) :
    (effectTick s).cue.lines[i]? = s.cue.lines[i]? := by
  obtain hn | ⟨h, hh, he⟩ := hi
  · rw [effectTick_line, hn]
    rfl
  · rw [effectTick_held hh, LineHold.tick_of_ended he, hh]

/-- EFFECT_PHASE_END of a line whose timer stands at 0 (log 3). -/
theorem effectPhaseEnd_due {h : LineHold} (hh : s.cue.lines[i]? = some (some h)) (he : h.phase ≠ .ended)
    (ht : h.timer = 0) :
    effectPhaseEnd i s = s.setCue { s.cue with lines := s.cue.lines.set i h.phaseEnd } := by
  have entry : s.cue.lines.getD i none = some h := by simp [List.getD_eq_getElem?_getD, hh]
  unfold effectPhaseEnd
  rw [entry]
  exact if_pos ⟨he, ht⟩

/-- The phase end as a command does to its line what a tick does (log 3). -/
theorem effectPhaseEnd_line {h : LineHold} (hh : s.cue.lines[i]? = some (some h)) (he : h.phase ≠ .ended)
    (ht : h.timer = 0) : (effectPhaseEnd i s).cue.lines[i]? = (effectTick s).cue.lines[i]? := by
  have placed : i < s.cue.lines.length := (List.getElem?_eq_some_iff.1 hh).1
  rw [effectTick_held hh, LineHold.tick_of_le he (by omega), effectPhaseEnd_due hh he ht]
  simp [placed]

end

/-- Settles O43: a tick by the cases of one pattern, the phase end by the tick. -/
theorem effectEvents : Obligations.EffectEvents := by
  refine ⟨fun s i h hr hh he => ⟨?_, fun ht => ?_⟩, fun s i hr hi => ⟨_, exec_effectTick hr, effectTick_idle hi⟩,
    fun s b hr hb hdue => ?_⟩
  · refine ⟨_, exec_effectTick hr, effectTick_sameBut s, rfl, ?_⟩
    rw [effectTick_held hh]
    refine ⟨fun ht => by rw [LineHold.tick_of_lt he ht], fun ht hp ho => ?_, fun ht hc => ?_⟩
    · rw [LineHold.tick_of_le he ht, LineHold.phaseEnd_on hp ho]
    · rw [LineHold.tick_of_le he ht, LineHold.phaseEnd_cycle hc]
      refine ⟨fun hn => by rw [if_pos hn]; rfl, fun hn => ?_, fun hn htimed => ?_, fun hn htimed => ?_⟩
      · rw [if_neg (by omega), if_neg (by omega)]
        rfl
      · rw [if_neg (by simp [hn]), if_pos hn, if_pos htimed]
      · rw [if_neg (by simp [hn]), if_pos hn, if_neg (by simp [htimed])]
  · have ends : exec (.effectPhaseEnd i) s = .next (effectPhaseEnd i s) :=
      congrArg Host.Outcome.next (event_of_running hr)
    refine ⟨_, _, ends, exec_effectTick hr, effectPhaseEnd_sameBut s i, ?_, effectPhaseEnd_line hh he ht,
      fun j hj => ?_⟩
    · rw [effectPhaseEnd_due hh he ht]
      rfl
    · rw [effectPhaseEnd_due hh he ht]
      exact List.getElem?_set_ne (Ne.symm hj)
  · have ends : exec .beaconTxComplete s = .next (beaconTxComplete s) :=
      congrArg Host.Outcome.next (event_of_running hr)
    have last : s.cue.beacon.drop 1 = [] ↔ s.cue.beacon.length ≤ 1 := List.drop_eq_nil_iff
    rw [ends]
    unfold beaconTxComplete
    rw [hb]
    simp only [if_pos hdue, last]
    rfl

end Sys2Proof.Machine
end

section
/-! PROOFS. The requests on CUE, REARM and DISARM (05 R93 to R97). -/

namespace Sys2Proof.Machine

/-! ### Edits of the cue table -/

/-- A taken request that edits the cues alone: its answer, and the table read at every key. -/
theorem cue_edit_answers {s : State} {kind key : Nat} {act : State → Answer} {cues : Table Cue} {c : Bool}
    {p : List Byte} {f : Nat → Option Cue} (hl : s.listening)
    (ha : act s.hearFrame = .take (s.hearFrame.setCue { s.cue with cues := cues }) .ok c p)
    (hget : ∀ k, Table.get cues k = f k) :
    ∃ t, Host.Outcome.next (request kind key act s) = (.next t : Result) ∧ Answers s t [.cue] .ok kind key c false p ∧
      t.cue = { s.cue with cues := t.cue.cues } ∧ ∀ k, Table.get t.cue.cues k = f k := by
  have edited : (request kind key act s).cue = { s.cue with cues := cues } := by rw [request_take hl.1 hl.2 ha]; rfl
  refine ⟨_, rfl, request_answers_calm hl ha (by simp [sameBut_iff]), ?_, ?_⟩
  · rw [edited]
  · rw [edited]
    exact hget

/-! ### REARM and DISARM (05 R96, R97) -/

/-- The checks of a named cue: REARM and DISARM make them in this order, then take the cue (05 R96, R97). -/
def namedCue (key : Nat) (take : Cue → Answer) (s : State) : Answer :=
  if 95 < key then deny .badField
  else
    match Table.get s.cue.cues key with
    | none => deny .notFound
    | some c => if c.state = .active then deny .inUse else take c

theorem rearmCue_eq (key : Nat) (s : State) : rearmCue key s = namedCue key (fun c =>
    ok (s.updateCue key (fun c => { c with state := .armed, conflict := false, skipped := false }))
      (u8 (if c.state = .armed then 0 else 1))) s := rfl

theorem disarmCue_eq (key : Nat) (s : State) : disarmCue key s = namedCue key (fun _ =>
    ok (s.updateCue key (fun c => { c with state := .disarmed })) (u8 CueState.disarmed.code)) s := rfl

section
variable {s : State} {key : Nat} {take : Cue → Answer}

theorem namedCue_badField (hk : 95 < key) : namedCue key take s = deny .badField := if_pos hk

theorem namedCue_notFound (hk : key ≤ 95) (hc : Table.get s.cue.cues key = none) :
    namedCue key take s = deny .notFound := by
  rw [namedCue, if_neg (Nat.not_lt.2 hk), hc]

theorem namedCue_inUse (hk : key ≤ 95) (hc : (Table.get s.cue.cues key).map (·.state) = some .active) :
    namedCue key take s = deny .inUse := by
  obtain ⟨c, hg, ha⟩ := Option.map_eq_some_iff.1 hc
  rw [namedCue, if_neg (Nat.not_lt.2 hk), hg]
  exact if_pos ha

theorem namedCue_taken {c : Cue} (hk : key ≤ 95) (hc : Table.get s.cue.cues key = some c) (ha : c.state ≠ .active) :
    namedCue key take s = take c := by
  rw [namedCue, if_neg (Nat.not_lt.2 hk), hc]
  exact if_neg ha

/-- The refusals of a command on a named cue, in their order. -/
theorem namedCue_refusals {kind : Nat} {act : State → Answer} (hl : s.listening)
    (ha : act s.hearFrame = namedCue key take s.hearFrame) :
    let t := request kind key act s
    (95 < key → Answers s t [] .badField kind key false false []) ∧
    (key ≤ 95 → Table.get s.cue.cues key = none → Answers s t [] .notFound kind key false false []) ∧
    (key ≤ 95 → (Table.get s.cue.cues key).map (·.state) = some .active →
      Answers s t [] .inUse kind key false false []) :=
  ⟨fun hk => request_answers_refused hl (ha.trans (namedCue_badField hk)),
    fun hk hc => request_answers_refused hl (ha.trans (namedCue_notFound hk hc)),
    fun hk hc => request_answers_refused hl (ha.trans (namedCue_inUse hk hc))⟩

end

/-- The entry under `key`, which is `c`, changed by `f`: what every key reads. -/
theorem Table.get_update_present {α : Type} {t : Table α} {key : Nat} {c : α} (f : α → α)
    (hc : Table.get t key = some c) (k : Nat) :
    Table.get (Table.update key f t) k = if k = key then some (f c) else Table.get t k := by
  rw [Table.get_update]
  split
  · next h => rw [h, hc]; rfl
  · rfl

/-- Settles O42: the checks of a named cue, then the table's laws. -/
theorem rearmAndDisarm : Obligations.RearmAndDisarm := by
  intro s key hl
  refine ⟨?_, fun c hk hc ha => ⟨?_, ?_⟩, ?_⟩
  · rintro c kind (⟨rfl, rfl⟩ | ⟨rfl, rfl⟩)
    · obtain ⟨badField, notFound, inUse⟩ := namedCue_refusals (kind := 0x2B) hl (rearmCue_eq key _)
      exact ⟨fun hk => ⟨_, rfl, badField hk⟩, fun hk hc => ⟨_, rfl, notFound hk hc⟩, fun hk hc => ⟨_, rfl, inUse hk hc⟩⟩
    · obtain ⟨badField, notFound, inUse⟩ := namedCue_refusals (kind := 0x2C) hl (disarmCue_eq key _)
      exact ⟨fun hk => ⟨_, rfl, badField hk⟩, fun hk hc => ⟨_, rfl, notFound hk hc⟩, fun hk hc => ⟨_, rfl, inUse hk hc⟩⟩
  · have bytes : [if c.state = .armed then 0 else 1] = u8 (if c.state = .armed then 0 else 1) := by
      split <;> rfl
    rw [bytes]
    exact cue_edit_answers hl ((rearmCue_eq key _).trans (namedCue_taken hk hc ha)) (Table.get_update_present _ hc)
  · exact cue_edit_answers hl ((disarmCue_eq key _).trans (namedCue_taken hk hc ha)) (Table.get_update_present _ hc)
  · obtain ⟨t, ht, answers, cue, cues⟩ := cue_edit_answers (kind := 0x2B) (key := key) (act := rearmAllCues) hl rfl
      (Table.get_mapValues Cue.rearmed s.cue.cues)
    exact ⟨t, _, ht, answers, rfl, cue, cues⟩

/-! ### PUT, AMEND and RETIRE (05 R93 to R95) -/

section
variable {s : State} {key presence : Nat} {w : CueWire} {as : List Action} {changed : Bool} {o : Cue}

theorem putCue_taken (hk : key ≤ 95) (hw : w.parse s.settings = some (as, changed))
    (ha : ∀ c, Table.get s.cue.cues key = some c → c.state ≠ .active) :
    putCue key w s = .take ((s.releaseCue key).setCue { (s.releaseCue key).cue with
      cues := Table.put key (w.cue as .armed false false none) s.cue.cues }) .ok changed
        (w.cue as .armed false false none).bytes := by
  have idle : (Table.get s.cue.cues key).any (fun c => decide (c.state = .active)) = false := by
    cases hc : Table.get s.cue.cues key with
    | none => rfl
    | some c => simpa using ha c hc
  rw [putCue, if_neg (Nat.not_lt.2 hk), if_neg (by simp [idle]), hw]
  rfl

theorem amendCue_empty (hk : key ≤ 95) (hc : Table.get s.cue.cues key = some o) (ha : o.state ≠ .active)
    (hp : presence % 2 ^ 7 = 0) : amendCue key presence w s = ok s o.bytes := by
  rw [amendCue, if_neg (Nat.not_lt.2 hk), hc]
  dsimp only
  rw [if_neg ha, if_pos (by simpa [noPresence] using hp)]

theorem amendCue_taken (hk : key ≤ 95) (hc : Table.get s.cue.cues key = some o) (ha : o.state ≠ .active)
    (hp : presence % 2 ^ 7 ≠ 0) (hw : (w.over presence o.toWire).parse s.settings = some (as, changed)) :
    amendCue key presence w s =
      let c := (w.over presence o.toWire).cue as o.state o.conflict o.skipped o.slow
      .take (s.setCue { s.cue with cues := Table.put key c s.cue.cues }) .ok changed c.bytes := by
  rw [amendCue, if_neg (Nat.not_lt.2 hk), hc]
  dsimp only
  rw [if_neg ha, if_neg (by simpa [noPresence] using hp), hw]

theorem retireCue_idle (force : Bool) (hk : key ≤ 95) (hc : Table.get s.cue.cues key = some o)
    (ha : o.state ≠ .active) : retireCue key force s = ok ((s.releaseCue key).dropCue key) [] := by
  rw [retireCue, if_neg (Nat.not_lt.2 hk), hc]
  exact if_pos ha

theorem retireCue_forced (hk : key ≤ 95) (hc : Table.get s.cue.cues key = some o) (ha : o.state = .active) :
    retireCue key true s = ok (((s.exitCue key true).releaseCue key).dropCue key) [] := by
  rw [retireCue, if_neg (Nat.not_lt.2 hk), hc]
  dsimp only
  rw [if_neg (not_not.2 ha)]
  rfl

end

/-! ### Outputs released (05 R93, R95, R104) -/

/-- What a release of all that a cue holds leaves of CUE. -/
theorem State.releaseCue_cue (key : Nat) (s : State) : (s.releaseCue key).cue = { s.cue with
    lines := s.cue.lines.map (fun e => e.filter (fun h => decide (h.holder ≠ key)))
    turntable := s.cue.turntable.filter (fun h => h.holder ≠ key) } := by
  simp [State.releaseCue, State.releaseLines, State.releaseTurntable]

/-- A cue that exits is SPENT and holds no cap (05 R104). -/
theorem State.exitCue_cues (key : Nat) (all : Bool) (s : State) : (s.exitCue key all).cue.cues =
    Table.update key (fun c => { c with slow := none, state := .spent }) s.cue.cues := rfl

/-- A release of all that the cue holds takes in what its exit has released already. -/
theorem State.exitCue_releaseCue_lines (key : Nat) (all : Bool) (s : State) :
    ((s.exitCue key all).releaseCue key).cue.lines = (s.releaseCue key).cue.lines := by
  rw [State.releaseCue_cue, State.releaseCue_cue]
  simp only [State.exitCue, State.updateCue, State.fadeVoices, State.releaseTurntable, State.releaseLines,
    State.setCue_cue, State.setSnd_cue, List.map_map]
  refine List.map_congr_left fun e _ => ?_
  simp only [Function.comp_apply, Option.filter_filter]
  congr 1
  funext h
  by_cases hk : h.holder = key <;> simp [hk]

/-- A forced exit fades every voice of the cue (05 R95, 07 R152). -/
theorem State.exitCue_all_snd (key : Nat) (s : State) : (s.exitCue key true).snd = { s.snd with
    voices := s.snd.voices.map (fun v => if v.owner = .cue key then v.fade else v) } := by
  simp [State.exitCue, State.updateCue, State.fadeVoices]

/-- What a taken request leaves but for the port is what its owner's answer left. -/
theorem request_leaves {s u : State} {kind key : Nat} {act : State → Answer} {st : Status} {c : Bool} {p : List Byte}
    (hl : s.listening) (ha : act s.hearFrame = .take u st c p) : SameBut [.port] u (request kind key act s) := by
  rw [request_take hl.1 hl.2 ha]
  exact State.respond_sameBut _ _ _ _ _ _ _

/-- RETIRE, with FORCE or without, of a cue that is not ACTIVE. -/
theorem retireCue_idle_answers {s : State} {key : Nat} {c : Cue} {bs : List Block} (force : Bool) (hl : s.listening)
    (hk : key ≤ 95) (hc : Table.get s.cue.cues key = some c) (ha : c.state ≠ .active) (hcue : .cue ∈ bs)
    (hport : .port ∉ bs := by decide) (hmsv : .msv ∉ bs := by decide) :
    let t := request 0x04 key (retireCue key force) s
    Answers s t bs .ok 0x04 key false false [] ∧
    (∀ k, Table.get t.cue.cues k = if k = key then none else Table.get s.cue.cues k) ∧
    t.cue.lines = s.cue.lines.map (fun e => e.filter (fun h => decide (h.holder ≠ key))) ∧
    t.cue.turntable = s.cue.turntable.filter (fun h => h.holder ≠ key) ∧ t.snd = s.snd := by
  have taken := retireCue_idle (s := s.hearFrame) force hk hc ha
  have frame : SameBut [.cue] s.hearFrame ((s.hearFrame.releaseCue key).dropCue key) := by
    simp [sameBut_iff, State.releaseCue, State.dropCue]
  have left := request_leaves (kind := 0x04) (key := key) hl taken
  have cue := left.same .cue
  have snd := left.same .snd
  simp only [Block.same, State.dropCue, State.setCue_cue, State.releaseCue_cue, State.hearFrame_cue] at cue
  refine ⟨request_answers_calm hl taken (frame.mono (by simpa using hcue)) hport hmsv, ?_, ?_, ?_, snd⟩
  · rw [cue]
    exact Table.get_del key _
  · rw [cue]
  · rw [cue]

theorem retireCue_forced_answers {s : State} {key : Nat} {c : Cue} (hl : s.listening)
    (hk : key ≤ 95) (hc : Table.get s.cue.cues key = some c) (ha : c.state = .active) :
    let t := request 0x04 key (retireCue key true) s
    Answers s t [.cue, .snd] .ok 0x04 key false false [] ∧
    (∀ k, Table.get t.cue.cues k = if k = key then none else Table.get s.cue.cues k) ∧
    t.cue.lines = s.cue.lines.map (fun e => e.filter (fun h => decide (h.holder ≠ key))) ∧
    t.snd = { s.snd with voices := s.snd.voices.map (fun v => if v.owner = .cue key then v.fade else v) } := by
  have taken := retireCue_forced (s := s.hearFrame) hk hc ha
  have frame : SameBut [.cue, .snd] s.hearFrame (((s.hearFrame.exitCue key true).releaseCue key).dropCue key) := by
    simp [sameBut_iff, State.releaseCue, State.dropCue]
  have left := request_leaves (kind := 0x04) (key := key) hl taken
  have cue := left.same .cue
  have snd := left.same .snd
  refine ⟨request_answers_calm hl taken frame, ?_, ?_, snd.trans (State.exitCue_all_snd key s.hearFrame)⟩
  · intro k
    rw [cue, State.dropCue, State.setCue_cue, Table.get_del, State.releaseCue_cue, State.exitCue_cues]
    split
    · rfl
    · next h => exact (Table.get_update _ _ _ _).trans (if_neg h)
  · have lines := State.exitCue_releaseCue_lines key true s.hearFrame
    rw [State.releaseCue_cue key s.hearFrame] at lines
    rw [cue]
    exact lines

/-- Settles O41: the checks of each request, then what its edit and its releases leave. -/
theorem cueRequests : Obligations.CueRequests := by
  intro s key presence w hl hwf hk
  refine ⟨fun as changed hw ha => ?_, fun o as changed hc ha hp hw => ?_, fun o hc ha hp => ?_,
    fun c hc => ⟨fun ha => ?_, ?_⟩⟩
  · have taken := putCue_taken (s := s.hearFrame) hk hw ha
    have cue := (request_leaves (kind := 0x01) (key := key) hl taken).same .cue
    simp only [Block.same, State.setCue_cue, State.releaseCue_cue, State.hearFrame_cue] at cue
    refine ⟨_, rfl, request_answers_calm hl taken (by simp [sameBut_iff, State.releaseCue]), ?_, ?_⟩
    · rw [cue]
      exact Table.get_put key _ hwf
    · rw [cue]
      exact ⟨rfl, rfl, rfl⟩
  · exact cue_edit_answers (act := amendCue key presence w) hl (amendCue_taken (s := s.hearFrame) hk hc ha hp hw)
      (Table.get_put key _ hwf)
  · exact ⟨_, rfl, request_reports (act := amendCue key presence w) hl (amendCue_empty (s := s.hearFrame) hk hc ha hp)⟩
  · obtain ⟨answers, cues, lines, turntable, -⟩ := retireCue_idle_answers (bs := [.cue]) false hl hk hc ha (by simp)
    exact ⟨_, rfl, answers, cues, lines, turntable⟩
  · by_cases ha : c.state = .active
    · obtain ⟨answers, cues, lines, snd⟩ := retireCue_forced_answers hl hk hc ha
      exact ⟨_, rfl, answers, cues, lines, fun _ => snd, fun h => absurd ha h⟩
    · obtain ⟨answers, cues, lines, -, snd⟩ := retireCue_idle_answers (bs := [.cue, .snd]) true hl hk hc ha (by simp)
      exact ⟨_, rfl, answers, cues, lines, fun h => absurd h ha, fun _ => snd⟩

end Sys2Proof.Machine
end

section
/-! SUPPORT. What one action of a cue does (05 R105 to R112): CONFLICT and SKIPPED, the claims for an output case by case,
and each action in the state where it is carried out. -/

namespace Sys2Proof.Machine

variable (s : State)

/-! ### CONFLICT and SKIPPED (05 R105, R110) -/

/-- An edit of one cue, read at every key. -/
theorem State.updateCue_get (id : Nat) (f : Cue → Cue) (k : Nat) : Table.get (s.updateCue id f).cue.cues k =
    (Table.get s.cue.cues k).map (fun c => if k = id then f c else c) := by
  rw [State.updateCue, State.setCue_cue, Table.get_update]
  split
  · rfl
  · exact Option.map_id'.symm

theorem State.conflict_ntu (id holder output : Nat) : (s.conflict id holder output).ntu =
    ((s.raise (.cueConflict id output)).raise (.cueConflict holder output)).ntu := rfl

/-- CONFLICT is set on the claimer and on the holder. -/
theorem State.conflict_get (id holder output k : Nat) : Table.get (s.conflict id holder output).cue.cues k =
    (Table.get s.cue.cues k).map (fun c => if k = id ∨ k = holder then { c with conflict := true } else c) := by
  have edits : (s.conflict id holder output).cue =
    ((s.updateCue id (fun c => { c with conflict := true })).updateCue holder (fun c => { c with conflict := true })).cue :=
    rfl
  rw [edits, State.updateCue_get, State.updateCue_get, Option.map_map]
  congr 1
  funext c
  by_cases hi : k = id
  · simp [hi]
  · simp only [Function.comp_apply, hi, false_or, if_false]

/-- The action at `idx` of cue `id` was not carried out (05 R105). -/
structure State.Skips (id idx : Nat) (s t : State) : Prop where
  frame : SameBut [.cue, .ntu] s t
  cue : t.cue = { s.cue with cues := t.cue.cues }
  get : ∀ k, Table.get t.cue.cues k =
    (Table.get s.cue.cues k).map (fun c => if k = id then { c with skipped := true } else c)
  ntu : t.ntu = (s.raise (.cueSkipped id (some idx))).ntu

theorem State.skipAction_skips (id idx : Nat) : s.Skips id idx (s.skipAction id idx) where
  frame := by simp [sameBut_iff]
  cue := rfl
  get := s.updateCue_get id _
  ntu := rfl

/-! ### Claims for an output (05 R110) -/

/-- The state after a claim of cue `id` on `output`, where taking the output leaves `taken`. -/
def State.claimed (id output : Nat) (s taken : State) : Settled → State
  | .won none => taken
  | .won (some h) => taken.conflict id h output
  | .lost h => s.conflict id h output

section
variable {s taken : State} {id output level h l : Nat}

/-- Case 1 of R110: the output is free. -/
theorem State.claimed_free : s.claimed id output taken (settleClaim id level none) = taken := rfl

/-- Case 2 of R110: the cue holds the output itself. -/
theorem State.claimed_own (hh : h = id) : s.claimed id output taken (settleClaim id level (some (h, l))) = taken := by
  rw [settleClaim, if_pos hh]
  rfl

/-- Cases 3 and 4 of R110: another cue holds the output, and keeps it unless its level is lower. -/
theorem State.claimed_other (hh : h ≠ id) : s.claimed id output taken (settleClaim id level (some (h, l))) =
    (if l < level then taken else s).conflict id h output := by
  rw [settleClaim, if_neg hh]
  split <;> rfl

end

/-- CONFLICT of a claim that `u`, which is `s` but for the output's holder, is left with. -/
theorem State.conflict_of_same {s u : State} {id holder output : Nat} (hc : u.cue.cues = s.cue.cues)
    (hn : u.ntu = s.ntu) :
    (∀ k, Table.get (u.conflict id holder output).cue.cues k = (Table.get s.cue.cues k).map
      (fun c => if k = id ∨ k = holder then { c with conflict := true } else c)) ∧
    (u.conflict id holder output).ntu =
      ((s.raise (.cueConflict id output)).raise (.cueConflict holder output)).ntu := by
  refine ⟨fun k => by rw [State.conflict_get, hc], ?_⟩
  rw [State.conflict_ntu]
  exact State.raise_ntu_congr (State.raise_ntu_congr hn _) _

/-! ### EFFECT (05 R110, R112) -/

/-- The line taken: its entry set. -/
def State.takeLine (line : Nat) (h : LineHold) (s : State) : State :=
  s.setCue { s.cue with lines := s.cue.lines.set line (some h) }

section
variable {s : State} {id level idx line on off n : Nat} {timed : Bool}

theorem State.runEffect_still (hm : s.msv.motion = .parked ∨ s.msv.motion = .eStop) :
    s.runEffect id level idx line on off n timed = s.skipAction id idx := if_pos hm

theorem State.runEffect_eq (hm : ¬(s.msv.motion = .parked ∨ s.msv.motion = .eStop)) :
    s.runEffect id level idx line on off n timed =
      s.claimed id line (s.takeLine line ⟨id, level, timed, on, off, n, .on, on⟩)
        (settleClaim id level ((s.cue.lines.getD line none).map (fun h => (h.holder, h.level)))) := if_neg hm

/-- A free line, or the cue's own, is taken (05 R110). -/
theorem State.runEffect_taken (hm : ¬(s.msv.motion = .parked ∨ s.msv.motion = .eStop)) {e : Option LineHold}
    (he : s.cue.lines[line]? = some e) (own : ∀ h, e = some h → h.holder = id) :
    s.runEffect id level idx line on off n timed = s.takeLine line ⟨id, level, timed, on, off, n, .on, on⟩ := by
  rw [State.runEffect_eq hm, List.getD_eq_getElem?_getD, he, Option.getD_some]
  cases e with
  | none => exact State.claimed_free
  | some h => exact State.claimed_own (own h rfl)

/-- Another cue's line is taken from a lower level, and CONFLICT set in any case (05 R110). -/
theorem State.runEffect_contested (hm : ¬(s.msv.motion = .parked ∨ s.msv.motion = .eStop)) {h : LineHold}
    (he : s.cue.lines[line]? = some (some h)) (other : h.holder ≠ id) :
    s.runEffect id level idx line on off n timed = State.conflict id h.holder line
      (if h.level < level then s.takeLine line ⟨id, level, timed, on, off, n, .on, on⟩ else s) := by
  rw [State.runEffect_eq hm, List.getD_eq_getElem?_getD, he]
  exact State.claimed_other other

end

/-! ### YAW (05 R110, R111) -/

/-- The turntable taken: its holder entry set and the target stored clamped (05 R111). -/
def State.takeTurntable (id level : Nat) (target : Int) (s : State) : State :=
  (s.setCue { s.cue with turntable := some ⟨id, level⟩ }).storeYawTarget target

theorem State.runYaw_eq (id level : Nat) (target : Int) : s.runYaw id level target =
    s.claimed id 12 (s.takeTurntable id level target)
      (settleClaim id level (s.cue.turntable.map (fun h => (h.holder, h.level)))) := rfl

/-- The turntable free, or the cue's own, is taken (05 R110). -/
theorem State.runYaw_taken {s : State} {id level : Nat} {target : Int}
    (own : ∀ h, s.cue.turntable = some h → h.holder = id) : s.runYaw id level target = s.takeTurntable id level target := by
  rw [State.runYaw_eq]
  cases he : s.cue.turntable with
  | none => exact State.claimed_free
  | some h => exact State.claimed_own (own h he)

/-- The turntable of another cue is taken from a lower level, and CONFLICT set in any case (05 R110). -/
theorem State.runYaw_contested {s : State} {id level : Nat} {target : Int} {h : TurnHold} (he : s.cue.turntable = some h)
    (other : h.holder ≠ id) : s.runYaw id level target = State.conflict id h.holder 12
      (if h.level < level then s.takeTurntable id level target else s) := by
  rw [State.runYaw_eq, he]
  exact State.claimed_other other

/-! ### PLAY (05 R106) -/

/-- A chosen voice is one of the six. -/
theorem chooseVoice_lt {vs : List Voice} {level i : Nat} (h : chooseVoice vs level = some i) : i < vs.length := by
  obtain ⟨v, hv, -⟩ := chooseVoice_yields h
  exact (List.getElem?_eq_some_iff.1 hv).1

theorem State.get_of_readyClip {s : State} {id : Nat} {c : Clip} (h : s.readyClip id = some c) :
    Table.get s.flp.clips id = some c := (Option.filter_eq_some_iff.1 h).1

/-- The voice that a claim has started, and the others (07 R145). -/
theorem State.startVoice_voice {s : State} {i : Nat} {q : Claim} {c : Clip} (hi : i < s.snd.voices.length)
    (hc : Table.get s.flp.clips q.clip = some c) (j : Nat) : (s.startVoice i q c).voice j =
      if j = i then { Voice.started q c s.snd.startCounter with
        refill := (Voice.started q c s.snd.startCounter).request c } else s.voice j := by
  rw [State.voice, State.startVoice_snd hi hc]
  split
  · next h => simp [h, hi]
  · next h => simp [State.voice, List.getElem?_set_ne (Ne.symm h)]

theorem State.startVoice_sameBut (i : Nat) (q : Claim) (c : Clip) :
    SameBut [.flp, .snd, .ntu, .free] s (s.startVoice i q c) := by simp [sameBut_iff]

section
variable {s : State} {id level idx clip gain : Nat} {buses : Buses} {loop fade : Bool}

theorem State.runPlay_started {c : Clip} {i : Nat} (hc : s.readyClip clip = some c)
    (hi : chooseVoice s.snd.voices level = some i) : s.runPlay id level idx clip buses gain loop fade =
      s.startVoice i ⟨clip, buses, gain, loop, fade, level, .cue id⟩ c := by
  rw [State.runPlay, State.claimVoice, hc, hi]

theorem State.runPlay_refused (h : s.readyClip clip = none ∨ chooseVoice s.snd.voices level = none) :
    s.runPlay id level idx clip buses gain loop fade = s.skipAction id idx := by
  have refused : s.claimVoice ⟨clip, buses, gain, loop, fade, level, .cue id⟩ = none := by
    unfold State.claimVoice
    rcases h with h | h
    · rw [h]
    · rw [h]
      split <;> simp_all
  rw [State.runPlay, refused]

end

/-! ### BEACON (05 R109, R116) -/

section
variable {s : State} {id idx code ms : Nat}

theorem State.runBeacon_full (h : 8 ≤ s.cue.beacon.length) : s.runBeacon id idx code = s.skipAction id idx := if_pos h

theorem State.runBeacon_queued (h : s.cue.beacon.length < 8) : s.runBeacon id idx code = s.setCue { s.cue with
    beacon := s.cue.beacon ++ [code], beaconEnd := some (s.cue.beaconEnd.getD (s.now + 20000)) } :=
  if_neg (Nat.not_le.2 h)

/-! ### DWELL (05 R107, 04 R84) -/

theorem State.runDwell_running (h : s.msv.motion = .running) : s.runDwell id idx ms =
    (s.setMsv { s.msv with motion := .dwell, dwell := some (.ramping ms), held := false }).raise (.motion .dwell) := by
  rw [State.runDwell, State.requestDwell, h]
  rfl

theorem State.runDwell_ramping {m : Nat} (h : s.msv.motion = .dwell) (hd : s.msv.dwell = some (.ramping m)) :
    s.runDwell id idx ms = s.setMsv { s.msv with dwell := some (.ramping (max m ms)) } := by
  rw [State.runDwell, State.requestDwell, h, hd]
  rfl

theorem State.runDwell_holding {u : Nat} (h : s.msv.motion = .dwell) (hd : s.msv.dwell = some (.holding u)) :
    s.runDwell id idx ms = s.setMsv { s.msv with dwell := some (.holding (max u (s.now + ms * 1000))) } := by
  rw [State.runDwell, State.requestDwell, h, hd]
  rfl

theorem State.runDwell_refused (h1 : s.msv.motion ≠ .running) (h2 : s.msv.motion ≠ .dwell) :
    s.runDwell id idx ms = s.skipAction id idx := by
  have refused : s.requestDwell ms = none := by
    unfold State.requestDwell
    split <;> simp_all
  rw [State.runDwell, refused]
  rfl

end

end Sys2Proof.Machine
end

section
/-! SUPPORT. What the doings of one cue leave of another: its record but for CONFLICT, and the outputs that it does not hold
(05 R104 to R112). -/

namespace Sys2Proof.Machine

/-! ### A cue apart from its CONFLICT flag -/

/-- A cue's record apart from CONFLICT, which the claim of any other cue may set (05 R110). -/
def Cue.core (c : Cue) : Cue := { c with conflict := false }

/-- The record of cue `k` apart from CONFLICT. -/
def State.core (k : Nat) (s : State) : Option Cue := (Table.get s.cue.cues k).map Cue.core

/-- The state of cue `k`. -/
def State.cueState (k : Nat) (s : State) : Option CueState := (Table.get s.cue.cues k).map (·.state)

theorem State.core_of_get {s : State} {k : Nat} {c : Cue} (h : Table.get s.cue.cues k = some c) :
    s.core k = some c.core := by rw [State.core, h]; rfl

theorem State.cueState_of_core {s t : State} {k : Nat} (h : t.core k = s.core k) : t.cueState k = s.cueState k := by
  have state : Cue.state ∘ Cue.core = Cue.state := rfl
  have := congrArg (Option.map Cue.state) h
  rwa [State.core, State.core, Option.map_map, Option.map_map, state] at this

theorem State.core_updateCue_ne (s : State) {id k : Nat} (f : Cue → Cue) (h : k ≠ id) :
    (s.updateCue id f).core k = s.core k := by
  simp [State.core, State.updateCue_get, h]

/-- An edit that does not look at CONFLICT is an edit of the rest. -/
theorem State.core_updateCue (s : State) (k : Nat) {f : Cue → Cue} (hf : ∀ c, (f c).core = f c.core) :
    (s.updateCue k f).core k = (s.core k).map f := by
  simp [State.core, State.updateCue_get, Function.comp_def, hf]

theorem State.core_conflict (s : State) (id holder output k : Nat) : (s.conflict id holder output).core k = s.core k := by
  rw [State.core, State.conflict_get, Option.map_map, State.core]
  congr 1
  funext c
  by_cases h : k = id ∨ k = holder
  · simp [h, Cue.core]
  · simp [h]

/-! ### What an exit releases -/

/-- Cue `k` holds none of the outputs that its exit releases (05 R104). -/
structure State.Vacant (k : Nat) (s : State) : Prop where
  turntable : ∀ h, s.cue.turntable = some h → h.holder ≠ k
  lines : ∀ (i : Nat) (h : LineHold), s.cue.lines[i]? = some (some h) → h.holder = k → h.timed = true ∧ h.remaining ≠ 0
  voices : ∀ v ∈ s.snd.voices, v.owner = .cue k → v.exitFade = true → v.state ≠ .playing

/-- A cue's outputs go with CUE's holders and SND's voices. -/
theorem State.Vacant.of_eq {k : Nat} {s t : State} (h : s.Vacant k) (ht : t.cue.turntable = s.cue.turntable)
    (hl : t.cue.lines = s.cue.lines) (hv : t.snd.voices = s.snd.voices) : t.Vacant k :=
  ⟨ht ▸ h.turntable, hl ▸ h.lines, hv ▸ h.voices⟩

theorem State.releaseLines_getElem? (p : LineHold → Bool) (s : State) {i : Nat} {h : LineHold}
    (hi : (s.releaseLines p).cue.lines[i]? = some (some h)) : s.cue.lines[i]? = some (some h) ∧ p h = false := by
  simpa [State.releaseLines, Option.filter_eq_some_iff] using hi

/-- A voice that is PLAYING after a fade is one that the fade has left alone (07 R150). -/
theorem State.mem_fadeVoices {p : Voice → Bool} {s : State} {w : Voice} (hw : w ∈ (s.fadeVoices p).snd.voices)
    (hp : w.state = .playing) : w ∈ s.snd.voices ∧ p w = false := by
  obtain ⟨v, hv, rfl⟩ := List.mem_map.1 hw
  cases hpv : p v with
  | false => simp [hpv, hv]
  | true =>
    rw [hpv, if_pos rfl, Voice.fade] at hp
    split at hp
    · cases hp
    · next hn => exact absurd hp hn

/-! ### What leaves a cue aside -/

/-- Cue `k` has its record as before but for CONFLICT, an output it does not hold it does not gain, and the vehicle stands
where it stood. -/
structure State.Aside (k : Nat) (s t : State) : Prop where
  core : t.core k = s.core k
  vacant : s.Vacant k → t.Vacant k
  pos : t.pos = s.pos

namespace State.Aside

variable {k : Nat} {s t u : State}

theorem refl (k : Nat) (s : State) : s.Aside k s := ⟨rfl, id, rfl⟩

theorem trans (h : s.Aside k t) (h' : t.Aside k u) : s.Aside k u :=
  ⟨h'.core.trans h.core, fun v => h'.vacant (h.vacant v), h'.pos.trans h.pos⟩

theorem of_same (hc : t.cue = s.cue) (hs : t.snd = s.snd) (hp : t.pos = s.pos) : s.Aside k t :=
  ⟨by rw [State.core, hc]; rfl, fun v => v.of_eq (by rw [hc]) (by rw [hc]) (by rw [hs]), hp⟩

/-- An edit of CUE's records alone. -/
theorem of_core (hc : t.core k = s.core k) (he : t.cue = { s.cue with cues := t.cue.cues }) (hs : t.snd = s.snd)
    (hp : t.pos = s.pos) : s.Aside k t :=
  ⟨hc, fun v => v.of_eq (by rw [he]) (by rw [he]) (by rw [hs]), hp⟩

end State.Aside

section
variable {k id : Nat} (s : State)

theorem State.updateCue_aside (f : Cue → Cue) (h : k ≠ id) : s.Aside k (s.updateCue id f) :=
  .of_core (s.core_updateCue_ne f h) rfl rfl rfl

theorem State.conflict_aside (holder output : Nat) : s.Aside k (s.conflict id holder output) :=
  .of_core (s.core_conflict _ _ _ _) rfl rfl rfl

theorem State.raise_aside (n : Notice) : s.Aside k (s.raise n) := .of_same rfl rfl rfl

theorem State.skipAction_aside (idx : Nat) (h : k ≠ id) : s.Aside k (s.skipAction id idx) :=
  (s.updateCue_aside _ h).trans (State.raise_aside _ _)

/-- An output taken by another cue. -/
theorem State.takeLine_aside (line : Nat) {h : LineHold} (hk : h.holder ≠ k) : s.Aside k (s.takeLine line h) := by
  refine ⟨rfl, fun v => ⟨v.turntable, fun i e he => ?_, v.voices⟩, rfl⟩
  rw [State.takeLine, State.setCue_cue, List.getElem?_set] at he
  split at he
  · split at he
    · obtain rfl := Option.some.inj (Option.some.inj he)
      exact fun h => absurd h hk
    · cases he
  · exact v.lines i e he

theorem State.takeTurntable_aside (level : Nat) (target : Int) (h : k ≠ id) :
    s.Aside k (s.takeTurntable id level target) := by
  refine ⟨rfl, fun v => ⟨fun e he => ?_, v.lines, v.voices⟩, rfl⟩
  cases he
  exact h.symm

theorem State.claimed_aside {s taken : State} (output : Nat) (c : Settled) (h : s.Aside k taken) :
    s.Aside k (s.claimed id output taken c) := by
  cases c with
  | won from_ =>
    cases from_ with
    | none => exact h
    | some holder => exact h.trans (State.conflict_aside _ _ _)
  | lost holder => exact s.conflict_aside _ _

/-- A voice started for another owner. -/
theorem State.startVoice_aside {i : Nat} {q : Claim} {c : Clip} (hi : i < s.snd.voices.length)
    (hc : Table.get s.flp.clips q.clip = some c) (hq : q.owner ≠ .cue k) : s.Aside k (s.startVoice i q c) := by
  have cue := State.startVoice_cue s i q c
  refine ⟨by rw [State.core, cue]; rfl, fun v => ⟨cue ▸ v.turntable, cue ▸ v.lines, fun w hw => ?_⟩, by simp⟩
  rw [State.startVoice_snd hi hc] at hw
  obtain hw | rfl := List.mem_or_eq_of_mem_set hw
  · exact v.voices w hw
  · exact fun h => absurd h hq

theorem State.runPlay_aside (level idx clip gain : Nat) (buses : Buses) (loop fade : Bool) (h : k ≠ id) :
    s.Aside k (s.runPlay id level idx clip buses gain loop fade) := by
  cases hc : s.readyClip clip with
  | none => exact State.runPlay_refused (.inl hc) ▸ s.skipAction_aside idx h
  | some c =>
    cases hi : chooseVoice s.snd.voices level with
    | none => exact State.runPlay_refused (.inr hi) ▸ s.skipAction_aside idx h
    | some i =>
      rw [State.runPlay_started hc hi]
      refine s.startVoice_aside (chooseVoice_lt hi) (State.get_of_readyClip hc) ?_
      simpa using h.symm

theorem State.runDwell_aside (idx ms : Nat) (h : k ≠ id) : s.Aside k (s.runDwell id idx ms) := by
  rw [State.runDwell]
  cases hd : s.requestDwell ms with
  | none => exact s.skipAction_aside idx h
  | some t => exact .of_same (State.requestDwell_cue hd) (State.requestDwell_snd hd) (State.requestDwell_pos hd)

/-- The actions of a cue leave every other aside. -/
theorem State.runAction_aside (level idx : Nat) (a : Action) (h : k ≠ id) :
    s.Aside k (s.runAction id level idx a) := by
  cases a with
  | play c b g l x => exact s.runPlay_aside level idx c g b l x h
  | effect n on off c t =>
    by_cases hm : s.msv.motion = .parked ∨ s.msv.motion = .eStop
    · rw [State.runAction, State.runEffect_still hm]
      exact s.skipAction_aside idx h
    · rw [State.runAction, State.runEffect_eq hm]
      exact State.claimed_aside _ _ (s.takeLine_aside _ h.symm)
  | beacon c =>
    by_cases hb : 8 ≤ s.cue.beacon.length
    · rw [State.runAction, State.runBeacon_full hb]
      exact s.skipAction_aside idx h
    · rw [State.runAction, State.runBeacon_queued (Nat.not_le.1 hb)]
      exact ⟨rfl, fun v => v.of_eq rfl rfl rfl, rfl⟩
  | yaw y =>
    rw [State.runAction, State.runYaw_eq]
    exact State.claimed_aside _ _ (s.takeTurntable_aside _ _ h)
  | dwell ms => exact s.runDwell_aside idx ms h
  | slow v => exact s.updateCue_aside _ h

theorem State.runActions_aside (level idx : Nat) (as : List Action) (s : State) (h : k ≠ id) :
    s.Aside k (State.runActions id level idx as s) := by
  induction as generalizing idx s with
  | nil => exact .refl k s
  | cons a as ih => exact (s.runAction_aside level idx a h).trans (ih _ _)

theorem State.fireCue_aside (c : Cue) (h : k ≠ id) : s.Aside k (s.fireCue id c) := by
  unfold State.fireCue
  dsimp only
  refine State.Aside.trans ?_ (State.runActions_aside _ _ _ _ h)
  split
  · exact (s.updateCue_aside _ h).trans (State.raise_aside _ _)
  · exact s.updateCue_aside _ h

theorem State.skipCue_aside (h : k ≠ id) : s.Aside k (s.skipCue id) :=
  (s.updateCue_aside _ h).trans (State.raise_aside _ _)

/-- An exit takes holders away and fades voices. -/
theorem State.exitCue_aside (all : Bool) (h : k ≠ id) : s.Aside k (s.exitCue id all) := by
  refine ⟨State.core_updateCue_ne _ _ h, fun v => ⟨fun e he => ?_, fun i e he => ?_, fun w hw ho hx => ?_⟩, rfl⟩
  · exact v.turntable e (Option.filter_eq_some_iff.1 he).1
  · exact v.lines i e (State.releaseLines_getElem? _ s he).1
  · exact fun hp => v.voices w (State.mem_fadeVoices hw hp).1 ho hx hp

end

end Sys2Proof.Machine
end

section
/-! PROOFS. What an evaluation does to one cue and to the outputs it holds (05 R99 to R104), and its actions (05 R105 to
R112). -/

namespace Sys2Proof.Machine

/-! ### The cue's own turn -/

theorem State.exitCue_vacant (id : Nat) (all : Bool) (s : State) : (s.exitCue id all).Vacant id := by
  refine ⟨fun e he => ?_, fun i e he hh => ?_, fun w hw ho hx => ?_⟩
  · exact of_decide_eq_true (Option.filter_eq_some_iff.1 he).2
  · have kept := (State.releaseLines_getElem? _ s he).2
    simpa [hh] using kept
  · intro hp
    have unnamed := (State.mem_fadeVoices hw hp).2
    simp [ho, hx] at unnamed

theorem State.exitCue_core {id : Nat} (all : Bool) {s : State} {c : Cue} (hc : s.core id = some c) :
    (s.exitCue id all).core id = some { c with slow := none, state := .spent } := by
  have edit := State.core_updateCue s id (f := fun c => { c with slow := none, state := .spent }) fun _ => rfl
  rw [hc] at edit
  exact edit

/-- The record of a cue, read apart from CONFLICT. -/
theorem State.get_of_core {s : State} {k : Nat} {c : Cue} (hc : s.core k = some c) :
    ∃ d, Table.get s.cue.cues k = some d ∧ d.core = c := Option.map_eq_some_iff.1 hc

/-- Cue `k` goes from the record `c`, read apart from CONFLICT, to `d`. One that is not ACTIVE afterwards holds nothing that
an exit releases, and no cap, if it was ACTIVE or held nothing before. -/
structure State.Brings (k : Nat) (s t : State) (c d : Cue) : Prop where
  core : t.core k = some d
  vacant : d.state ≠ .active → c.state = .active ∨ s.Vacant k → t.Vacant k
  cap : d.state ≠ .active → c.state = .active ∨ c.slow = none → d.slow = none
  pos : t.pos = s.pos

namespace State.Brings

variable {k : Nat} {s t u : State} {c d e : Cue}

theorem trans (h : s.Brings k t c d) (h' : t.Brings k u d e) : s.Brings k u c e where
  core := h'.core
  vacant he hc := h'.vacant he <| by
    by_cases hd : d.state = .active
    · exact .inl hd
    · exact .inr (h.vacant hd hc)
  cap he hc := h'.cap he <| by
    by_cases hd : d.state = .active
    · exact .inl hd
    · exact .inr (h.cap hd hc)
  pos := h'.pos.trans h.pos

theorem of_aside (h : s.Aside k t) (hc : s.core k = some c) : s.Brings k t c c :=
  ⟨h.core.trans hc, fun hn hv => h.vacant (hv.resolve_left hn), fun hn hv => hv.resolve_left hn, h.pos⟩

/-- An exit: the cue is SPENT, and its outputs and its cap are released (05 R104). -/
theorem of_exit (hc : s.core k = some c) :
    s.Brings k (s.exitCue k false) c { c with slow := none, state := .spent } :=
  ⟨State.exitCue_core _ hc, fun _ _ => s.exitCue_vacant _ _, fun _ _ => rfl, rfl⟩

/-- An edit of a cue that is not ACTIVE, apart from its CONFLICT and its cap. -/
theorem of_edit {f : Cue → Cue} (hc : s.core k = some c) (hn : c.state ≠ .active) (hf : ∀ c, (f c).core = f c.core)
    (hs : ∀ c, (f c).slow = c.slow) : s.Brings k (s.updateCue k f) c (f c) where
  core := by rw [s.core_updateCue k hf, hc]; rfl
  vacant _ hv := (hv.resolve_left hn).of_eq rfl rfl rfl
  cap _ hv := (hs c).trans (hv.resolve_left hn)
  pos := rfl

end State.Brings

/-! ### Step 1 of R99: a cue of a segment that has been left (05 R100) -/

/-- A cue whose segment has been left. -/
def Cue.departed (c : Cue) : Cue :=
  { c with
    state := if c.everyPass = true ∧ (c.state = .active ∨ c.state = .spent) then .armed
      else if c.state = .active then .spent else c.state
    slow := if c.state = .active then none else c.slow }

theorem Cue.departed_ne_active (c : Cue) : c.departed.state ≠ .active := by
  unfold Cue.departed
  dsimp only
  split_ifs <;> simp_all

section
variable {s : State} {k seg len : Nat} {c : Cue}

/-- Step 1 reads of a cue nothing of its CONFLICT. -/
theorem State.leaveCue_eq (hc : s.core k = some c) : s.leaveCue seg k =
    if c.segment ≠ seg then s
    else
      let t := if c.state = .active then s.exitCue k false else s
      if c.everyPass && (c.state = .active || c.state = .spent) then t.updateCue k (fun c => { c with state := .armed })
      else t := by
  obtain ⟨d, hd, rfl⟩ := State.get_of_core hc
  rw [State.leaveCue, hd]
  rfl

theorem State.leaveCue_away (hc : s.core k = some c) (hs : c.segment ≠ seg) : s.leaveCue seg k = s := by
  rw [State.leaveCue_eq hc, if_pos hs]

theorem State.leaveCue_brings (hc : s.core k = some c) (hs : c.segment = seg) :
    s.Brings k (s.leaveCue seg k) c c.departed := by
  have rearm {t : State} {e : Cue} (he : t.core k = some e) (hn : e.state ≠ .active) :=
    State.Brings.of_edit (f := fun c => { c with state := .armed }) he hn (fun _ => rfl) fun _ => rfl
  rw [State.leaveCue_eq hc, if_neg (not_not.2 hs)]
  by_cases ha : c.state = .active
  · have exits := State.Brings.of_exit hc
    by_cases hp : c.everyPass = true
    · simpa [ha, hp, Cue.departed] using exits.trans (rearm exits.core (by simp))
    · simpa [ha, hp, Cue.departed] using exits
  · by_cases hp : c.everyPass = true ∧ c.state = .spent
    · simpa [ha, hp, Cue.departed] using rearm hc ha
    · simpa [ha, hp, Cue.departed] using State.Brings.of_aside (.refl k s) hc

theorem State.leaveCue_aside {id : Nat} (s : State) (h : k ≠ id) : s.Aside k (s.leaveCue seg id) := by
  unfold State.leaveCue
  dsimp only
  repeat' split
  · exact .refl k s
  · exact .refl k s
  · exact (s.exitCue_aside _ h).trans (State.updateCue_aside _ _ h)
  · exact s.updateCue_aside _ h
  · exact s.exitCue_aside _ h
  · exact .refl k s

/-! ### Step 2 of R99: the effective end (05 R101) -/

/-- A cue once its effective end on the active segment has been looked at, with the vehicle at `x`. -/
def Cue.ended (seg len x : Nat) (c : Cue) : Cue :=
  if c.segment = seg ∧ c.state = .active ∧ min c.stop len ≤ x then { c with slow := none, state := .spent } else c

theorem State.endCue_brings (hc : s.core k = some c) : s.Brings k (s.endCue seg len k) c (c.ended seg len s.pos.s) := by
  have step : s.endCue seg len k =
      if c.segment = seg ∧ c.state = .active ∧ min c.stop len ≤ s.pos.s then s.exitCue k false else s := by
    obtain ⟨d, hd, rfl⟩ := State.get_of_core hc
    rw [State.endCue, hd]
    rfl
  rw [step, Cue.ended]
  split
  · exact .of_exit hc
  · exact .of_aside (.refl k s) hc

theorem State.endCue_aside {id : Nat} (s : State) (h : k ≠ id) : s.Aside k (s.endCue seg len id) := by
  unfold State.endCue
  repeat' split
  · exact .refl k s
  · exact s.exitCue_aside _ h
  · exact .refl k s

/-! ### Step 3 of R99: the window (05 R102, R103) -/

/-- The judgement of an ARMED cue of the active segment: fired, skipped, or left as it is. -/
def Cue.judged (len : Nat) (p : Pos) (c d : Cue) : Prop :=
  (c.start ≤ p.s → p.s < min c.stop len → d.state = .active) ∧
  (c.start < min c.stop len → min c.stop len ≤ p.s → p.sPrev < c.start → d.state = .spent ∧ d.skipped = true) ∧
  (¬(c.start ≤ p.s ∧ p.s < min c.stop len) → ¬(c.start < min c.stop len ∧ min c.stop len ≤ p.s ∧ p.sPrev < c.start) →
    d.state = .armed)

theorem State.judgeCue_eq (hc : s.core k = some c) : s.judgeCue seg len k =
    if c.segment ≠ seg ∨ c.state ≠ .armed then s
    else if c.start ≤ s.pos.s ∧ s.pos.s < min c.stop len then s.fireCue k c
    else if c.start < min c.stop len ∧ min c.stop len ≤ s.pos.s ∧ s.pos.sPrev < c.start then s.skipCue k
    else s := by
  obtain ⟨d, hd, rfl⟩ := State.get_of_core hc
  rw [State.judgeCue, hd]
  rfl

theorem State.judgeCue_away (hc : s.core k = some c) (ha : c.segment ≠ seg ∨ c.state ≠ .armed) :
    s.judgeCue seg len k = s := by
  rw [State.judgeCue_eq hc, if_pos ha]

theorem State.cueState_congr {s t : State} (h : t.cue.cues = s.cue.cues) (k : Nat) : t.cueState k = s.cueState k := by
  rw [State.cueState, h]
  rfl

theorem State.cueState_updateCue (id : Nat) {f : Cue → Cue} (hf : ∀ c, (f c).state = c.state) (s : State) (k : Nat) :
    (s.updateCue id f).cueState k = s.cueState k := by
  rw [State.cueState, State.updateCue_get, Option.map_map, State.cueState]
  congr 1
  funext c
  by_cases h : k = id
  · simp [h, hf]
  · simp [h]

theorem State.cueState_skipAction (id idx : Nat) (s : State) (k : Nat) :
    (s.skipAction id idx).cueState k = s.cueState k :=
  State.cueState_updateCue id (f := fun c => { c with skipped := true }) (fun _ => rfl) s k

theorem State.cueState_claimed {s taken : State} (id output : Nat) (c : Settled) (k : Nat)
    (h : taken.cue.cues = s.cue.cues) : (s.claimed id output taken c).cueState k = s.cueState k := by
  have same := State.cueState_congr h k
  cases c with
  | won from_ =>
    cases from_ with
    | none => exact same
    | some holder => exact (State.cueState_of_core (State.core_conflict _ _ _ _ k)).trans same
  | lost holder => exact State.cueState_of_core (State.core_conflict _ _ _ _ k)

/-- The state of a cue is not an action's to change. -/
theorem State.runAction_cueState (id level idx : Nat) (a : Action) (s : State) (k : Nat) :
    (s.runAction id level idx a).cueState k = s.cueState k := by
  have skipped := State.cueState_skipAction id idx s k
  cases a with
  | play c b g l x =>
    rw [State.runAction, State.runPlay]
    split
    · next h => exact State.cueState_congr (by rw [State.claimVoice_cue h]) k
    · exact skipped
  | effect n on off c t =>
    by_cases hm : s.msv.motion = .parked ∨ s.msv.motion = .eStop
    · rwa [State.runAction, State.runEffect_still hm]
    · rw [State.runAction, State.runEffect_eq hm]
      exact State.cueState_claimed _ _ _ _ rfl
  | beacon c =>
    by_cases hb : 8 ≤ s.cue.beacon.length
    · rwa [State.runAction, State.runBeacon_full hb]
    · rw [State.runAction, State.runBeacon_queued (Nat.not_le.1 hb)]
      rfl
  | yaw y =>
    rw [State.runAction, State.runYaw_eq]
    exact State.cueState_claimed _ _ _ _ rfl
  | dwell ms =>
    rw [State.runAction, State.runDwell]
    cases hd : s.requestDwell ms with
    | none => exact skipped
    | some t => exact State.cueState_congr (t := t) (by rw [State.requestDwell_cue hd]) k
  | slow v =>
    exact State.cueState_updateCue id (f := fun c => { c with slow := some (min v (c.slow.getD v)) })
      (fun _ => rfl) s k

theorem State.runActions_cueState (id level idx : Nat) (as : List Action) (s : State) (k : Nat) :
    (State.runActions id level idx as s).cueState k = s.cueState k := by
  induction as generalizing idx s with
  | nil => rfl
  | cons a as ih => exact (ih _ _).trans (s.runAction_cueState id level idx a k)

/-- A cue that fires is ACTIVE (05 R102). -/
theorem State.fireCue_cueState (e : Cue) (hc : s.core k = some c) : (s.fireCue k e).cueState k = some .active := by
  have active : (s.updateCue k (fun c => { c with state := .active, slow := none })).cueState k = some .active := by
    obtain ⟨d, hd, rfl⟩ := State.get_of_core hc
    simp [State.cueState, State.updateCue_get, hd]
  unfold State.fireCue
  dsimp only
  rw [State.runActions_cueState]
  split
  · exact active
  · exact active

theorem State.fireCue_brings (e : Cue) (hc : s.core k = some c) :
    ∃ d, d.state = .active ∧ s.Brings k (s.fireCue k e) c d := by
  obtain ⟨d, hd, ha⟩ := Option.map_eq_some_iff.1 (State.fireCue_cueState e hc)
  exact ⟨d.core, ha, State.core_of_get hd, fun hn => absurd ha hn, fun hn => absurd ha hn, by simp⟩

theorem State.skipCue_brings (hc : s.core k = some c) (hn : c.state ≠ .active) :
    s.Brings k (s.skipCue k) c { c with state := .spent, skipped := true } :=
  have spent := State.Brings.of_edit (f := fun c => { c with state := .spent, skipped := true }) hc hn (fun _ => rfl)
    fun _ => rfl
  spent.trans (.of_aside (State.raise_aside _ _) spent.core)

/-- Step 3 judges the ARMED cues of the active segment, and leaves the others as they are. -/
def Cue.Verdict (seg len : Nat) (p : Pos) (c d : Cue) : Prop :=
  (c.segment = seg → c.state = .armed → c.judged len p d) ∧ (c.segment ≠ seg ∨ c.state ≠ .armed → d = c)

theorem State.judgeCue_judges (hc : s.core k = some c) (hs : c.segment = seg) (ha : c.state = .armed) :
    ∃ d, c.judged len s.pos d ∧ s.Brings k (s.judgeCue seg len k) c d := by
  rw [State.judgeCue_eq hc, if_neg (by simp [hs, ha])]
  by_cases inside : c.start ≤ s.pos.s ∧ s.pos.s < min c.stop len
  · obtain ⟨d, active, fires⟩ := State.fireCue_brings c hc
    rw [if_pos inside]
    exact ⟨d, ⟨fun _ _ => active, fun _ _ => by omega, fun h => absurd inside h⟩, fires⟩
  · rw [if_neg inside]
    by_cases jumped : c.start < min c.stop len ∧ min c.stop len ≤ s.pos.s ∧ s.pos.sPrev < c.start
    · rw [if_pos jumped]
      exact ⟨_, ⟨fun h1 h2 => absurd ⟨h1, h2⟩ inside, fun _ _ _ => ⟨rfl, rfl⟩, fun _ h => absurd jumped h⟩,
        State.skipCue_brings hc (by simp [ha])⟩
    · rw [if_neg jumped]
      exact ⟨c, ⟨fun h1 h2 => absurd ⟨h1, h2⟩ inside, fun h1 h2 h3 => absurd ⟨h1, h2, h3⟩ jumped, fun _ _ => ha⟩,
        .of_aside (.refl k s) hc⟩

theorem State.judgeCue_brings (hc : s.core k = some c) :
    ∃ d, c.Verdict seg len s.pos d ∧ s.Brings k (s.judgeCue seg len k) c d := by
  by_cases ha : c.segment = seg ∧ c.state = .armed
  · obtain ⟨d, judged, brings⟩ := State.judgeCue_judges (len := len) hc ha.1 ha.2
    exact ⟨d, ⟨fun _ _ => judged, fun h => absurd ha (not_and_or.2 h)⟩, brings⟩
  · rw [State.judgeCue_away hc (not_and_or.1 ha)]
    exact ⟨c, ⟨fun h1 h2 => absurd ⟨h1, h2⟩ ha, fun _ => rfl⟩, .of_aside (.refl k s) hc⟩

theorem State.judgeCue_aside {id : Nat} (s : State) (h : k ≠ id) : s.Aside k (s.judgeCue seg len id) := by
  unfold State.judgeCue
  repeat' split
  · exact .refl k s
  · exact .refl k s
  · exact s.fireCue_aside _ h
  · exact s.skipCue_aside h
  · exact .refl k s

end

/-! ### The three steps (05 R99) -/

/-- In a step that takes each id once, cue `k` has one turn; the turns of the others leave it aside. -/
theorem eachId_turn {k : Nat} {f : Nat → State → State} (hf : ∀ id u, k ≠ id → State.Aside k u (f id u))
    {ids : List Nat} (hk : k ∈ ids) (hn : ids.Nodup) (s : State) :
    ∃ u, s.Aside k u ∧ (f k u).Aside k (eachId f ids s) := by
  have others (l : List Nat) (hl : k ∉ l) (s : State) : s.Aside k (eachId f l s) := by
    induction l generalizing s with
    | nil => exact .refl k s
    | cons id l ih =>
      rw [List.mem_cons, not_or] at hl
      exact (hf id s hl.1).trans (ih hl.2 _)
  obtain ⟨before, after, rfl⟩ := List.append_of_mem hk
  have split : eachId f (before ++ k :: after) s = eachId f after (f k (eachId f before s)) := by simp [eachId]
  have apart : k ∉ before ∧ k ∉ after := by
    rw [List.nodup_middle, List.nodup_cons, List.mem_append, not_or] at hn
    exact hn.1
  exact ⟨_, others before apart.1 s, split ▸ others after apart.2 _⟩

/-- What cue `k` comes to at its turn it comes to in the step. -/
theorem eachId_brings {k : Nat} {f : Nat → State → State} (hf : ∀ id u, k ≠ id → State.Aside k u (f id u))
    {ids : List Nat} (hk : k ∈ ids) (hn : ids.Nodup) {s : State} {c : Cue} (hc : s.core k = some c) {p : Cue → Prop}
    (own : ∀ u : State, u.pos = s.pos → u.core k = some c → ∃ d, p d ∧ u.Brings k (f k u) c d) :
    ∃ d, p d ∧ s.Brings k (eachId f ids s) c d := by
  obtain ⟨u, before, after⟩ := eachId_turn hf hk hn s
  have hu : u.core k = some c := before.core.trans hc
  obtain ⟨d, hd, turn⟩ := own u before.pos hu
  exact ⟨d, hd, (State.Brings.of_aside before hc).trans (turn.trans (.of_aside after turn.core))⟩

/-- Step 1 of R99, where the vehicle has `moved` off the segment evaluated last. -/
def State.departures (moved : Bool) (ids : List Nat) (s : State) : State :=
  match moved, s.cue.evaluated with
  | true, some e => eachId (State.leaveCue e) ids s
  | _, _ => s

theorem State.departures_left {s : State} {e : Nat} (ids : List Nat) (he : s.cue.evaluated = some e) :
    s.departures true ids = eachId (State.leaveCue e) ids s := by
  unfold State.departures
  rw [he]

theorem State.departures_none {s : State} {moved : Bool} (ids : List Nat)
    (h : ∀ e, ¬(moved = true ∧ s.cue.evaluated = some e)) : s.departures moved ids = s := by
  unfold State.departures
  split
  · next e he => exact absurd ⟨rfl, he⟩ (h e)
  · rfl

/-- The evaluation on segment `a` is its three steps, and keeps `a` as the segment evaluated last. -/
theorem State.evaluate_eq {s : State} {a : Nat} {g : Segment} (moved : Bool) (h : s.activeSegment = some (a, g)) :
    let ids := Table.keys s.cue.cues
    let t := eachId (State.judgeCue a g.length) ids (eachId (State.endCue a g.length) ids (s.departures moved ids))
    s.evaluate moved = t.setCue { t.cue with evaluated := some a } := by
  rw [State.evaluate, h]
  rfl

/-- The ids of a table rise, so each comes up once. -/
theorem Table.nodup_keys {α : Type} {t : Table α} (h : Table.wf t) : (Table.keys t).Nodup :=
  (List.Pairwise.map _ (fun _ _ hab => hab) h : (Table.keys t).Pairwise (· < ·)).imp Nat.ne_of_lt

/-- The record of a cue of the active segment or another after step 1 of R99. -/
def Cue.afterLeave (moved : Bool) (evaluated : Option Nat) (c : Cue) : Cue :=
  if moved = true ∧ evaluated = some c.segment then c.departed else c

section
variable {s : State} {k : Nat} {c : Cue} {moved : Bool}

theorem State.departures_brings {ids : List Nat} (hk : k ∈ ids) (hn : ids.Nodup) (hc : s.core k = some c) :
    s.Brings k (s.departures moved ids) c (c.afterLeave moved s.cue.evaluated) := by
  by_cases h : ∃ e, moved = true ∧ s.cue.evaluated = some e
  · obtain ⟨e, rfl, he⟩ := h
    rw [State.departures_left ids he]
    obtain ⟨d, rfl, brings⟩ := eachId_brings (p := (· = c.afterLeave true s.cue.evaluated))
      (fun id u => State.leaveCue_aside u) hk hn hc fun u _ hu => by
        refine ⟨_, rfl, ?_⟩
        by_cases hs : c.segment = e
        · rw [Cue.afterLeave, if_pos ⟨rfl, hs ▸ he⟩]
          exact State.leaveCue_brings hu hs
        · rw [Cue.afterLeave, if_neg (by simp [he, Ne.symm hs]), State.leaveCue_away hu hs]
          exact .of_aside (.refl k u) hu
    exact brings
  · rw [State.departures_none ids fun e he => h ⟨e, he⟩, Cue.afterLeave, if_neg fun he => h ⟨_, he⟩]
    exact .of_aside (.refl k s) hc

/-- What the steps of R99 make of a cue on the active segment `a`, apart from CONFLICT: left or not, ended or not, then
judged if it is an ARMED cue of that segment. -/
def Cue.Evaluated (moved : Bool) (evaluated : Option Nat) (a len : Nat) (p : Pos) (c d : Cue) : Prop :=
  ((c.afterLeave moved evaluated).ended a len p.s).Verdict a len p d

theorem State.evaluate_brings {a : Nat} {g : Segment} (hg : s.activeSegment = some (a, g)) (hwf : Table.wf s.cue.cues)
    (hc : s.core k = some c) :
    ∃ d, c.Evaluated moved s.cue.evaluated a g.length s.pos d ∧ s.Brings k (s.evaluate moved) c d := by
  obtain ⟨r, hr, -⟩ := State.get_of_core hc
  have hk : k ∈ Table.keys s.cue.cues := Table.mem_keys.2 (by rw [hr]; rfl)
  have hn := Table.nodup_keys hwf
  have leaves := State.departures_brings (moved := moved) hk hn hc
  obtain ⟨e, rfl, ends⟩ := eachId_brings (p := (· = (c.afterLeave moved s.cue.evaluated).ended a g.length s.pos.s))
    (fun id u => State.endCue_aside (seg := a) (len := g.length) u) hk hn leaves.core fun u hu hcu =>
      ⟨_, rfl, by rw [← leaves.pos, ← hu]; exact State.endCue_brings hcu⟩
  obtain ⟨d, verdict, judges⟩ := eachId_brings (p := c.Evaluated moved s.cue.evaluated a g.length s.pos)
    (fun id u => State.judgeCue_aside (seg := a) (len := g.length) u) hk hn ends.core fun u hu hcu => by
      rw [← leaves.pos, ← ends.pos, ← hu] at hcu ⊢
      exact State.judgeCue_brings hcu
  refine ⟨d, verdict, (leaves.trans ends).trans (judges.trans ?_)⟩
  rw [State.evaluate_eq moved hg]
  exact .of_aside ⟨rfl, fun v => v.of_eq rfl rfl rfl, rfl⟩ judges.core

end

/-! ### The evaluation, case by case -/

namespace Cue.Evaluated

variable {moved : Bool} {evaluated : Option Nat} {a len : Nat} {p : Pos} {c d : Cue}

/-- Step 2 of R99 spares a cue that is not ACTIVE or is of another segment. -/
theorem ended_of_not {x : Nat} (h : c.segment ≠ a ∨ c.state ≠ .active) : c.ended a len x = c :=
  if_neg fun h' => h.elim (absurd h'.1) (absurd h'.2.1)

theorem of_stayed (h : c.Evaluated moved evaluated a len p d) (hl : ¬(moved = true ∧ evaluated = some c.segment)) :
    (c.ended a len p.s).Verdict a len p d := by
  unfold Cue.Evaluated Cue.afterLeave at h
  rwa [if_neg hl] at h

/-- A cue of a segment that has been left is not ACTIVE, so step 2 of R99 spares it. -/
theorem of_left (h : c.Evaluated moved evaluated a len p d) (hl : moved = true ∧ evaluated = some c.segment) :
    c.departed.Verdict a len p d := by
  unfold Cue.Evaluated Cue.afterLeave at h
  rwa [if_pos hl, ended_of_not (.inr c.departed_ne_active)] at h

theorem eq_of_stayed_away (h : c.Evaluated moved evaluated a len p d)
    (hl : ¬(moved = true ∧ evaluated = some c.segment)) (ha : c.segment ≠ a) : d = c := by
  have verdict := (h.of_stayed hl).2
  rw [ended_of_not (.inl ha)] at verdict
  exact verdict (.inl ha)

theorem judged_of_stayed (h : c.Evaluated moved evaluated a len p d)
    (hl : ¬(moved = true ∧ evaluated = some c.segment)) (ha : c.segment = a) (hs : c.state = .armed) :
    c.judged len p d := by
  have verdict := (h.of_stayed hl).1
  rw [ended_of_not (.inr (by simp [hs]))] at verdict
  exact verdict ha hs

theorem eq_of_stayed_still (h : c.Evaluated moved evaluated a len p d)
    (hl : ¬(moved = true ∧ evaluated = some c.segment)) (h1 : c.state ≠ .armed) (h2 : c.state ≠ .active) : d = c := by
  have verdict := (h.of_stayed hl).2
  rw [ended_of_not (.inr h2)] at verdict
  exact verdict (.inr h1)

/-- An ACTIVE cue of the active segment is SPENT at its effective end (05 R101). -/
theorem state_of_stayed_active (h : c.Evaluated moved evaluated a len p d)
    (hl : ¬(moved = true ∧ evaluated = some c.segment)) (ha : c.segment = a) (hs : c.state = .active) :
    d.state = if min c.stop len ≤ p.s then .spent else .active := by
  have state : (c.ended a len p.s).state = if min c.stop len ≤ p.s then .spent else .active := by
    unfold Cue.ended
    split_ifs <;> simp_all
  have notArmed : (c.ended a len p.s).state ≠ .armed := by
    rw [state]
    split <;> simp
  rw [(h.of_stayed hl).2 (.inr notArmed), state]

/-- A cue that exits is not ACTIVE after the evaluation (05 R100, R101, R104). -/
theorem ne_active_of_exit (h : c.Evaluated moved evaluated a len p d) (hs : c.state = .active)
    (he : (moved = true ∧ evaluated = some c.segment) ∧ c.segment ≠ a ∨
      ¬(moved = true ∧ evaluated = some c.segment) ∧ c.segment = a ∧ min c.stop len ≤ p.s) : d.state ≠ .active := by
  obtain ⟨hl, ha⟩ | ⟨hl, ha, hx⟩ := he
  · exact (h.of_left hl).2 (.inl ha) ▸ c.departed_ne_active
  · rw [h.state_of_stayed_active hl ha hs, if_pos hx]
    simp

end Cue.Evaluated

theorem Cue.state_eq_of_core {c d : Cue} (h : d.core = c.core) : d.state = c.state := by
  have states : d.core.state = c.core.state := by rw [h]
  exact states

/-- Settles O40: an evaluation by what its three steps make of one cue, the actions by the cases of each. -/
theorem cuesAtAnEvaluation : Obligations.CuesAtAnEvaluation := by
  refine ⟨fun s moved a k g r hg hwf hr => ?_, ?_, ?_, ?_⟩
  · obtain ⟨_, verdict, brings⟩ := State.evaluate_brings (moved := moved) hg hwf (State.core_of_get hr)
    obtain ⟨d, hd, rfl⟩ := State.get_of_core brings.core
    refine ⟨(s.evaluate_sameBut moved).mono, by rw [State.evaluate_eq moved hg]; rfl, d, hd, ?_, ?_, ?_, ?_, ?_⟩
    · exact fun hl ha => Cue.state_eq_of_core (verdict.eq_of_stayed_away hl ha)
    · exact fun hl ha => congrArg Cue.state ((verdict.of_left hl).2 (.inl ha))
    · exact fun hl ha => ⟨(verdict.of_left hl).1 ha, fun hs => congrArg Cue.state ((verdict.of_left hl).2 (.inr hs))⟩
    · refine fun hl ha => ⟨verdict.state_of_stayed_active hl ha, verdict.judged_of_stayed hl ha, fun hs => ?_⟩
      have still : r.state ≠ .armed ∧ r.state ≠ .active := by rcases hs with hs | hs <;> simp [hs]
      exact Cue.state_eq_of_core (verdict.eq_of_stayed_still hl still.1 still.2)
    · intro active exits
      have inactive : d.state ≠ .active := verdict.ne_active_of_exit active exits
      have vacant := brings.vacant inactive (.inl active)
      exact ⟨brings.cap inactive (.inl active), vacant.turntable, vacant.lines, vacant.voices⟩
  · intro s id level idx line on off n timed h1 h2
    have hm : ¬(s.msv.motion = .parked ∨ s.msv.motion = .eStop) := not_or.2 ⟨h1, h2⟩
    refine ⟨by simp [sameBut_iff], fun he => ?_, fun h he => ⟨fun own => ?_, fun other => ?_⟩⟩
    · rw [State.runEffect_taken hm he nofun]
      exact ⟨rfl, rfl⟩
    · rw [State.runEffect_taken hm he fun _ he' => Option.some.inj he' ▸ own]
      exact ⟨rfl, rfl⟩
    · rw [State.runEffect_contested hm he other]
      split
      · exact ⟨rfl, State.conflict_of_same rfl rfl⟩
      · exact ⟨rfl, State.conflict_of_same rfl rfl⟩
  · intro s id level idx target
    refine ⟨by simp [sameBut_iff, State.runAction], fun he => ?_, fun h he => ⟨fun own => ?_, fun other => ?_⟩⟩
    · rw [State.runAction, State.runYaw_taken fun _ he' => by simp [he] at he']
      exact ⟨rfl, rfl, rfl⟩
    · rw [State.runAction, State.runYaw_taken fun _ he' => Option.some.inj (he.symm.trans he') ▸ own]
      exact ⟨rfl, rfl, rfl⟩
    · rw [State.runAction, State.runYaw_contested he other]
      split
      · exact ⟨rfl, rfl, State.conflict_of_same rfl rfl⟩
      · exact ⟨rfl, he, State.conflict_of_same rfl rfl⟩
  · intro s id level idx
    have skips := s.skipAction_skips id idx
    refine ⟨fun clip buses gain loop fade => ⟨fun c i hc hi => ?_, fun h => ?_⟩, fun line on off n timed hm => ?_,
      fun code => ⟨fun h => ?_, fun h => ?_⟩,
      fun ms => ⟨fun h => ?_, fun h => ⟨fun m hd => ?_, fun u hd => ?_⟩, fun h1 h2 => ?_⟩,
      fun speed => ⟨by simp [sameBut_iff, State.runAction], rfl, s.updateCue_get id _⟩⟩
    · have voice := State.startVoice_voice (q := ⟨clip, buses, gain, loop, fade, level, .cue id⟩) (chooseVoice_lt hi)
        (State.get_of_readyClip hc)
      rw [State.runAction, State.runPlay_started hc hi]
      refine ⟨s.startVoice_sameBut _ _ _, fun j hj => (voice j).trans (if_neg hj), ?_⟩
      rw [voice i, if_pos rfl]
      rfl
    · rw [State.runAction, State.runPlay_refused h]
      exact ⟨skips.frame, skips.cue, skips.get, skips.ntu⟩
    · rw [State.runAction, State.runEffect_still hm]
      exact ⟨skips.frame, skips.cue, skips.get, skips.ntu⟩
    · rw [State.runAction, State.runBeacon_full h]
      exact ⟨skips.frame, skips.cue, skips.get, skips.ntu⟩
    · rw [State.runAction, State.runBeacon_queued h]
      exact ⟨by simp [sameBut_iff], rfl⟩
    · rw [State.runAction, State.runDwell_running h]
      exact ⟨by simp [sameBut_iff], rfl, rfl⟩
    · rw [State.runAction, State.runDwell_ramping h hd]
      exact ⟨by simp [sameBut_iff], rfl⟩
    · rw [State.runAction, State.runDwell_holding h hd]
      exact ⟨by simp [sameBut_iff], rfl⟩
    · rw [State.runAction, State.runDwell_refused h1 h2]
      exact ⟨skips.frame, skips.cue, skips.get, skips.ntu⟩

end Sys2Proof.Machine
end

section
/-! SUPPORT. The sound invariant by its parts, each about the records it speaks of: the clip store, the voices with the grant, the
cues' gains and m (06 R121, R126, 07 R142, R147, R158). -/

namespace Sys2Proof.Machine

/-! ### The parts -/

/-- The state of the clip under `id`, none when it is absent. -/
def clipState (clips : Table Clip) (id : Nat) : Option ClipState := (Table.get clips id).map (·.state)

/-- The queue holds exactly the QUEUED clips, VERIFY works on exactly the VERIFYING one, base gains are at most 256. -/
structure Flp.Stored (f : Flp) : Prop where
  sorted : Table.wf f.clips
  nodup : f.queue.Nodup
  queued : ∀ id, id ∈ f.queue ↔ clipState f.clips id = some .queued
  verifying : ∀ id, f.verifying.clip = some id ↔ clipState f.clips id = some .verifying
  gains : ∀ p ∈ f.clips, p.2.gain ≤ 256

/-- What holds of each voice: sounding, its clip is READY; IDLE, it holds nothing; its request, buffer and gains keep their
bounds. -/
structure Voice.Sound (clips : Table Clip) (v : Voice) : Prop where
  playing : v.sounding = true → v.clip.bind (clipState clips) = some .ready
  idle : v.sounding = false → v.buffer = [] ∧ v.refill = none
  refill : ∀ r, v.refill = some r → v.buffer.length ≤ 256 ∧ r.count ≤ 128
  buffer : v.buffer.length ≤ 384
  gain : v.gv ≤ 256
  steady : v.state = .playing → v.gv = v.target

/-- A refill under way that is still to be delivered serves its voice's request (06 R134). -/
def Served (voices : List Voice) (grant : Option Grant) : Prop :=
  ∀ g i a n, grant = some g → g.work = .refill i a n true → ∃ r, (voices.getD i Voice.reset).refill = some r ∧ n = r.count

/-- The six voices, sound over `clips`, and the grant. -/
structure Voiced (clips : Table Clip) (grant : Option Grant) (voices : List Voice) : Prop where
  six : voices.length = 6
  each : ∀ v ∈ voices, v.Sound clips
  served : Served voices grant

/-- The gains of the cues' actions are at most 256. -/
def GainsBounded (cues : Table Cue) : Prop := ∀ p ∈ cues, ∀ a ∈ p.2.actions, a.gain ≤ 256

theorem State.clipOf_state (s : State) (v : Voice) : (s.clipOf v).map (·.state) = v.clip.bind (clipState s.flp.clips) := by
  unfold State.clipOf clipState
  cases v.clip <;> rfl

theorem soundSound_iff (s : State) : s.SoundSound ↔
    s.flp.Stored ∧ Voiced s.flp.clips s.flp.grant s.snd.voices ∧ GainsBounded s.cue.cues ∧ s.snd.m ≤ s.masterTarget := by
  constructor
  · intro h
    refine ⟨⟨h.clipsSorted, h.queueNodup, h.queued, h.verifying, h.baseGains⟩, ⟨h.voices, fun v hv => ?_, h.served⟩,
      h.cueGains, h.master⟩
    exact ⟨fun hs => s.clipOf_state v ▸ h.playing v hv hs, h.idle v hv, h.refill v hv, h.buffer v hv, (h.gains v hv).1,
      (h.gains v hv).2⟩
  · rintro ⟨store, voiced, gains, master⟩
    exact {
      clipsSorted := store.sorted, voices := voiced.six, queueNodup := store.nodup, queued := store.queued
      verifying := store.verifying, playing := fun v hv hs => (s.clipOf_state v).trans ((voiced.each v hv).playing hs)
      idle := fun v hv => (voiced.each v hv).idle, refill := fun v hv => (voiced.each v hv).refill
      buffer := fun v hv => (voiced.each v hv).buffer, served := voiced.served
      gains := fun v hv => ⟨(voiced.each v hv).gain, (voiced.each v hv).steady⟩
      baseGains := store.gains, cueGains := gains, master := master }

/-- The master target reads the settings, the load share and the supply only (07 R158). -/
theorem State.masterTarget_congr {s t : State} (ht : t.settings = s.settings) (hl : t.snd.loadShare = s.snd.loadShare)
    (hm : t.msv.supplyLow = s.msv.supplyLow) : t.masterTarget = s.masterTarget := by
  unfold State.masterTarget
  rw [ht, hl, hm]

/-! ### One voice -/

namespace Voice.Sound

variable {clips : Table Clip} {v : Voice}

theorem reset (clips : Table Clip) : Voice.reset.Sound clips where
  playing := nofun
  idle _ := ⟨rfl, rfl⟩
  refill := nofun
  buffer := Nat.zero_le _
  gain := Nat.zero_le _
  steady := nofun

/-- An IDLE voice holds nothing (07 R142). -/
theorem silenced (h : v.Sound clips) : Voice.Sound clips { v with state := .idle, buffer := [], refill := none } where
  playing := nofun
  idle _ := ⟨rfl, rfl⟩
  refill := nofun
  buffer := Nat.zero_le _
  gain := h.gain
  steady := nofun

theorem withdrawn (h : v.Sound clips) : Voice.Sound clips { v with refill := none } where
  playing := h.playing
  idle hs := ⟨(h.idle hs).1, rfl⟩
  refill := nofun
  buffer := h.buffer
  gain := h.gain
  steady := h.steady

theorem faded (h : v.Sound clips) : v.fade.Sound clips := by
  unfold Voice.fade
  split
  · rename_i hp
    exact ⟨fun _ => h.playing (by simp [Voice.sounding, hp]), nofun, h.refill, h.buffer, h.gain, nofun⟩
  · exact h

/-- A request is placed by a sounding voice that holds 256 samples or fewer, for at most 128 samples (07 R147). -/
theorem requested {c : Clip} (h : v.Sound clips) (hn : v.needsRefill c = true) :
    Voice.Sound clips { v with refill := some ⟨v.fetch, min 128 (v.boundary c - v.fetch)⟩ } := by
  simp only [Voice.needsRefill, Bool.and_eq_true, decide_eq_true_eq] at hn
  obtain ⟨⟨⟨sounds, -⟩, few⟩, -⟩ := hn
  refine ⟨h.playing, fun hs => absurd (hs.symm.trans sounds) (by decide), ?_, h.buffer, h.gain, h.steady⟩
  rintro r ⟨⟩
  exact ⟨few, Nat.min_le_left _ _⟩

/-- A sounding voice whose buffer has become `xs` (07 R146, R149). -/
theorem buffered {xs : List Int} {position : Nat} {underrun : Bool} (h : v.Sound clips) (hs : v.sounding = true)
    (hx : xs.length ≤ v.buffer.length) :
    Voice.Sound clips { v with buffer := xs, position := position, underrun := underrun } where
  playing := h.playing
  idle hi := absurd (hi.symm.trans hs) (by decide)
  refill r hr := ⟨hx.trans (h.refill r hr).1, (h.refill r hr).2⟩
  buffer := hx.trans h.buffer
  gain := h.gain
  steady := h.steady

/-- A FADING voice at a lower gain (07 R150). -/
theorem slewed {g : Nat} (h : v.Sound clips) (hf : v.state = .fading) (hg : g ≤ v.gv) :
    Voice.Sound clips { v with gv := g } where
  playing := h.playing
  idle := h.idle
  refill := h.refill
  buffer := h.buffer
  gain := hg.trans h.gain
  steady hp := absurd (hf.symm.trans hp) (by decide)

/-- A sounding voice once `xs` has joined a buffer of 256 samples or fewer, its request withdrawn (07 R148). -/
theorem delivered {xs : List Int} {fetch : Nat} (h : v.Sound clips) (hs : v.sounding = true) (hb : v.buffer.length ≤ 256)
    (hx : xs.length ≤ 128) :
    Voice.Sound clips { v with buffer := v.buffer ++ xs, fetch := fetch, primed := true, refill := none } where
  playing := h.playing
  idle hi := absurd (hi.symm.trans hs) (by decide)
  refill := nofun
  buffer := by simp only [List.length_append]; omega
  gain := h.gain
  steady := h.steady

/-- A voice started for a READY clip with gains of at most 256 (07 R145). -/
theorem started {q : Claim} {c : Clip} (stamp : Nat) (hc : clipState clips q.clip = some .ready) (hb : c.gain ≤ 256)
    (hq : q.gain ≤ 256) : (Voice.started q c stamp).Sound clips where
  playing _ := hc
  idle := nofun
  refill := nofun
  buffer := Nat.zero_le _
  gain := Nat.div_le_of_le_mul (Nat.mul_le_mul hb hq)
  steady _ := rfl

/-- A voice stays sound while the clip it plays stays READY. -/
theorem onClips {clips' : Table Clip} (h : v.Sound clips)
    (hc : ∀ id, v.plays id = true → clipState clips id = some .ready → clipState clips' id = some .ready) :
    v.Sound clips' where
  playing hs := by
    have ready := h.playing hs
    cases hid : v.clip with
    | none => simp [hid] at ready
    | some id =>
      rw [hid] at ready
      exact hc id (by simp [Voice.plays, hs, hid]) ready
  idle := h.idle
  refill := h.refill
  buffer := h.buffer
  gain := h.gain
  steady := h.steady

end Voice.Sound

/-! ### The voices and the grant -/

theorem Served.none (voices : List Voice) : Served voices none := nofun

/-- Every live refill of the new grant was one of the old. -/
theorem Served.of_grant {voices : List Voice} {grant grant' : Option Grant} (h : Served voices grant)
    (hg : ∀ g i a n, grant' = some g → g.work = .refill i a n true → ∃ g', grant = some g' ∧ g'.work = .refill i a n true) :
    Served voices grant' := by
  intro g i a n e w
  obtain ⟨g', e', w'⟩ := hg g i a n e w
  exact h g' i a n e' w'

/-- A unit changed in place, no refill made live. -/
theorem Served.mapWork {voices : List Voice} {grant : Option Grant} {f : Work → Work} (h : Served voices grant)
    (hf : ∀ w i a n, f w = .refill i a n true → w = .refill i a n true) :
    Served voices (grant.map (fun g => { g with work := f g.work })) := by
  refine h.of_grant fun g i a n e w => ?_
  obtain ⟨g', e', rfl⟩ := Option.map_eq_some_iff.1 e
  exact ⟨g', e', hf _ _ _ _ w⟩

/-- The requests read only the voices' refills. -/
theorem Served.of_refills {voices voices' : List Voice} {grant : Option Grant} (h : Served voices grant)
    (hr : ∀ i r, (voices.getD i Voice.reset).refill = some r → (voices'.getD i Voice.reset).refill = some r) :
    Served voices' grant := by
  intro g i a n e w
  obtain ⟨r, hi, hn⟩ := h g i a n e w
  exact ⟨r, hr i r hi, hn⟩

/-- A voice replaced, its request, if any, kept. -/
theorem Served.set {voices : List Voice} {grant : Option Grant} {i : Nat} {v : Voice} (h : Served voices grant)
    (hr : ∀ r, (voices.getD i Voice.reset).refill = some r → v.refill = some r) : Served (voices.set i v) grant := by
  refine h.of_refills fun j r hj => ?_
  rw [List.getD_eq_getElem?_getD] at hj ⊢
  rw [List.getElem?_set]
  split
  · rename_i e
    subst e
    split
    · exact hr r (by rwa [List.getD_eq_getElem?_getD])
    · rename_i hi
      simp [List.getElem?_eq_none (Nat.not_lt.1 hi), Voice.reset] at hj
  · exact hj

theorem dropRefill_live {i j a n : Nat} {w : Work} (h : w.dropRefill i = .refill j a n true) :
    w = .refill j a n true ∧ j ≠ i := by
  cases w with
  | refill k b m live =>
    simp only [Work.dropRefill, Work.refill.injEq, Bool.and_eq_true, decide_eq_true_eq] at h
    obtain ⟨rfl, rfl, rfl, rfl, hj⟩ := h
    exact ⟨rfl, hj⟩
  | verify | hostRead | program | erase => simp [Work.dropRefill] at h

/-- A request withdrawn and its read dropped (06 R134). -/
theorem Served.withdraw {voices : List Voice} {grant : Option Grant} {i : Nat} {v : Voice} (h : Served voices grant) :
    Served (voices.set i v) (grant.map (fun g => { g with work := g.work.dropRefill i })) := by
  intro g j a n e w
  obtain ⟨g', e', rfl⟩ := Option.map_eq_some_iff.1 e
  obtain ⟨live, hj⟩ := dropRefill_live w
  obtain ⟨r, hr, hn⟩ := h g' j a n e' live
  refine ⟨r, ?_, hn⟩
  rw [List.getD_eq_getElem?_getD, List.getElem?_set_ne hj.symm, ← List.getD_eq_getElem?_getD]
  exact hr

namespace Voiced

variable {clips : Table Clip} {grant : Option Grant} {voices : List Voice}

theorem voice (h : Voiced clips grant voices) (i : Nat) : (voices.getD i Voice.reset).Sound clips := by
  rw [List.getD_eq_getElem?_getD]
  cases hi : voices[i]? with
  | none => exact .reset clips
  | some v => exact h.each v (List.mem_of_getElem? hi)

theorem set {grant' : Option Grant} {i : Nat} {v : Voice} (h : Voiced clips grant voices) (hv : v.Sound clips)
    (hs : Served (voices.set i v) grant') : Voiced clips grant' (voices.set i v) where
  six := by rw [List.length_set, h.six]
  each u hu := (List.mem_or_eq_of_mem_set hu).elim (h.each u) fun e => e ▸ hv
  served := hs

theorem regrant {grant' : Option Grant} (h : Voiced clips grant voices) (hs : Served voices grant') :
    Voiced clips grant' voices := ⟨h.six, h.each, hs⟩

theorem onClips {clips' : Table Clip} (h : Voiced clips grant voices)
    (hc : ∀ v ∈ voices, ∀ id, v.plays id = true → clipState clips id = some .ready → clipState clips' id = some .ready) :
    Voiced clips' grant voices := ⟨h.six, fun v hv => (h.each v hv).onClips (hc v hv), h.served⟩

/-- One clip changed that no voice plays, or that stays READY. -/
theorem onEdit {clips' : Table Clip} {id : Nat} {st : Option ClipState} (h : Voiced clips grant voices)
    (hs : ∀ k, clipState clips' k = if k = id then st else clipState clips k)
    (hid : clipState clips id = some .ready → (∀ v ∈ voices, v.plays id = false) ∨ st = some .ready) :
    Voiced clips' grant voices := by
  refine h.onClips fun v hv k hk ready => ?_
  rw [hs]
  split
  · rename_i e
    subst e
    exact (hid ready).resolve_left fun unplayed => absurd (hk.symm.trans (unplayed v hv)) (by decide)
  · exact ready

theorem map {f : Voice → Voice} (h : Voiced clips grant voices) (hf : ∀ v, v.Sound clips → (f v).Sound clips)
    (hr : ∀ v, (f v).refill = v.refill) : Voiced clips grant (voices.map f) where
  six := by rw [List.length_map, h.six]
  each v hv := by
    obtain ⟨u, hu, rfl⟩ := List.mem_map.1 hv
    exact hf u (h.each u hu)
  served := by
    refine h.served.of_refills fun i r hi => ?_
    rw [List.getD_eq_getElem?_getD] at hi ⊢
    rw [List.getElem?_map]
    cases hv : voices[i]? with
    | none => simp [hv, Voice.reset] at hi
    | some v =>
      rw [hv] at hi
      exact (hr v).trans hi

end Voiced

/-! ### The clip store -/

section
variable {clips : Table Clip}

theorem clipState_put (h : Table.wf clips) (id : Nat) (c : Clip) (k : Nat) :
    clipState (Table.put id c clips) k = if k = id then some c.state else clipState clips k := by
  unfold clipState
  rw [Table.get_put id c h]
  split <;> rfl

theorem clipState_del (id k : Nat) :
    clipState (Table.del id clips) k = if k = id then none else clipState clips k := by
  unfold clipState
  rw [Table.get_del]
  split <;> rfl

/-- A present clip brought to state `st`. -/
theorem clipState_update {id : Nat} {st old : ClipState} (h : clipState clips id = some old) (k : Nat) :
    clipState (Table.update id (fun c => { c with state := st }) clips) k = if k = id then some st else clipState clips k := by
  unfold clipState at *
  rw [Table.get_update]
  split
  · rename_i e
    obtain ⟨c, hc, -⟩ := Option.map_eq_some_iff.1 h
    rw [e, hc]
    rfl
  · rfl

theorem gains_put {id : Nat} {c : Clip} (h : ∀ p ∈ clips, p.2.gain ≤ 256) (hc : c.gain ≤ 256) :
    ∀ p ∈ Table.put id c clips, p.2.gain ≤ 256 := fun p hp =>
  (Table.mem_put_key hp).elim (fun e => e ▸ hc) (h p)

theorem gains_update {id : Nat} {st : ClipState} (h : ∀ p ∈ clips, p.2.gain ≤ 256) :
    ∀ p ∈ Table.update id (fun c => { c with state := st }) clips, p.2.gain ≤ 256 := by
  intro p hp
  obtain ⟨q, hq, rfl⟩ := List.mem_map.1 hp
  have := h q hq
  split <;> exact this

end

/-- The store after a change of clip `id` alone, whose state is then `st`. -/
theorem Flp.Stored.edit {f f' : Flp} {id : Nat} {st : Option ClipState} (h : f.Stored) (sorted : Table.wf f'.clips)
    (hs : ∀ k, clipState f'.clips k = if k = id then st else clipState f.clips k)
    (nodup : f'.queue.Nodup) (hq : ∀ k, k ∈ f'.queue ↔ if k = id then st = some .queued else k ∈ f.queue)
    (hv : ∀ k, f'.verifying.clip = some k ↔ if k = id then st = some .verifying else f.verifying.clip = some k)
    (gains : ∀ p ∈ f'.clips, p.2.gain ≤ 256) : f'.Stored where
  sorted := sorted
  nodup := nodup
  queued k := by
    rw [hq, hs]
    split
    · exact Iff.rfl
    · exact h.queued k
  verifying k := by
    rw [hv, hs]
    split
    · exact Iff.rfl
    · exact h.verifying k
  gains := gains

end Sys2Proof.Machine
end

section
/-! SUPPORT. What keeps the sound invariant: the operations on voices (07 §7.2 to §7.5), claims and the stop announcement, stop
reasons, and the cue engine. -/

namespace Sys2Proof.Machine

/-! ### What the operations on voices make of them -/

theorem State.silenceVoice_voices (i : Nat) (s : State) : (s.silenceVoice i).snd.voices =
    s.snd.voices.set i { s.voice i with state := .idle, buffer := [], refill := none } := by
  by_cases hi : i < s.snd.voices.length
  · simp [State.silenceVoice, State.withdrawRefill, State.setVoice, State.voice, hi]
  · simp [State.silenceVoice, State.withdrawRefill, State.setVoice, List.set_eq_of_length_le (Nat.not_lt.1 hi)]

theorem Voice.fade_refill (v : Voice) : v.fade.refill = v.refill := by
  unfold Voice.fade
  split <;> rfl

theorem State.startVoice_grant (i : Nat) (q : Claim) (c : Clip) (s : State) : (s.startVoice i q c).flp.grant =
    s.flp.grant.map (fun g => { g with work := g.work.dropRefill i }) := by
  unfold State.startVoice
  dsimp only
  rw [State.placeRefill_flp, State.setSnd_flp]
  split <;> simp [State.withdrawRefill]

theorem Voice.Sound.asked {clips : Table Clip} {v : Voice} (h : v.Sound clips) (c : Clip) :
    Voice.Sound clips { v with refill := v.request c } := by
  unfold Voice.request
  split
  · exact h.requested ‹_›
  · exact h

/-- What the invariant reads beside m and its own parts' fields. -/
def State.soundParts (s : State) : Flp × Snd × Table Cue × Settings × Bool :=
  (s.flp, s.snd, s.cue.cues, s.settings, s.msv.supplyLow)

namespace State.SoundSound

variable {s t : State}

/-! ### What the invariant reads -/

theorem stored (h : s.SoundSound) : s.flp.Stored := ((soundSound_iff s).1 h).1

theorem voiced (h : s.SoundSound) : Voiced s.flp.clips s.flp.grant s.snd.voices := ((soundSound_iff s).1 h).2.1

theorem voice (h : s.SoundSound) (i : Nat) : (s.voice i).Sound s.flp.clips := h.voiced.voice i

theorem of_master (h : s.SoundSound) (hm : t.snd.m ≤ t.masterTarget)
    (e : (t.flp, t.snd.voices, t.cue.cues) = (s.flp, s.snd.voices, s.cue.cues)) : t.SoundSound := by
  simp only [Prod.mk.injEq] at e
  obtain ⟨hf, hv, hc⟩ := e
  obtain ⟨stored, voiced, gains, -⟩ := (soundSound_iff s).1 h
  exact (soundSound_iff t).2 ⟨hf ▸ stored, by rw [hf, hv]; exact voiced, hc ▸ gains, hm⟩

theorem of_same (h : s.SoundSound) (e : t.soundParts = s.soundParts) : t.SoundSound := by
  simp only [State.soundParts, Prod.mk.injEq] at e
  obtain ⟨hf, hs, hc, ht, hp⟩ := e
  exact h.of_master (by rw [State.masterTarget_congr ht (by rw [hs]) hp, hs]; exact h.master) (by rw [hf, hs, hc])

theorem of_flp {f : Flp} (h : s.SoundSound) (hf : f.Stored) (hv : Voiced f.clips f.grant s.snd.voices) :
    (s.setFlp f).SoundSound := by
  obtain ⟨-, -, gains, master⟩ := (soundSound_iff s).1 h
  exact (soundSound_iff _).2 ⟨hf, hv, gains, master⟩

/-- FLP's other fields are free. -/
theorem of_port {f : Flp} (h : s.SoundSound) (hs : Served s.snd.voices f.grant)
    (e : (f.clips, f.queue, f.verifying.clip) = (s.flp.clips, s.flp.queue, s.flp.verifying.clip)) :
    (s.setFlp f).SoundSound := by
  simp only [Prod.mk.injEq] at e
  obtain ⟨hc, hq, hv⟩ := e
  refine h.of_flp ?_ (hc ▸ h.voiced.regrant hs)
  exact ⟨hc ▸ h.stored.sorted, hq ▸ h.stored.nodup, by rw [hc, hq]; exact h.stored.queued,
    by rw [hc, hv]; exact h.stored.verifying, hc ▸ h.stored.gains⟩

theorem of_cues {c : CueUnit} (h : s.SoundSound) (hc : GainsBounded c.cues) : (s.setCue c).SoundSound := by
  obtain ⟨stored, voiced, -, master⟩ := (soundSound_iff s).1 h
  exact (soundSound_iff _).2 ⟨stored, voiced, hc, master⟩

/-- Voices and grant may change beside what the operation sustains. -/
theorem of_sustained (h : s.SoundSound) (hs : s.Sustains t) (hv : Voiced s.flp.clips t.flp.grant t.snd.voices)
    (e : (t.cue.cues, t.settings, t.msv.supplyLow) = (s.cue.cues, s.settings, s.msv.supplyLow)) : t.SoundSound := by
  simp only [Prod.mk.injEq] at e
  obtain ⟨hc, ht, hp⟩ := e
  obtain ⟨⟨sorted, nodup, queued, verifying, gains⟩, -, cues, master⟩ := (soundSound_iff s).1 h
  refine (soundSound_iff t).2 ⟨?_, ?_, hc ▸ cues, ?_⟩
  · rw [hs.flp]
    exact ⟨sorted, nodup, queued, verifying, gains⟩
  · rw [hs.flp]
    exact hv
  · rw [State.masterTarget_congr ht (by rw [hs.snd]) hp, hs.snd]
    exact master

theorem raise (h : s.SoundSound) (n : Notice) : (s.raise n).SoundSound := h.of_same rfl

/-! ### Voices -/

theorem replaceVoice {i : Nat} {v : Voice} (h : s.SoundSound) (hv : v.Sound s.flp.clips)
    (hs : Served (s.snd.voices.set i v) s.flp.grant) : (s.setVoice i v).SoundSound :=
  h.of_sustained ⟨rfl, rfl, rfl⟩ (h.voiced.set hv hs) rfl

/-- A voice replaced by a sound one that keeps its request, if any. -/
theorem setVoice {i : Nat} {v : Voice} (h : s.SoundSound) (hv : v.Sound s.flp.clips)
    (hr : ∀ r, (s.voice i).refill = some r → v.refill = some r) : (s.setVoice i v).SoundSound :=
  h.replaceVoice hv (h.voiced.served.set hr)

theorem placeRefill (h : s.SoundSound) (i : Nat) : (s.placeRefill i).SoundSound := by
  unfold State.placeRefill
  dsimp only
  split
  · exact h
  · split
    · rename_i c _ hn
      refine h.setVoice ((h.voice i).requested hn) fun r hr => ?_
      simp [Voice.needsRefill, hr] at hn
    · exact h

theorem silenceVoice (h : s.SoundSound) (i : Nat) : (s.silenceVoice i).SoundSound := by
  refine h.of_sustained ⟨rfl, rfl, rfl⟩ ?_ rfl
  rw [s.silenceVoice_voices]
  exact h.voiced.set (h.voice i).silenced h.voiced.served.withdraw

theorem endVoice (h : s.SoundSound) (i : Nat) : (s.endVoice i).SoundSound := (h.silenceVoice i).raise _

theorem fadeVoices (h : s.SoundSound) (p : Voice → Bool) : (s.fadeVoices p).SoundSound := by
  refine h.of_sustained ⟨rfl, rfl, rfl⟩ (h.voiced.map (fun v hv => ?_) fun v => ?_) rfl
  · split
    · exact hv.faded
    · exact hv
  · split
    · exact v.fade_refill
    · rfl

/-! ### Claims (07 R143 to R145, R153) -/

theorem startVoice {i : Nat} {q : Claim} {c : Clip} (h : s.SoundSound) (hi : i < s.snd.voices.length)
    (hc : s.readyClip q.clip = some c) (hq : q.gain ≤ 256) : (s.startVoice i q c).SoundSound := by
  have present : Table.get s.flp.clips q.clip = some c := State.get_of_readyClip hc
  have ready : clipState s.flp.clips q.clip = some .ready := by
    have := (Option.filter_eq_some_iff.1 hc).2
    simpa [clipState, present] using this
  have started := Voice.Sound.started s.snd.startCounter ready (h.stored.gains _ (Table.mem_of_get present)) hq
  refine h.of_sustained (State.startVoice_sustains _ _ _ s) ?_ (by simp)
  rw [State.startVoice_snd hi present, State.startVoice_grant]
  exact h.voiced.set (started.asked c) h.voiced.served.withdraw

theorem claimVoice {q : Claim} {i : Nat} (h : s.SoundSound) (hq : q.gain ≤ 256) (ht : s.claimVoice q = some (t, i)) :
    t.SoundSound := by
  unfold State.claimVoice at ht
  split at ht
  · rename_i hc hi
    cases ht
    exact h.startVoice (chooseVoice_lt hi) hc hq
  · cases ht

theorem announceStop (h : s.SoundSound) : s.announceStop.SoundSound := by
  have faded := h.fadeVoices (fun v => v.level < 3)
  unfold State.announceStop
  dsimp only
  split
  · exact faded
  · split
    · exact faded.raise _
    · split
      · rename_i ht
        exact faded.claimVoice (Nat.le_refl 256) ht
      · exact faded.raise _

/-! ### Stop reasons (04 R65 to R67) -/

theorem enterEStop (h : s.SoundSound) : s.enterEStop.SoundSound := by
  refine State.SoundSound.announceStop ?_
  exact h.of_same rfl

theorem addReason (h : s.SoundSound) (r : StopReason) : (s.addReason r).SoundSound := by
  have joined : (s.setMsv { s.msv with reasons := insertReason r s.msv.reasons }).SoundSound := h.of_same rfl
  obtain ⟨-, e⟩ | ⟨-, -, -, e⟩ | ⟨-, -, -, -, e⟩ | ⟨-, -, -, e | e⟩ | ⟨-, -, -, -, e⟩ := s.addReason_cases r
  · rwa [e]
  · rw [e]
    exact joined.raise _
  · rw [e]
    exact joined.enterEStop.raise _
  · rw [e]
    exact joined.of_same rfl
  · rw [e]
    exact joined.of_same rfl
  · rwa [e]

theorem removeReason (h : s.SoundSound) (r : StopReason) : (s.removeReason r).SoundSound := h.of_same rfl

/-! ### The cue engine (05) -/

theorem updateCue (h : s.SoundSound) (id : Nat) {f : Cue → Cue} (hf : ∀ c, (f c).actions = c.actions) :
    (s.updateCue id f).SoundSound := by
  refine h.of_cues fun p hp => ?_
  obtain ⟨q, hq, rfl⟩ := List.mem_map.1 hp
  have bounded := h.cueGains q hq
  split
  · exact hf q.2 ▸ bounded
  · exact bounded

theorem skipAction (h : s.SoundSound) (id idx : Nat) : (s.skipAction id idx).SoundSound := (h.updateCue id (by intros; rfl)).raise _

theorem conflict (h : s.SoundSound) (id holder output : Nat) : (s.conflict id holder output).SoundSound :=
  (((h.updateCue id (by intros; rfl)).updateCue holder (by intros; rfl)).raise _).raise _

theorem runPlay {gain : Nat} (h : s.SoundSound) (hg : gain ≤ 256) (id level idx clip : Nat) (b : Buses) (l x : Bool) :
    (s.runPlay id level idx clip b gain l x).SoundSound := by
  unfold State.runPlay
  split
  · rename_i ht
    exact h.claimVoice hg ht
  · exact h.skipAction id idx

theorem runEffect (h : s.SoundSound) (id level idx line on off count : Nat) (timed : Bool) :
    (s.runEffect id level idx line on off count timed).SoundSound := by
  unfold State.runEffect
  dsimp only
  split
  · exact h.skipAction id idx
  · split
    · exact h.of_same rfl
    · exact State.SoundSound.conflict (s := s.setCue _) (h.of_same (by rfl)) _ _ _
    · exact h.conflict _ _ _

theorem runBeacon (h : s.SoundSound) (id idx code : Nat) : (s.runBeacon id idx code).SoundSound := by
  unfold State.runBeacon
  split
  · exact h.skipAction id idx
  · exact h.of_same rfl

theorem runYaw (h : s.SoundSound) (id level : Nat) (target : Int) : (s.runYaw id level target).SoundSound := by
  have taken : ((s.setCue { s.cue with turntable := some ⟨id, level⟩ }).storeYawTarget target).SoundSound := h.of_same rfl
  unfold State.runYaw
  dsimp only
  split
  · exact taken
  · exact taken.conflict _ _ _
  · exact h.conflict _ _ _

theorem runDwell (h : s.SoundSound) (id idx ms : Nat) : (s.runDwell id idx ms).SoundSound := by
  unfold State.runDwell
  cases hd : s.requestDwell ms with
  | none => exact h.skipAction id idx
  | some t =>
    have supply : t.msv.supplyLow = s.msv.supplyLow := by
      unfold State.requestDwell at hd
      split at hd <;> cases hd <;> rfl
    refine h.of_same ?_
    rw [State.soundParts, Option.getD_some, State.requestDwell_flp hd, State.requestDwell_snd hd, State.requestDwell_cue hd,
      State.requestDwell_settings hd, supply]
    rfl

theorem runAction {a : Action} (h : s.SoundSound) (ha : a.gain ≤ 256) (id level idx : Nat) :
    (s.runAction id level idx a).SoundSound := by
  cases a with
  | play => exact h.runPlay ha _ _ _ _ _ _ _
  | effect => exact h.runEffect _ _ _ _ _ _ _ _
  | beacon => exact h.runBeacon _ _ _
  | yaw => exact h.runYaw _ _ _
  | dwell => exact h.runDwell _ _ _
  | slow => exact h.updateCue _ (by intros; rfl)

theorem runActions {as : List Action} (ha : ∀ a ∈ as, a.gain ≤ 256) (id level idx : Nat) {s : State} (h : s.SoundSound) :
    (State.runActions id level idx as s).SoundSound := by
  induction as generalizing idx s with
  | nil => exact h
  | cons a as ih =>
    exact ih (fun b hb => ha b (List.mem_cons_of_mem a hb)) _ (h.runAction (ha a List.mem_cons_self) id level idx)

theorem fireCue {id : Nat} {c : Cue} (h : s.SoundSound) (hc : Table.get s.cue.cues id = some c) :
    (s.fireCue id c).SoundSound := by
  unfold State.fireCue
  refine runActions (h.cueGains _ (Table.mem_of_get hc)) _ _ _ ?_
  split
  · exact (h.updateCue id (by intros; rfl)).raise _
  · exact h.updateCue id (by intros; rfl)

theorem exitCue (h : s.SoundSound) (id : Nat) (all : Bool) : (s.exitCue id all).SoundSound := by
  have released (p : LineHold → Bool) : ((s.releaseLines p).releaseTurntable id).SoundSound := h.of_same rfl
  exact ((released _).fadeVoices _).updateCue id (by intros; rfl)

theorem leaveCue (h : s.SoundSound) (seg id : Nat) : (s.leaveCue seg id).SoundSound := by
  have exited (p : Prop) [Decidable p] : (if p then s.exitCue id false else s).SoundSound := by
    split
    · exact h.exitCue id false
    · exact h
  unfold State.leaveCue
  dsimp only
  split
  · exact h
  · split
    · exact h
    · split
      · exact (exited _).updateCue id (by intros; rfl)
      · exact exited _

theorem endCue (h : s.SoundSound) (seg len id : Nat) : (s.endCue seg len id).SoundSound := by
  unfold State.endCue
  split
  · exact h
  · split
    · exact h.exitCue id false
    · exact h

theorem judgeCue (h : s.SoundSound) (seg len id : Nat) : (s.judgeCue seg len id).SoundSound := by
  unfold State.judgeCue
  split
  · exact h
  · split
    · exact h
    · split
      · exact h.fireCue ‹_›
      · split
        · exact (h.updateCue id (by intros; rfl)).raise _
        · exact h

theorem eachId {f : Nat → State → State} (hf : ∀ i {u : State}, u.SoundSound → (f i u).SoundSound) (ids : List Nat)
    {s : State} (h : s.SoundSound) : (Machine.eachId f ids s).SoundSound := by
  unfold Machine.eachId
  induction ids generalizing s with
  | nil => exact h
  | cons i ids ih => exact ih (hf i h)

theorem evaluate (h : s.SoundSound) (moved : Bool) : (s.evaluate moved).SoundSound := by
  cases ha : s.activeSegment with
  | none =>
    unfold State.evaluate
    rwa [ha]
  | some p =>
    obtain ⟨a, g⟩ := p
    have left : (s.departures moved (Table.keys s.cue.cues)).SoundSound := by
      unfold State.departures
      split
      · exact eachId (fun i _ hu => hu.leaveCue _ i) _ h
      · exact h
    rw [State.evaluate_eq moved ha]
    exact (eachId (fun i _ hu => hu.judgeCue _ _ i) _ (eachId (fun i _ hu => hu.endCue _ _ i) _ left)).of_same rfl

end State.SoundSound

end Sys2Proof.Machine
end

section
/-! SUPPORT. What keeps the sound invariant, continued: the position step and the guidance sample (01, 02, 04, 07 R157), the requests
and events of motion, and the requests on AUTHORITY, CUE and SETTINGS. -/

namespace Sys2Proof.Machine

/-- The position step is made of operations that keep the invariant. -/
theorem soundSound_stepClosed : StepClosed (fun s t => s.SoundSound → t.SoundSound) where
  trans h h' := h' ∘ h
  record _ _ h := h.of_same rfl
  join _ r h := h.addReason r
  report _ n _ h := h.raise n
  evaluate _ moved h := h.evaluate moved

/-- m stands at its target or below after it has been capped (07 R158). -/
theorem State.capMaster_bounded (s : State) : s.capMaster.snd.m ≤ s.capMaster.masterTarget := Nat.min_le_right _ _

/-- The gains of parsed actions are clamped (05 Table 5-2). -/
theorem ActionWire.parse_gain {set : Settings} {w : ActionWire} {a : Action} (h : w.parse set = some a) : a.gain ≤ 256 := by
  unfold ActionWire.parse at h
  dsimp only at h
  split at h
  case h_1 =>
    split at h
    · cases h
      exact Nat.min_le_left _ _
    · cases h
  case h_2 =>
    split at h
    · cases h
      exact Nat.zero_le _
    · cases h
  case h_7 => cases h
  all_goals
    cases h
    exact Nat.zero_le _

theorem parseActions_gain {set : Settings} {ws : List ActionWire} {as : List Action} (h : parseActions set ws = some as) :
    ∀ a ∈ as, a.gain ≤ 256 := by
  induction ws generalizing as with
  | nil =>
    cases h
    nofun
  | cons w ws ih =>
    unfold parseActions at h
    split at h
    · rename_i ha has
      cases h
      exact List.forall_mem_cons.2 ⟨ActionWire.parse_gain ha, ih has⟩
    · cases h

theorem CueWire.parse_gain {set : Settings} {w : CueWire} {as : List Action} {changed : Bool}
    (h : w.parse set = some (as, changed)) : ∀ a ∈ as, a.gain ≤ 256 := by
  unfold CueWire.parse at h
  split at h
  · obtain ⟨as', hp, e⟩ := Option.map_eq_some_iff.1 h
    cases e
    exact parseActions_gain hp
  · cases h

/-- A ceiling lifted does not lower the target. -/
theorem State.masterTarget_mono {s t : State} (ht : t.settings = s.settings)
    (hl : t.snd.loadShare = true → s.snd.loadShare = true) (hp : t.msv.supplyLow = true → s.msv.supplyLow = true) :
    s.masterTarget ≤ t.masterTarget := by
  have capped {b b' : Bool} {x x' c : Nat} (hb : b' = true → b = true) (hx : x ≤ x') :
      (if b = true then min x c else x) ≤ if b' = true then min x' c else x' := by
    split_ifs with h h'
    · omega
    · omega
    · exact absurd (hb ‹_›) h
    · exact hx
  unfold State.masterTarget
  rw [ht]
  exact capped hp (capped hl (Nat.le_refl _))

theorem State.storeSettings_voices (t : Settings) (s : State) : (s.storeSettings t).snd.voices = s.snd.voices := by
  unfold State.storeSettings State.sndSettings State.msvSettings
  split <;> split <;> rfl

namespace State.SoundSound

variable {s t : State}

/-- An operation whose frame holds what the invariant reads, and that leaves the supply as it was. -/
theorem of_frame {bs : List Block} (h : s.SoundSound) (frame : SameBut bs s t)
    (hb : ∀ b ∈ [Block.flp, .snd, .cue, .settings], b ∉ bs) (hp : t.msv.supplyLow = s.msv.supplyLow) : t.SoundSound := by
  have hf : t.flp = s.flp := frame.same .flp (hb _ (by simp))
  have hs : t.snd = s.snd := frame.same .snd (hb _ (by simp))
  have hc : t.cue = s.cue := frame.same .cue (hb _ (by simp))
  have ht : t.settings = s.settings := frame.same .settings (hb _ (by simp))
  exact h.of_same (by rw [State.soundParts, hf, hs, hc, ht, hp]; rfl)

/-! ### Requests and events -/

theorem hearFrame (h : s.SoundSound) : s.hearFrame.SoundSound := h.of_same rfl

theorem respond (h : s.SoundSound) (k j : Nat) (st : Status) (c e : Bool) (p : List Byte) :
    (s.respond k j st c e p).SoundSound := h.of_same rfl

theorem overrunFrame (h : s.SoundSound) : s.overrunFrame.SoundSound := h.of_same rfl

/-- A request keeps the invariant where its answer does. -/
theorem request (h : s.SoundSound) {kind key : Nat} {act : State → Answer}
    (ha : ∀ u : State, u.SoundSound → (act u).Leaves State.SoundSound) : (request kind key act s).SoundSound := by
  obtain ⟨-, e⟩ | ⟨-, -, e⟩ | ⟨-, -, st, p, -, e⟩ | ⟨-, -, t, st, c, p, hact, e⟩ := request_cases s kind key act
  · rwa [e]
  · rw [e]
    exact h.overrunFrame
  · rw [e]
    exact h.hearFrame.respond _ _ _ _ _ _
  · have taken : t.SoundSound := by simpa [hact] using ha s.hearFrame h.hearFrame
    rw [e]
    exact taken.respond _ _ _ _ _ _

theorem event (h : s.SoundSound) {f : State → State} (hf : (f s).SoundSound) : (event f s).SoundSound := by
  obtain ⟨-, e⟩ | ⟨-, e⟩ := event_cases s f
  · rwa [e]
  · rwa [e]

/-! ### Guidance (02) -/

theorem judgeGuide (h : s.SoundSound) : s.judgeGuide.SoundSound := by
  have counted : s.counted.SoundSound := h.of_same rfl
  rw [State.judgeGuide_eq]
  split
  · exact counted.addReason _
  · exact counted

theorem superviseYaw (h : s.SoundSound) (encoder : Int) : (s.superviseYaw encoder).SoundSound := by
  have followed : (s.followed encoder).SoundSound := h.of_same rfl
  obtain ⟨-, e⟩ | ⟨-, -, e⟩ | ⟨-, -, e⟩ := State.superviseYaw_cases encoder s
  · rwa [e]
  · rw [e]
    exact followed.removeReason _
  · rw [e]
    exact followed.addReason _

theorem guide (h : s.SoundSound) (encoder : Int) : (s.guide encoder).SoundSound := by
  have turned : s.turned.SoundSound := by
    rw [State.turned, State.turned_eq]
    exact h.judgeGuide.of_same rfl
  rw [State.guide_eq]
  exact turned.superviseYaw encoder

/-! ### The speed stage (04 R82) and the load-share reading (07 R157) -/

theorem overspeedCheck (h : s.SoundSound) : s.overspeedCheck.SoundSound := by
  have counted (n : Nat) : (s.setMsv { s.msv with overspeed := n }).SoundSound := h.of_same rfl
  unfold State.overspeedCheck
  split
  · exact counted 0
  · split
    · split
      · exact (counted 0).addReason _
      · exact counted _
    · exact counted 0

theorem overrunCheck (h : s.SoundSound) : s.overrunCheck.SoundSound := by
  unfold State.overrunCheck
  split
  · exact h.addReason _
  · exact h

theorem heldTest (h : s.SoundSound) : s.heldTest.SoundSound :=
  h.of_frame s.heldTest_sameBut (by decide) (by rw [State.heldTest_msv])

theorem restStep (h : s.SoundSound) : s.restStep.SoundSound := by
  refine h.of_frame s.restStep_sameBut (by decide) ?_
  unfold State.restStep
  split
  · rfl
  · split <;> rfl

theorem speedStage (h : s.SoundSound) (ds : Int) : (s.speedStage ds).SoundSound := by
  have window : (s.windowStep ds).SoundSound := h.of_same rfl
  have ramped : (s.windowStep ds).overspeedCheck.overrunCheck.ramp.SoundSound :=
    window.overspeedCheck.overrunCheck.of_same rfl
  exact ramped.heldTest.restStep

/-- The load share taken lowers the target and caps m; given up, it raises the target. -/
theorem readLoad (h : s.SoundSound) (current : Nat) : (s.readLoad current).SoundSound := by
  have counted (n : Nat) : (s.setSnd { s.snd with loadRun := n }).SoundSound := h.of_master h.master rfl
  unfold State.readLoad
  split
  · split
    · split
      · exact counted _
      · exact h.of_master (h.master.trans (State.masterTarget_mono rfl nofun id)) rfl
    · exact counted 0
  · split
    · split
      · exact counted _
      · exact h.of_master (State.capMaster_bounded _) rfl
    · exact counted 0

theorem guidanceSample (h : s.SoundSound) (encoder : Int) (current : Nat) :
    (guidanceSample encoder current s).SoundSound :=
  (((soundSound_stepClosed.positionStep s h).guide encoder).speedStage _).readLoad current

/-! ### Markers, PLACE and AUTHORITY (01) -/

theorem mismatch (h : s.SoundSound) (a code : Nat) : (s.mismatch a code).SoundSound :=
  State.SoundSound.raise (h.addReason _) _

theorem markerRead (h : s.SoundSound) (code : Nat) : (markerRead code s).SoundSound := by
  unfold Machine.markerRead
  split
  · exact h
  · split
    · exact h
    · split
      · exact h.mismatch _ _
      · split
        · exact h
        · split
          · exact soundSound_stepClosed.correct _ s h
          · exact h.mismatch _ _

theorem placeVehicle (h : s.SoundSound) (segment position : Nat) :
    (placeVehicle segment position s).Leaves State.SoundSound := by
  unfold Machine.placeVehicle
  repeat' split
  case h_2.isFalse.isFalse => exact State.SoundSound.evaluate (h.of_same (by rfl)) true
  all_goals trivial

theorem grantAuthority (h : s.SoundSound) (u : Authority) (path : List Nat) : (s.grantAuthority u path).SoundSound := by
  have checked : (s.storeAuthority u path).overrunCheck.SoundSound := State.SoundSound.overrunCheck (h.of_same rfl)
  unfold State.grantAuthority
  dsimp only
  split
  · exact checked.raise _
  · exact checked

theorem putAuthority (h : s.SoundSound) (key : Nat) (w : AuthorityWire) :
    (putAuthority key w s).Leaves State.SoundSound := by
  unfold Machine.putAuthority
  dsimp only
  repeat' split
  all_goals simp [h.grantAuthority]

theorem amendAuthority (h : s.SoundSound) (key presence : Nat) (w : AuthorityWire) :
    (amendAuthority key presence w s).Leaves State.SoundSound := by
  unfold Machine.amendAuthority
  split
  · trivial
  · split
    · split
      · trivial
      · exact h
    · exact h.putAuthority _ _

theorem retireAuthority (h : s.SoundSound) (key : Nat) : (retireAuthority key s).Leaves State.SoundSound := by
  unfold Machine.retireAuthority
  split
  · trivial
  · split
    · trivial
    · exact State.SoundSound.overrunCheck (s := s.dropAuthority) (h.of_same rfl)

/-! ### Seats (03) -/

theorem sampleSeat (h : s.SoundSound) (i : Nat) (r : SeatReading) : (s.sampleSeat i r).SoundSound := by
  have stored (st : SeatState) : (s.setSeatState i st).SoundSound := h.of_same rfl
  obtain ⟨-, e⟩ | ⟨-, -, e⟩ | ⟨-, -, e⟩ := s.sampleSeat_cases i r <;> rw [e]
  · exact stored _
  · exact (stored _).raise _
  · exact ((stored _).addReason _).raise _

theorem takeLevels (h : s.SoundSound) (v : SeatLevels) : (s.takeLevels v).SoundSound := by
  have kept : (s.keepLevels v).SoundSound := h.of_same rfl
  have seated : (s.seated v).SoundSound :=
    State.sampleSeats_lift (p := fun s t => s.SoundSound → t.SoundSound) (fun _ => id) (fun h h' => h' ∘ h)
      (fun i r _ h => h.sampleSeat i r) 0 v.readings _ kept
  have held := (s.seated v).updateHold_sameBut (!v.relaHigh && !v.relbHigh)
  exact seated.of_frame held (by decide) (by rw [State.takeLevels_eq, held.msv (by decide)])

theorem holdComplete (h : s.SoundSound) : (holdComplete s).SoundSound := by
  unfold Machine.holdComplete
  split
  · split
    · exact h.takeLevels _
    · exact h
  all_goals exact h

/-! ### Motion (04) -/

theorem enableVehicle (h : s.SoundSound) : (enableVehicle s).Leaves State.SoundSound := by
  unfold Machine.enableVehicle
  dsimp only
  split
  · trivial
  · split
    · exact h.of_same rfl
    · exact h.enterEStop.raise _

theorem withdrawPermit (h : s.SoundSound) : s.withdrawPermit.SoundSound :=
  h.of_frame s.withdrawPermit_sameBut (by decide) (by rw [State.withdrawPermit_msv])

theorem parkVehicle (h : s.SoundSound) : (parkVehicle s).Leaves State.SoundSound := by
  unfold Machine.parkVehicle
  split
  · exact State.SoundSound.withdrawPermit (h.of_same rfl)
  · trivial

theorem startVehicle (h : s.SoundSound) : (startVehicle s).Leaves State.SoundSound := by
  unfold Machine.startVehicle
  repeat' split
  case isFalse.isFalse.isFalse.isFalse => exact State.SoundSound.withdrawPermit (h.of_same rfl)
  all_goals trivial

theorem stopVehicle (h : s.SoundSound) : (stopVehicle s).Leaves State.SoundSound := by
  unfold Machine.stopVehicle
  split
  · trivial
  · exact h.addReason _

theorem resumeVehicle (h : s.SoundSound) : (resumeVehicle s).Leaves State.SoundSound := by
  unfold Machine.resumeVehicle
  split
  · trivial
  · split
    · trivial
    · dsimp only
      split
      · trivial
      · exact h.of_same rfl

theorem skipDwell (h : s.SoundSound) : (skipDwell s).Leaves State.SoundSound := by
  unfold Machine.skipDwell
  split
  · trivial
  · exact h.of_same rfl

theorem estopInputCheck (h : s.SoundSound) (high : Bool) : (estopInputCheck high s).SoundSound := by
  unfold Machine.estopInputCheck
  dsimp only
  split
  · exact State.SoundSound.addReason (h.of_same (by rfl)) _
  · exact h.of_same rfl

theorem linkExpiry (h : s.SoundSound) : (linkExpiry s).SoundSound := by
  unfold Machine.linkExpiry
  dsimp only
  split
  · exact h
  · split
    · split
      · exact State.SoundSound.addReason (h.of_same (by rfl)) _
      · exact h.of_same rfl
    · exact h

/-- Low supply lowers the target and caps m; its end raises the target (04 R89, 07 R158). -/
theorem supplyReading (h : s.SoundSound) (count : Nat) : (supplyReading count s).SoundSound := by
  have counted (n : Nat) : (s.setMsv { s.msv with supplyRun := n }).SoundSound := h.of_same rfl
  unfold Machine.supplyReading
  split
  · split
    · split
      · exact counted _
      · exact h.of_master (h.master.trans (State.masterTarget_mono rfl id nofun)) rfl
    · exact counted 0
  · split
    · split
      · exact counted _
      · exact State.SoundSound.raise (h.of_master (State.capMaster_bounded _) (by rfl)) _
    · exact counted 0

theorem dwellExpiry (h : s.SoundSound) : (dwellExpiry s).SoundSound := by
  unfold Machine.dwellExpiry
  split
  · split
    · exact h.of_same rfl
    · exact h
  · exact h

theorem resetEnd (h : s.SoundSound) : (resetEnd s).SoundSound := by
  unfold Machine.resetEnd
  split
  · exact h.of_same rfl
  · exact h

/-! ### Cues and effects (05) -/

theorem putCues {cues : Table Cue} {key : Nat} {c : Cue} (h : GainsBounded cues) (hc : ∀ a ∈ c.actions, a.gain ≤ 256) :
    GainsBounded (Table.put key c cues) := fun p hp =>
  (Table.mem_put_key hp).elim (fun e => e ▸ hc) (h p)

theorem putCue (h : s.SoundSound) (key : Nat) (w : CueWire) : (putCue key w s).Leaves State.SoundSound := by
  have released : (s.releaseCue key).SoundSound := h.of_same rfl
  unfold Machine.putCue
  split
  · trivial
  · split
    · trivial
    · split
      · trivial
      · rename_i hw
        exact released.of_cues (putCues h.cueGains (CueWire.parse_gain hw))

theorem amendCue (h : s.SoundSound) (key presence : Nat) (w : CueWire) :
    (amendCue key presence w s).Leaves State.SoundSound := by
  unfold Machine.amendCue
  split
  · trivial
  · split
    · trivial
    · split
      · trivial
      · split
        · exact h
        · dsimp only
          split
          · trivial
          · rename_i hw
            exact h.of_cues (putCues h.cueGains (CueWire.parse_gain hw))

theorem dropCue (h : s.SoundSound) (key : Nat) : (s.dropCue key).SoundSound :=
  h.of_cues fun p hp => h.cueGains p (List.mem_of_mem_filter hp)

theorem retireCue (h : s.SoundSound) (key : Nat) (force : Bool) : (retireCue key force s).Leaves State.SoundSound := by
  have released {t : State} (ht : t.SoundSound) : (t.releaseCue key).SoundSound := ht.of_same rfl
  unfold Machine.retireCue
  split
  · trivial
  · split
    · trivial
    · split
      · exact (released h).dropCue key
      · split
        · exact (released (h.exitCue key true)).dropCue key
        · trivial

theorem namedCue {key : Nat} {take : Cue → Answer} (ht : ∀ c, (take c).Leaves State.SoundSound) :
    (namedCue key take s).Leaves State.SoundSound := by
  unfold Machine.namedCue
  split
  · trivial
  · split
    · trivial
    · split
      · trivial
      · exact ht _

theorem rearmAllCues (h : s.SoundSound) : (rearmAllCues s).Leaves State.SoundSound := by
  refine h.of_cues fun p hp => ?_
  obtain ⟨q, hq, rfl⟩ := List.mem_map.1 hp
  have bounded := h.cueGains q hq
  unfold Cue.rearmed
  dsimp only
  split
  · exact bounded
  · exact bounded

theorem effectPhaseEnd (h : s.SoundSound) (i : Nat) : (effectPhaseEnd i s).SoundSound := by
  unfold Machine.effectPhaseEnd
  split
  · split
    · exact h.of_same rfl
    · exact h
  · exact h

theorem beaconTxComplete (h : s.SoundSound) : (beaconTxComplete s).SoundSound := by
  unfold Machine.beaconTxComplete
  split
  · exact h
  · dsimp only
    split
    · exact h.of_same rfl
    · exact h

theorem hostYaw (h : s.SoundSound) (target : Int) : (hostYaw target s).Leaves State.SoundSound := by
  unfold Machine.hostYaw
  split
  · exact h.of_same rfl
  · trivial

/-! ### Settings (09 R178) -/

theorem takeSettings (h : s.SoundSound) (ws : List Nat) : (s.takeSettings ws).Leaves State.SoundSound := by
  unfold State.takeSettings
  dsimp only
  split
  · trivial
  · split
    · trivial
    · have frame := s.storeSettings_sameBut (settingsOf ws)
      have hf : (s.storeSettings (settingsOf ws)).flp = s.flp := frame.same .flp (by decide)
      have hc : (s.storeSettings (settingsOf ws)).cue = s.cue := frame.same .cue (by decide)
      exact h.of_master (State.capMaster_bounded _) (by rw [hf, hc, State.storeSettings_voices])

theorem putSettings (h : s.SoundSound) (key : Nat) (ws : List Nat) : (putSettings key ws s).Leaves State.SoundSound := by
  unfold Machine.putSettings
  split
  · trivial
  · split
    · trivial
    · exact h.takeSettings _

theorem amendSettings (h : s.SoundSound) (key presence : Nat) (ws : List Nat) :
    (amendSettings key presence ws s).Leaves State.SoundSound := by
  unfold Machine.amendSettings
  split
  · trivial
  · split
    · trivial
    · split
      · exact h
      · exact h.takeSettings _

end State.SoundSound

end Sys2Proof.Machine
end

section
/-! SUPPORT. The clip store and the flash port, operation by operation (06 §6.1, §6.4, §6.5): the queue and an abandoned
verification, and the flash bytes. -/

namespace Sys2Proof.Machine

/-! ### The queue (06 R122, R124, R129) -/

/-- FLP once clip `id` has left the queue and a verification of it has been abandoned. -/
def Flp.unqueued (id : Nat) (f : Flp) : Flp :=
  { f with
    queue := f.queue.filter (· ≠ id)
    verifying := if f.verifying.clip = some id then Verify.idle else f.verifying
    grant := if f.verifying.clip = some id then f.grant.map (fun g => { g with work := g.work.dropVerify }) else f.grant }

theorem State.unqueue_eq (id : Nat) (s : State) : s.unqueue id = s.setFlp (s.flp.unqueued id) := by
  unfold State.unqueue State.abandonVerify Flp.unqueued
  by_cases h : s.flp.verifying.clip = some id
  · simp only [if_pos h]
    rfl
  · simp only [if_neg h]

theorem State.queueClip_eq (id : Nat) (c : Clip) (s : State) : s.queueClip id c = s.setFlp { s.flp.unqueued id with
    clips := Table.put id { c with state := .queued } s.flp.clips
    queue := (s.flp.unqueued id).queue ++ [id] } := by
  unfold State.queueClip
  rw [State.unqueue_eq]
  rfl

theorem Flp.unqueued_verifying (id k : Nat) (f : Flp) :
    (f.unqueued id).verifying.clip = some k ↔ k ≠ id ∧ f.verifying.clip = some k := by
  unfold Flp.unqueued
  dsimp only
  split
  · rename_i h
    rw [h]
    simp [Verify.idle, eq_comm]
  · rename_i h
    refine ⟨fun hk => ⟨?_, hk⟩, And.right⟩
    rintro rfl
    exact h hk

theorem Flp.unqueued_mem (id k : Nat) (f : Flp) : k ∈ (f.unqueued id).queue ↔ k ≠ id ∧ k ∈ f.queue := by
  simp [Flp.unqueued, and_comm]

theorem dropVerify_live {i a n : Nat} {w : Work} (h : w.dropVerify = .refill i a n true) : w = .refill i a n true := by
  cases w with
  | verify => cases h
  | refill | hostRead | program | erase => exact h

theorem Served.unqueued {voices : List Voice} {f : Flp} (h : Served voices f.grant) (id : Nat) :
    Served voices (f.unqueued id).grant := by
  unfold Flp.unqueued
  dsimp only
  split
  · exact h.mapWork fun _ _ _ _ => dropVerify_live
  · exact h

/-! ### Samples (06 Table 6-3) -/

/-- `2 * n` bytes are `n` samples. -/
theorem samplesOf_length {n : Nat} {bs : List Byte} (h : bs.length = 2 * n) : (samplesOf bs).length = n := by
  induction n generalizing bs with
  | zero => rw [List.length_eq_zero_iff.1 h]; rfl
  | succ n ih =>
    match bs, h with
    | lo :: hi :: bs, h =>
      have rest : bs.length = 2 * n := by simpa [Nat.mul_succ] using h
      rw [samplesOf, List.length_cons, ih rest]

@[simp] theorem Memory.readRange_length (m : Memory) (a n : Nat) : (Memory.readRange m a n).length = n := by
  simp [Memory.readRange]

/-! ### The grant (06 R131, R134) -/

/-- All that a completion that goes on can do (06 R132, log 2). -/
theorem completion_cases {mine : Work → Bool} {f : Work → State → State} {s t : State}
    (h : completion mine f s = .next t) :
    t = s ∨ ∃ g, s.flp.grant = some g ∧ mine g.work = true ∧ t = f g.work s.freePort := by
  unfold completion at h
  split at h
  · exact .inl (Host.Outcome.next.inj h).symm
  · split at h
    · exact .inl (Host.Outcome.next.inj h).symm
    · rename_i g hg
      split at h
      · rename_i hm
        split at h
        · exact .inr ⟨g, hg, hm, (Host.Outcome.next.inj h).symm⟩
        · cases h
      · exact .inl (Host.Outcome.next.inj h).symm

theorem hostUnit_ne_refill {f : Flp} {i a n : Nat} {live : Bool} : f.hostUnit ≠ some (.refill i a n live) := by
  unfold Flp.hostUnit
  split
  · nofun
  · split <;> nofun

theorem verifyUnit_ne_refill {s : State} {i a n : Nat} {live : Bool} : s.verifyUnit ≠ some (.refill i a n live) := by
  intro h
  obtain ⟨id, -, h⟩ := Option.bind_eq_some_iff.1 h
  obtain ⟨c, -, h⟩ := Option.map_eq_some_iff.1 h
  cases h

theorem refillUnit_serves {s : State} {m i a n : Nat} {live : Bool} (h : s.refillUnit m = some (.refill i a n live)) :
    ∃ r, (s.voice i).refill = some r ∧ n = r.count := by
  obtain ⟨r, hr, h⟩ := Option.bind_eq_some_iff.1 h
  obtain ⟨c, -, h⟩ := Option.map_eq_some_iff.1 h
  cases h
  exact ⟨r, hr, rfl⟩

end Sys2Proof.Machine
end

section
/-! SUPPORT. What keeps the sound invariant, continued: the requests on CLIP, the flash port's grants, units and requests (06). -/

namespace Sys2Proof.Machine

namespace State.SoundSound

variable {s t : State}

/-! ### Clips (06 R122 to R124) -/

theorem not_played {id : Nat} (h : s.clipPlayed id = false) : ∀ v ∈ s.snd.voices, v.plays id = false := by
  simpa [State.clipPlayed] using h

/-- The clip store with clip `id` taken out of queue and verification and brought to state `st`. -/
theorem unqueued {id : Nat} {clips : Table Clip} {queue : List Nat} {st : Option ClipState} (h : s.SoundSound)
    (hp : s.clipPlayed id = false) (sorted : Table.wf clips) (gains : ∀ p ∈ clips, p.2.gain ≤ 256)
    (hs : ∀ k, clipState clips k = if k = id then st else clipState s.flp.clips k) (nodup : queue.Nodup)
    (hq : ∀ k, k ∈ queue ↔ if k = id then st = some .queued else k ∈ s.flp.queue) (hv : st ≠ some .verifying) :
    (s.setFlp { s.flp.unqueued id with clips := clips, queue := queue }).SoundSound := by
  refine h.of_flp (h.stored.edit (id := id) (st := st) sorted hs nodup hq (fun k => ?_) gains) ?_
  · refine (s.flp.unqueued_verifying id k).trans ?_
    split
    · rename_i e
      exact ⟨fun hk => absurd e hk.1, fun e' => absurd e' hv⟩
    · rename_i e
      exact and_iff_right e
  · exact (h.voiced.regrant (h.voiced.served.unqueued id)).onEdit hs fun _ => .inl (not_played hp)

theorem queueClip {id : Nat} {c : Clip} (h : s.SoundSound) (hp : s.clipPlayed id = false) (hc : c.gain ≤ 256) :
    (s.queueClip id c).SoundSound := by
  rw [State.queueClip_eq]
  refine h.unqueued (st := some .queued) hp (Table.wf_put _ _ h.clipsSorted) (gains_put h.baseGains hc)
    (clipState_put h.clipsSorted id _) ?_ (fun k => ?_) (by decide)
  · exact (h.queueNodup.filter _).append (by simp) (by simp)
  · by_cases e : k = id <;> simp [Flp.unqueued, e]

theorem takeQueued {id : Nat} {c : Clip} (h : s.SoundSound) (hp : s.clipPlayed id = false) (hc : c.gain ≤ 256)
    (clamped : Bool) : (s.takeQueued id c clamped).Leaves State.SoundSound := h.queueClip hp hc

theorem putClip (h : s.SoundSound) (key : Nat) (w : ClipWire) : (putClip key w s).Leaves State.SoundSound := by
  unfold Machine.putClip
  split
  · trivial
  · split
    · trivial
    · rename_i hp
      split
      · trivial
      · split
        · trivial
        · exact h.takeQueued (by simpa using hp) (Nat.min_le_left _ _) _

/-- A clip's record changed, its state kept (06 R123). -/
theorem storeKept {id : Nat} {c o : Clip} (h : s.SoundSound) (ho : Table.get s.flp.clips id = some o)
    (hs : c.state = o.state) (hc : c.gain ≤ 256) :
    (s.setFlp { s.flp with clips := Table.put id c s.flp.clips }).SoundSound := by
  have kept (k : Nat) : clipState (Table.put id c s.flp.clips) k = clipState s.flp.clips k := by
    rw [clipState_put h.clipsSorted]
    split
    · rename_i e
      rw [e, hs, clipState, ho, Option.map_some]
    · rfl
  refine h.of_flp (f := { s.flp with clips := Table.put id c s.flp.clips }) ?_ ?_
  · exact ⟨Table.wf_put _ _ h.clipsSorted, h.queueNodup, fun k => kept k ▸ h.stored.queued k,
      fun k => kept k ▸ h.stored.verifying k, gains_put h.baseGains hc⟩
  · exact h.voiced.onClips fun v _ k _ hk => (kept k).trans hk

theorem amendClip (h : s.SoundSound) (key presence : Nat) (w : ClipWire) :
    (amendClip key presence w s).Leaves State.SoundSound := by
  unfold Machine.amendClip
  dsimp only
  split
  · trivial
  · split
    · trivial
    · rename_i o ho
      split
      · trivial
      · rename_i hp
        have unplayed : s.clipPlayed key = false := by simpa using hp
        split
        · exact h
        · split
          · trivial
          · split
            · exact h.storeKept ho rfl (Nat.min_le_left _ _)
            · split
              · trivial
              · exact h.takeQueued unplayed (Nat.min_le_left _ _) _

theorem retireClip (h : s.SoundSound) (key : Nat) : (retireClip key s).Leaves State.SoundSound := by
  unfold Machine.retireClip
  dsimp only
  split
  · trivial
  · split
    · trivial
    · split
      · trivial
      · rename_i hp
        rw [State.unqueue_eq]
        refine h.unqueued (st := none) (by simpa using hp) (Table.wf_del _ h.clipsSorted)
          (fun p hp => h.baseGains p (List.mem_of_mem_filter hp)) (clipState_del key) (h.queueNodup.filter _) (fun k => ?_)
          nofun
        rw [State.setFlp_flp, Flp.unqueued_mem]
        by_cases e : k = key <;> simp [e]

/-! ### Verification (06 R126 to R129) -/

/-- Clip `id`, QUEUED or VERIFYING, brought to state `st` with queue and verification. -/
theorem verified {id : Nat} {old st : ClipState} {f : Flp} (h : s.SoundSound) (hid : clipState s.flp.clips id = some old)
    (hold : old ≠ .ready) (hc : f.clips = Table.update id (fun c => { c with state := st }) s.flp.clips)
    (hg : Served s.snd.voices f.grant) (nodup : f.queue.Nodup)
    (hq : ∀ k, k ∈ f.queue ↔ if k = id then some st = some .queued else k ∈ s.flp.queue)
    (hv : ∀ k, f.verifying.clip = some k ↔ if k = id then some st = some .verifying else s.flp.verifying.clip = some k) :
    (s.setFlp f).SoundSound := by
  have states (k : Nat) : clipState f.clips k = if k = id then some st else clipState s.flp.clips k :=
    hc ▸ clipState_update hid k
  refine h.of_flp (h.stored.edit (hc ▸ Table.wf_update _ _ h.clipsSorted) states nodup hq hv ?_) ?_
  · exact hc ▸ gains_update h.baseGains
  · exact (h.voiced.regrant hg).onEdit states fun ready => absurd (Option.some.inj (hid.symm.trans ready)) hold

theorem beginVerify (h : s.SoundSound) : s.beginVerify.SoundSound := by
  unfold State.beginVerify
  split
  · rename_i id rest hv hq
    have nodup := hq ▸ h.queueNodup
    obtain ⟨fresh, nodup⟩ := List.nodup_cons.1 nodup
    have queued : clipState s.flp.clips id = some .queued := (h.stored.queued id).1 (by simp [hq])
    refine h.verified (st := .verifying) queued (by decide) rfl h.voiced.served nodup (fun k => ?_) fun k => ?_
    · by_cases e : k = id
      · simp [e, fresh]
      · simp [e, hq]
    · by_cases e : k = id
      · simp [e]
      · simp [e, hv, Ne.symm e]
  · exact h

/-- The end of a verification in a state that is neither QUEUED nor VERIFYING (06 R127, R128, R133). -/
theorem endVerify {id : Nat} {st : ClipState} (h : s.SoundSound) (hid : s.flp.verifying.clip = some id)
    (hq : st ≠ .queued) (hv : st ≠ .verifying) :
    (s.setFlp { s.flp with
      clips := Table.update id (fun c => { c with state := st }) s.flp.clips, verifying := Verify.idle }).SoundSound := by
  have verifying := (h.stored.verifying id).1 hid
  refine h.verified verifying (by decide) rfl h.voiced.served h.queueNodup (fun k => ?_) fun k => ?_
  · by_cases e : k = id
    · simp [e, hq, h.stored.queued, verifying]
    · simp [e]
  · by_cases e : k = id
    · simp [e, hv, Verify.idle]
    · simp [e, Ne.symm e, hid, Verify.idle]

theorem verifyBad {id : Nat} (h : s.SoundSound) (hid : s.flp.verifying.clip = some id) (r : BadReason) :
    (s.verifyBad id r).SoundSound := State.SoundSound.raise (h.endVerify hid (by simp) (by simp)) _

theorem verifyReady {id : Nat} (h : s.SoundSound) (hid : s.flp.verifying.clip = some id) : (s.verifyReady id).SoundSound :=
  State.SoundSound.raise (h.endVerify hid (by decide) (by decide)) _

theorem verifyDone {size id : Nat} {v : Verify} (h : s.SoundSound) (hid : s.flp.verifying.clip = some id)
    (hv : v.clip = some id) : (s.verifyDone size id v).SoundSound := by
  unfold State.verifyDone
  split
  · exact h.of_port h.voiced.served (by rw [hv, hid])
  · split
    · exact h.verifyReady hid
    · exact h.verifyBad hid _

theorem verifyBytes (h : s.SoundSound) (bs : List Byte) : (s.verifyBytes bs).SoundSound := by
  unfold State.verifyBytes
  dsimp only
  split
  · exact h
  · rename_i id hid
    split
    · exact h
    · repeat' split
      · exact h.verifyBad hid _
      · exact h.verifyBad hid _
      · exact h.verifyDone hid rfl
      · exact h.verifyDone hid hid

theorem freePort (h : s.SoundSound) : s.freePort.SoundSound := h.of_port (Served.none _) rfl

theorem verifyBurst (h : s.SoundSound) (w : Work) : (verifyBurst w s).SoundSound := by
  unfold Machine.verifyBurst
  split
  · exact h.verifyBytes _
  · exact h

/-! ### Refills (06 R134, 07 R148) -/

/-- The samples delivered are those asked for, at most 128 to a voice that holds 256 or fewer. -/
theorem deliver {i : Nat} {xs : List Int} {r : Refill} (h : s.SoundSound) (hg : s.flp.grant = none)
    (hr : (s.voice i).refill = some r) (hx : xs.length = r.count) : (s.deliver i xs).SoundSound := by
  unfold State.deliver
  split
  · exact h
  · have voice := h.voice i
    have sounds : (s.voice i).sounding = true := by
      refine Bool.of_not_eq_false fun silent => ?_
      rw [(voice.idle silent).2] at hr
      cases hr
    obtain ⟨few, count⟩ := voice.refill r hr
    exact State.SoundSound.placeRefill (h.replaceVoice (voice.delivered sounds few (hx ▸ count)) (hg ▸ Served.none _)) i

theorem refillRead {g : Grant} (h : s.SoundSound) (hg : s.flp.grant = some g) :
    (refillRead g.work s.freePort).SoundSound := by
  unfold Machine.refillRead
  split
  · rename_i i a n hw
    obtain ⟨r, hr, hn⟩ := h.served g i a n hg hw
    refine h.freePort.deliver rfl hr (hn ▸ samplesOf_length ?_)
    rw [hw]
    exact Memory.readRange_length _ _ _
  · exact h.freePort

/-! ### Host operations (06 §6.5) -/

theorem answerRead (h : s.SoundSound) (bs : Option (List Byte)) : (s.answerRead bs).SoundSound := by
  unfold State.answerRead
  dsimp only
  split
  · exact h
  · rename_i r _
    have answered : (s.setFlp { s.flp with read := none }).SoundSound := h.of_port h.voiced.served rfl
    split
    · exact answered.respond _ _ _ _ _ _
    · exact (answered.respond _ _ _ _ _ _).raise _

theorem flashReadDeadline (h : s.SoundSound) : (flashReadDeadline s).SoundSound := by
  unfold Machine.flashReadDeadline
  split
  · exact h
  · split
    · split
      · exact h.freePort.answerRead none
      · exact h.answerRead none
    · exact h

theorem stepDone (h : s.SoundSound) : s.stepDone.SoundSound := by
  have counted (slot : Slot) : (s.setFlp { s.flp with slot := slot }).SoundSound := h.of_port h.voiced.served rfl
  unfold State.stepDone
  dsimp only
  split
  · exact counted _
  · exact (counted _).raise _

theorem havocUnit (h : s.SoundSound) (w : Work) : (s.havocUnit w).SoundSound := by
  unfold State.havocUnit
  split
  · have left (m : Memory) : (s.setFlp { s.flp with flash := m }).SoundSound := h.of_port h.voiced.served rfl
    exact (left _).of_same rfl
  · exact h

theorem stepTimeout (h : s.SoundSound) (a : Nat) : (s.stepTimeout a).SoundSound := by
  have ended (slot : Slot) : (s.setFlp { s.flp with slot := slot }).SoundSound := h.of_port h.voiced.served rfl
  exact (ended _).raise _

theorem unitTimeout (h : s.SoundSound) (w : Work) : (s.unitTimeout w).SoundSound := by
  unfold State.unitTimeout
  split
  · exact h.raise _
  · split
    · exact h.verifyBad ‹_› _
    · exact h
  · exact h
  · exact h.answerRead none
  · exact (h.havocUnit _).stepTimeout _
  · exact (h.havocUnit _).stepTimeout _

theorem flashUnitTimeout (h : s.SoundSound) : (flashUnitTimeout s).SoundSound := by
  unfold Machine.flashUnitTimeout
  split
  · exact h
  · split
    · exact h.freePort.unitTimeout _
    · exact h

/-- The completion of a unit keeps the invariant where its end does, with the port FREE. -/
theorem completion {mine : Work → Bool} {f : Work → State → State} (h : s.SoundSound)
    (hf : ∀ g, s.flp.grant = some g → (f g.work s.freePort).SoundSound) :
    Result.Leaves State.SoundSound (completion mine f s) := by
  intro t ht
  obtain rfl | ⟨g, hg, -, rfl⟩ := completion_cases ht
  · exact h
  · exact hf g hg

theorem flashReadComplete (h : s.SoundSound) : Result.Leaves State.SoundSound (execFlashReadComplete s) :=
  h.completion (f := fun w t => t.answerRead (some (t.unitBytes w))) fun _ _ => h.freePort.answerRead _

theorem hostStepComplete (h : s.SoundSound) : Result.Leaves State.SoundSound (execHostStepComplete s) :=
  h.completion fun _ _ => State.SoundSound.stepDone (h.freePort.of_port (Served.none _) rfl)

/-! ### Grants (06 R131) -/

theorem grantUnit {w : Option Work} (h : s.SoundSound)
    (hw : ∀ i a n, w = some (.refill i a n true) → ∃ r, (s.voice i).refill = some r ∧ n = r.count) :
    (s.grantUnit w).SoundSound := by
  refine h.of_port (fun g i a n hg e => ?_) rfl
  obtain ⟨w', rfl, rfl⟩ := Option.map_eq_some_iff.1 hg
  exact hw i a n (congrArg some e)

theorem grantMember (h : s.SoundSound) (m : Nat) : (s.grantMember m).SoundSound := by
  have turned : (s.setFlp { s.flp with lastHigh := m }).SoundSound := h.of_port h.voiced.served rfl
  have preferred (b : Bool) : (s.setFlp { s.flp with lastHigh := m, lowPrefersHost := b }).SoundSound :=
    h.of_port h.voiced.served rfl
  unfold State.grantMember
  dsimp only
  split
  · exact turned.grantUnit fun _ _ _ hw => refillUnit_serves hw
  · split
    · exact (preferred false).grantUnit fun _ _ _ hw => absurd hw hostUnit_ne_refill
    · exact (preferred true).beginVerify.grantUnit fun _ _ _ hw => absurd hw verifyUnit_ne_refill

theorem flashGrant (h : s.SoundSound) : (flashGrant s).SoundSound := by
  unfold Machine.flashGrant
  split
  · exact h
  · split
    · exact h.grantMember _
    · exact h

/-! ### Requests (06 §6.5) -/

theorem flashRead (h : s.SoundSound) (key addr len : Nat) : (flashRead key addr len s).SoundSound := by
  unfold Machine.flashRead
  dsimp only
  split
  · exact h
  · split
    · exact h.overrunFrame
    · split
      · exact h.hearFrame.respond _ _ _ _ _ _
      · have waiting : (s.hearFrame.setPort { s.hearFrame.port with building := true }).SoundSound := h.hearFrame.of_same rfl
        exact waiting.of_port h.voiced.served rfl

theorem acceptOp (h : s.SoundSound) (op : HostOpKind) (first last total : Nat) (data : List Byte) :
    (s.acceptOp op first last total data).Leaves State.SoundSound := by
  unfold State.acceptOp
  split
  · trivial
  · exact h.of_port h.voiced.served rfl

theorem flashProgram (h : s.SoundSound) (addr : Nat) (data : List Byte) :
    (flashProgram addr data s).Leaves State.SoundSound := by
  unfold Machine.flashProgram
  split
  · trivial
  · exact h.acceptOp _ _ _ _ _

theorem flashErase (h : s.SoundSound) (addr sectors : Nat) : (flashErase addr sectors s).Leaves State.SoundSound := by
  unfold Machine.flashErase
  split
  · trivial
  · exact h.acceptOp _ _ _ _ _

end State.SoundSound

end Sys2Proof.Machine
end

section
/-! PROOFS. Every step keeps the clip store and the voices sound (06 R121, R126, 07 R142, R147, R158): the events and requests of the
sound unit, the resets, and every command. -/

namespace Sys2Proof.Machine

namespace State.SoundSound

variable {s t : State}

/-! ### The output sample (07 R146, R149, R155) -/

theorem writeBuses (h : s.SoundSound) : s.writeBuses.SoundSound := h.of_master h.master rfl

theorem playVoice (h : s.SoundSound) (i : Nat) : (s.playVoice i).SoundSound := by
  unfold State.playVoice
  dsimp only
  split
  · rename_i sounds
    split
    · rename_i xs c hb _
      have shorter : xs.length ≤ (s.voice i).buffer.length := by
        rw [hb]
        exact Nat.le_succ _
      have played := h.setVoice (i := i) ((h.voice i).buffered (position := (s.voice i).played c) (underrun := false) sounds shorter)
        fun _ hr => hr
      split
      · exact played.endVoice i
      · exact played
    · exact h
    · split
      · have marked : Voice.Sound s.flp.clips { s.voice i with underrun := true } :=
          (h.voice i).buffered (position := (s.voice i).position) sounds (Nat.le_refl _)
        exact (h.setVoice marked fun _ hr => hr).raise _
      · exact h
  · exact h

theorem outputSample (h : s.SoundSound) : (outputSample s).SoundSound :=
  eachId (fun i _ hu => hu.placeRefill i) _ (eachId (fun i _ hu => hu.playVoice i) _ h.writeBuses)

/-! ### Fades and the master (07 R150, R158) -/

theorem fadeVoice (h : s.SoundSound) (i : Nat) : (s.fadeVoice i).SoundSound := by
  unfold State.fadeVoice
  dsimp only
  split
  · rename_i fading
    have slewed := h.setVoice (i := i) ((h.voice i).slewed (g := (s.voice i).gv - s.settings.voiceSlew) fading (Nat.sub_le _ _))
      fun _ hr => hr
    split
    · exact slewed.endVoice i
    · exact slewed
  · exact h

theorem climbMaster (h : s.SoundSound) : s.climbMaster.SoundSound := by
  unfold State.climbMaster
  split
  · rename_i below
    exact h.of_master below rfl
  · exact h

theorem fadeMasterTick (h : s.SoundSound) : (fadeMasterTick s).SoundSound :=
  (eachId (fun i _ hu => hu.fadeVoice i) _ h).climbMaster

theorem voiceFadeEnd (h : s.SoundSound) (i : Nat) : (voiceFadeEnd i s).SoundSound := by
  unfold Machine.voiceFadeEnd
  split
  · exact h.endVoice i
  · exact h

/-! ### Requests (07 R143, R151, R159, 09 R179) -/

theorem hostPlay (h : s.SoundSound) (w : PlayWire) : (hostPlay w s).Leaves State.SoundSound := by
  unfold Machine.hostPlay
  split
  · trivial
  · split
    · trivial
    · split
      · trivial
      · split
        · trivial
        · rename_i ht
          exact h.claimVoice (Nat.min_le_left _ _) ht

theorem hushVoice (h : s.SoundSound) (key : Nat) : (hushVoice key s).Leaves State.SoundSound := by
  unfold Machine.hushVoice
  split
  · trivial
  · split
    · trivial
    · exact h.setVoice (h.voice key).faded fun r hr => (Voice.fade_refill _).trans hr

theorem hushAll (h : s.SoundSound) : (hushAll s).Leaves State.SoundSound := h.fadeVoices _

theorem hostMaster (h : s.SoundSound) (gain : Nat) : (hostMaster gain s).Leaves State.SoundSound :=
  h.of_master (State.capMaster_bounded _) rfl

theorem hostStatus (h : s.SoundSound) : (hostStatus s).Leaves State.SoundSound := by
  have reported : s.speedBytes.1.SoundSound := by
    unfold State.speedBytes
    dsimp only
    split
    · exact h
    · exact h.of_same rfl
  exact reported.of_master reported.master rfl

/-! ### Resets (06 R139, R140, 07 R160, R161) -/

theorem Work.soft_not_live {w : Work} {i a n : Nat} : w.soft ≠ .refill i a n true := by
  cases w <;> simp [Work.soft]

theorem voiced_silent {clips : Table Clip} {grant : Option Grant} (hg : Served Snd.reset.voices grant) :
    Voiced clips grant (List.replicate 6 Voice.reset) where
  six := rfl
  each v hv := by
    rw [List.eq_of_mem_replicate hv]
    exact .reset clips
  served := hg

theorem of_reset (hf : ∃ flash, t.flp = Flp.reset flash) (hs : t.snd = Snd.reset) (hc : t.cue = CueUnit.reset) :
    t.SoundSound := by
  obtain ⟨flash, hf⟩ := hf
  refine (soundSound_iff t).2 ⟨?_, ?_, ?_, ?_⟩
  · rw [hf]
    exact ⟨Table.wf_nil, .nil, by simp [Flp.reset, clipState, Table.get], by simp [Flp.reset, clipState, Table.get, Verify.idle],
      nofun⟩
  · rw [hf, hs]
    exact voiced_silent (Served.none _)
  · rw [hc]
    nofun
  · rw [hs]
    exact Nat.zero_le _

/-- FLP's SOFT reset puts the clip under verification back at the head of the queue (06 R140). -/
theorem softFlp (h : s.SoundSound) : s.flp.soft.Stored := by
  obtain ⟨sorted, nodup, queued, verifying, gains⟩ := h.stored
  cases hv : s.flp.verifying.clip with
  | none =>
    have idle (id : Nat) : clipState s.flp.clips id ≠ some .verifying := fun e => by
      have := (verifying id).2 e
      rw [hv] at this
      cases this
    simp only [Flp.soft, hv]
    exact ⟨sorted, nodup, queued, fun id => ⟨nofun, fun e => absurd e (idle id)⟩, gains⟩
  | some id =>
    have back := (verifying id).1 hv
    have fresh : id ∉ s.flp.queue := by rw [queued, back]; decide
    refine h.stored.edit (id := id) (st := some .queued) ?_ ?_ ?_ ?_ ?_ ?_
    · simpa only [Flp.soft, hv] using Table.wf_update _ _ sorted
    · simpa only [Flp.soft, hv] using clipState_update back
    · simpa only [Flp.soft, hv, Option.toList_some, List.singleton_append, List.nodup_cons] using ⟨fresh, nodup⟩
    · intro k
      by_cases e : k = id <;> simp [Flp.soft, hv, e]
    · intro k
      by_cases e : k = id
      · simp [Flp.soft, Verify.idle, e]
      · simp [Flp.soft, Verify.idle, hv, e, Ne.symm e]
    · simpa only [Flp.soft, hv] using gains_update gains

theorem softReset (h : s.SoundSound) : (Machine.softReset s).Leaves State.SoundSound := by
  unfold Machine.softReset
  split
  · refine (soundSound_iff _).2 ⟨h.softFlp, voiced_silent ?_, ?_, ?_⟩
    · intro g i a n hg hw
      obtain ⟨g', -, rfl⟩ := Option.map_eq_some_iff.1 hg
      exact absurd hw Work.soft_not_live
    · intro p hp
      obtain ⟨q, hq, rfl⟩ := List.mem_map.1 hp
      exact h.cueGains q hq
    · exact h.master.trans_eq (State.masterTarget_congr (s := s) (t := s.softReset) rfl rfl rfl).symm
  · trivial

/-! ### The step -/

/-- Every command keeps the invariant: those that neither drive nor reach FLP, SND, CUE or the settings by their frame, the others
each by its own rule. -/
theorem exec (h : s.SoundSound) (c : Instr) : Result.Leaves State.SoundSound (exec c s) := by
  have others (hd : c.drives = false) (hc : c.isReset = false)
      (hb : ∀ b ∈ [Block.flp, .snd, .cue, .settings], b ∉ c.blocks) : Result.Leaves State.SoundSound (Machine.exec c s) := by
    intro t ht
    refine h.of_frame (exec_sameBut c s hc t ht) hb ?_
    obtain e | e := exec_hears c s hd t ht <;> rw [e]
    rfl
  cases c
  case guidanceSample e i => exact next_leaves (h.event (h.guidanceSample e i))
  case markerRead code => exact next_leaves (h.event (h.markerRead code))
  case seatSample => exact next_leaves (h.event (h.takeLevels _))
  case holdComplete => exact next_leaves (h.event h.holdComplete)
  case estopInputCheck high => exact next_leaves (h.event (h.estopInputCheck high))
  case linkExpiry => exact next_leaves (h.event h.linkExpiry)
  case supplyReading n => exact next_leaves (h.event (h.supplyReading n))
  case dwellExpiry => exact next_leaves (h.event h.dwellExpiry)
  case effectTick => exact next_leaves (h.event (h.of_same rfl))
  case effectPhaseEnd i => exact next_leaves (h.event (h.effectPhaseEnd i))
  case beaconTxComplete => exact next_leaves (h.event h.beaconTxComplete)
  case flashGrant => exact next_leaves (h.event h.flashGrant)
  case verifyBurstComplete => exact h.completion fun _ _ => h.freePort.verifyBurst _
  case refillComplete => exact h.completion fun _ hg => h.refillRead hg
  case flashReadComplete => exact h.flashReadComplete
  case flashReadDeadline => exact next_leaves (h.event h.flashReadDeadline)
  case hostStepComplete => exact h.hostStepComplete
  case flashUnitTimeout => exact next_leaves (h.event h.flashUnitTimeout)
  case outputSample => exact next_leaves (h.event h.outputSample)
  case fadeMasterTick => exact next_leaves (h.event h.fadeMasterTick)
  case voiceFadeEnd i => exact next_leaves (h.event (h.voiceFadeEnd i))
  case powerReset | pinReset => exact next_leaves (of_reset ⟨_, rfl⟩ rfl rfl)
  case resetEnd => exact next_leaves h.resetEnd
  case putAuthority => exact next_leaves (h.request fun _ hu => hu.putAuthority _ _)
  case amendAuthority => exact next_leaves (h.request fun _ hu => hu.amendAuthority _ _ _)
  case retireAuthority => exact next_leaves (h.request fun _ hu => hu.retireAuthority _)
  case putCue => exact next_leaves (h.request fun _ hu => hu.putCue _ _)
  case amendCue => exact next_leaves (h.request fun _ hu => hu.amendCue _ _ _)
  case retireCue | retireCueForce => exact next_leaves (h.request fun _ hu => hu.retireCue _ _)
  case rearm => exact next_leaves (h.request fun u hu => rearmCue_eq _ u ▸ namedCue fun _ => hu.updateCue _ (by intros; rfl))
  case rearmAll => exact next_leaves (h.request fun _ hu => hu.rearmAllCues)
  case disarm => exact next_leaves (h.request fun u hu => disarmCue_eq _ u ▸ namedCue fun _ => hu.updateCue _ (by intros; rfl))
  case putClip => exact next_leaves (h.request fun _ hu => hu.putClip _ _)
  case amendClip => exact next_leaves (h.request fun _ hu => hu.amendClip _ _ _)
  case retireClip => exact next_leaves (h.request fun _ hu => hu.retireClip _)
  case putSettings => exact next_leaves (h.request fun _ hu => hu.putSettings _ _)
  case amendSettings => exact next_leaves (h.request fun _ hu => hu.amendSettings _ _ _)
  case enable => exact next_leaves (h.request fun _ hu => hu.enableVehicle)
  case park => exact next_leaves (h.request fun _ hu => hu.parkVehicle)
  case place => exact next_leaves (h.request fun _ hu => hu.placeVehicle _ _)
  case start => exact next_leaves (h.request fun _ hu => hu.startVehicle)
  case stop => exact next_leaves (h.request fun _ hu => hu.stopVehicle)
  case estop => exact next_leaves (h.request fun _ hu => hu.addReason _)
  case resume => exact next_leaves (h.request fun _ hu => hu.resumeVehicle)
  case skipDwell => exact next_leaves (h.request fun _ hu => hu.skipDwell)
  case yaw => exact next_leaves (h.request fun _ hu => hu.hostYaw _)
  case play => exact next_leaves (h.request fun _ hu => hu.hostPlay _)
  case hush => exact next_leaves (h.request fun _ hu => hu.hushVoice _)
  case hushAll => exact next_leaves (h.request fun _ hu => hu.hushAll)
  case master => exact next_leaves (h.request fun _ hu => hu.hostMaster _)
  case flashRead => exact next_leaves (h.flashRead _ _ _)
  case flashProgram => exact next_leaves (h.request fun _ hu => hu.flashProgram _ _)
  case flashErase => exact next_leaves (h.request fun _ hu => hu.flashErase _ _)
  case status => exact next_leaves (h.request fun _ hu => hu.hostStatus)
  case softReset => exact next_leaves (h.request fun _ hu => hu.softReset)
  all_goals exact others rfl rfl (by simp [Instr.blocks])

end State.SoundSound

/-- Settles O19: a step runs a command on the queue's rest, or lets a microsecond pass, and each keeps the invariant. -/
theorem voicesSoundKept : Obligations.VoicesSoundKept := by
  intro s t hs ht
  unfold step at ht
  split at ht
  · cases ht
    exact hs.of_same rfl
  · rename_i c rest _
    have rest : (s.setPending rest).SoundSound := hs.of_same rfl
    exact rest.exec c t ht

end Sys2Proof.Machine
end

section
/-! PROOFS. The ends of FLASH_READ (06 R135) and the host's flash requests (06 R135 to R137). -/

namespace Sys2Proof.Machine

/-! ### A unit's completion -/

/-- The completion of the unit under way, its bytes within the flash (06 R132). -/
theorem completion_due {mine : Work → Bool} {f : Work → State → State} {s : State} {g : Grant}
    (hr : s.inReset = false) (hg : s.flp.grant = some g) (hm : mine g.work = true)
    (hin : g.work.addr + g.work.size ≤ 16777216) : completion mine f s = .next (f g.work s.freePort) := by
  have within : g.work.inFlash = true := decide_eq_true hin
  simp [completion, hr, hg, hm, within]

theorem State.freePort_sameBut (s : State) : SameBut [.flp] s s.freePort := by simp [sameBut_iff, State.freePort]

@[simp] theorem State.freePort_flp (s : State) : s.freePort.flp = { s.flp with grant := none } := rfl

/-! ### The waiting FLASH_READ answered -/

/-- The port once the waiting read `r` is answered with result `code` and `bs` (06 R135). -/
def Port.readAnswered (r : HostRead) (code : Nat) (bs : List Byte) (p : Port) : Port :=
  { p with
    building := false, overrun := false
    held := some ⟨.ok, 0x30, r.key, false, false, p.overrun, u8 code ++ u32 r.addr ++ bs⟩ }

theorem State.answerRead_done {s : State} {r : HostRead} (hr : s.flp.read = some r) (bs : List Byte) :
    s.answerRead (some bs) = (s.setFlp { s.flp with read := none }).setPort (s.port.readAnswered r 2 bs) := by
  simp [State.answerRead, hr, State.respond, Port.readAnswered, HostResult.code]

theorem State.answerRead_timeout {s : State} {r : HostRead} (hr : s.flp.read = some r) :
    s.answerRead none =
      ((s.setFlp { s.flp with read := none }).setPort (s.port.readAnswered r 3 [])).raise (.flashTimeout .read) := by
  simp [State.answerRead, hr, State.respond, Port.readAnswered, HostResult.code]

/-- The unit under way, if any, is a read (06 R135). -/
def Flp.reading (f : Flp) : Bool := (f.grant.map (fun g => g.work.isHostRead)).getD false

theorem Flp.reading_iff (f : Flp) : f.reading = true ↔ ∃ a n b, f.grant = some ⟨.hostRead a n, b⟩ := by
  unfold Flp.reading
  constructor
  · rcases f.grant with _ | ⟨_ | _ | ⟨a, n⟩ | _ | _, b⟩ <;> simp [Work.isHostRead]
  · rintro ⟨a, n, b, e⟩
    rw [e]
    rfl

/-- The deadline of a waiting read ends the unit under way if it is a read (06 R135). -/
theorem flashReadDeadline_due {s : State} {r : HostRead} (hr : s.flp.read = some r) (hd : r.deadline ≤ s.now) :
    flashReadDeadline s =
      (if s.flp.reading then s.freePort else s).answerRead none := by
  simp only [flashReadDeadline, hr, if_pos hd]
  rfl

/-- Settles O48: both ends answer the waiting read, the deadline with the port freed only when a read holds it. -/
theorem flashReadEnds : Obligations.FlashReadEnds := by
  intro s r hreset hread
  have waiting : s.freePort.flp.read = some r := hread
  refine ⟨fun a n b hg hin => ?_, fun hd => ?_⟩
  · refine ⟨_, completion_due (mine := Work.isHostRead) (f := fun w t => t.answerRead (some (t.unitBytes w)))
      hreset hg rfl hin, ?_⟩
    rw [State.answerRead_done waiting]
    exact ⟨by simp [sameBut_iff, State.freePort], rfl, rfl⟩
  · refine ⟨_, congrArg Host.Outcome.next (event_of_running hreset), flashReadDeadline_sameBut s, ?_⟩
    have ends := flashReadDeadline_due hread hd
    by_cases reads : s.flp.reading = true
    · obtain ⟨a, n, b, hg⟩ := s.flp.reading_iff.1 reads
      rw [ends, if_pos reads, State.answerRead_timeout waiting]
      exact ⟨rfl, fun _ _ _ _ => rfl, fun other => absurd hg (other a n b), rfl, State.raise_ntu_congr rfl _⟩
    · rw [ends, if_neg reads, State.answerRead_timeout hread]
      exact ⟨rfl, fun a n b hg => absurd (s.flp.reading_iff.2 ⟨a, n, b, hg⟩) reads, fun _ => rfl, rfl,
        State.raise_ntu_congr rfl _⟩

/-! ### The host's requests -/

theorem Slot.outstanding_of_ended {t : Slot} (h : t.result ≠ .running) : t.outstanding = false := decide_eq_false h

/-- A FLASH_READ that no check refuses waits, the port BUILDING (06 R135). -/
theorem flashRead_waits {s : State} {addr len : Nat} (key : Nat) (hl : s.listening)
    (hb : s.hearFrame.readBar addr len = none) : flashRead key addr len s =
      (s.hearFrame.setPort { s.hearFrame.port with building := true }).setFlp
        { s.flp with read := some ⟨key, addr, len, s.now + 1800⟩ } := by
  simp [flashRead, hl.1, hl.2, hb]

theorem State.readBar_none {s : State} {addr len : Nat} (hs : s.flp.slot.result ≠ .running) (h1 : 1 ≤ len)
    (h128 : len ≤ 128) (hin : addr + len ≤ 16777216) : s.readBar addr len = none := by
  simp only [State.readBar, Config.flashSize, Slot.outstanding_of_ended hs]
  simp
  omega

/-- No check of 06 R136 refuses an operation while every voice is IDLE, none is outstanding and no live clip is touched. -/
theorem State.hostOpBar_none {s : State} {first last : Nat} (hs : s.flp.slot.result ≠ .running)
    (hv : ∀ v ∈ s.snd.voices, v.state = .idle) (hc : s.liveClipIn first last = false) : s.hostOpBar first last = none := by
  have silent : s.snd.voices.any Voice.sounding = false :=
    List.any_eq_false.2 fun v h => by simp [Voice.sounding, hv v h]
  simp [State.hostOpBar, hc, silent, Slot.outstanding_of_ended hs]

/-- The slot an accepted operation fills (06 R136, R137). -/
def Slot.accepted (op : HostOpKind) (first last total : Nat) (data : List Byte) : Slot :=
  ⟨op, first, last, 0, total, .running, none, data⟩

theorem State.acceptOp_taken {s : State} {first last : Nat} (op : HostOpKind) (total : Nat) (data : List Byte)
    (hb : s.hostOpBar first last = none) : s.acceptOp op first last total data =
      .take (s.setFlp { s.flp with slot := .accepted op first last total data }) .accepted false (u16 total) := by
  simp [State.acceptOp, hb, Slot.accepted]

/-- An accepted operation is answered with its number of steps and fills the slot (06 R136). -/
theorem request_accepts {s : State} {kind key first last total : Nat} {op : HostOpKind} {data : List Byte}
    {act : State → Answer} (hl : s.listening) (hs : s.flp.slot.result ≠ .running)
    (hv : ∀ v ∈ s.snd.voices, v.state = .idle) (hc : s.liveClipIn first last = false)
    (ha : act s.hearFrame = s.hearFrame.acceptOp op first last total data) :
    Answers s (request kind key act s) [.flp] .accepted kind key false false (u16 total) ∧
      (request kind key act s).flp = { s.flp with slot := .accepted op first last total data } := by
  have taken := ha.trans (State.acceptOp_taken op total data (State.hostOpBar_none (s := s.hearFrame) hs hv hc))
  refine ⟨request_answers_calm hl taken (by simp [sameBut_iff]) (by decide) (by decide), ?_⟩
  rw [request_take hl.1 hl.2 taken]
  rfl

/-- A program of at most 236 bytes touches one page or two (06 R136). -/
theorem pages_of_short {addr n : Nat} (h1 : 1 ≤ n) (h236 : n ≤ 236) : (addr + n - 1) / 256 - addr / 256 + 1 =
    if (addr + n - 1) / 256 = addr / 256 then 1 else 2 := by
  split <;> omega

/-- Settles O51: no check refuses, so the read waits and the operations are accepted into the slot. -/
theorem hostFlashRequests : Obligations.HostFlashRequests := by
  intro s key addr hl hs
  refine ⟨fun len h1 h128 hin => ?_, fun hv => ⟨fun data h1 h236 hin hc => ?_, fun n ha h1 hn hin hc => ?_⟩⟩
  · have waits := flashRead_waits key hl (State.readBar_none (s := s.hearFrame) hs h1 h128 hin)
    refine ⟨_, congrArg Host.Outcome.next waits, by simp [sameBut_iff], rfl, rfl, rfl⟩
  · have act : flashProgram addr data s.hearFrame = s.hearFrame.acceptOp .program addr (addr + data.length - 1)
        ((addr + data.length - 1) / 256 - addr / 256 + 1) data := by
      unfold flashProgram Config.flashSize
      exact if_neg (by omega)
    obtain ⟨answer, slot⟩ := request_accepts (kind := 0x31) (key := key) (act := flashProgram addr data) hl hs hv hc act
    exact ⟨_, _, rfl, answer, pages_of_short h1 h236, slot⟩
  · have act : flashErase addr n s.hearFrame =
        s.hearFrame.acceptOp .erase addr (addr + 4096 * n - 1) n [] := by
      unfold flashErase Config.flashSize
      exact if_neg (by omega)
    obtain ⟨answer, slot⟩ := request_accepts (kind := 0x32) (key := key) (act := flashErase addr n) hl hs hv hc act
    exact ⟨_, rfl, answer, slot⟩

end Sys2Proof.Machine
end

section
/-! PROOFS. The ends of the host's program and erase steps and the timeout of a unit (06 R133, R136 to R138). -/

namespace Sys2Proof.Machine

/-! ### The flash after a step -/

/-- A page program leaves every byte outside its range. -/
theorem Memory.read_program_outside (bs : List Byte) {m : Memory} (a : Nat) (h : Memory.wf m) {x : Nat}
    (hx : x < a ∨ a + bs.length ≤ x) : Memory.read (Memory.program m a bs) x = Memory.read m x := by
  induction bs generalizing m a with
  | nil => rfl
  | cons c bs ih =>
    rw [List.length_cons] at hx
    rw [Memory.program, ih _ (Memory.wf_write a _ h) (by omega), Memory.read_write a _ h, if_neg (by omega)]

/-- A page program leaves each byte it carries the conjunction of the old byte and the carried one (06 R136; log 15). -/
theorem Memory.read_program (bs : List Byte) {m : Memory} (a : Nat) (h : Memory.wf m) {i : Nat} {b : Byte}
    (hb : bs[i]? = some b) : Memory.read (Memory.program m a bs) (a + i) = Memory.read m (a + i) &&& b := by
  induction bs generalizing m a i with
  | nil => cases hb
  | cons c bs ih =>
    cases i with
    | zero =>
      cases hb
      rw [Memory.program, Memory.read_program_outside bs _ (Memory.wf_write a _ h) (.inl (by omega)),
        Memory.read_write a _ h, if_pos (Nat.add_zero a)]
      rfl
    | succ i =>
      rw [Memory.program, show a + (i + 1) = a + 1 + i by omega, ih _ (Memory.wf_write a _ h) hb,
        Memory.read_write a _ h, if_neg (by omega)]

/-- Cells dropped by their address: the bytes there are blank, the others stay. -/
theorem Memory.read_filter (p : Nat → Bool) (m : Memory) (x : Nat) :
    Memory.read (m.filter (fun c => p c.1)) x = if p x then Memory.read m x else Memory.blank := by
  induction m with
  | nil => simp [Memory.read]
  | cons d m ih =>
    obtain ⟨j, e⟩ := d
    by_cases hj : j = x
    · subst hj
      cases hp : p j <;> simp [hp, Memory.read, ih]
    · cases hp : p j <;> simp [hp, Memory.read, ih, hj]

/-- An erased byte reads FFh and every other byte as before (06 R137). -/
theorem Memory.read_eraseRange (m : Memory) (a n x : Nat) : Memory.read (Memory.eraseRange m a n) x =
    if x < a ∨ a + n ≤ x then Memory.read m x else Memory.blank := by
  refine (Memory.read_filter (fun y => decide (y < a ∨ a + n ≤ y)) m x).trans ?_
  simp only [decide_eq_true_eq]

/-- A step writes inside its own range only. -/
theorem Work.read_written (w : Work) {m : Memory} (h : Memory.wf m) {x : Nat} (hx : x < w.addr ∨ w.addr + w.size ≤ x) :
    Memory.read (w.written m) x = Memory.read m x := by
  cases w with
  | refill | verify | hostRead => rfl
  | program a d => exact Memory.read_program_outside d a h hx
  | erase a => exact (Memory.read_eraseRange m a 4096 x).trans (if_pos hx)

/-! ### A step counted -/

/-- A step that is not the last (06 R138). -/
theorem State.stepDone_more {s : State} (h : s.flp.slot.done + 1 < s.flp.slot.total) :
    s.stepDone = s.setFlp { s.flp with slot := { s.flp.slot with done := s.flp.slot.done + 1 } } := if_pos h

/-- The last step ends the operation DONE, with its notice (06 R138). -/
theorem State.stepDone_last {s : State} (h : s.flp.slot.total ≤ s.flp.slot.done + 1) : s.stepDone =
    (s.setFlp { s.flp with slot := { s.flp.slot with done := s.flp.slot.done + 1, result := .done } }).raise
      (.flashDone s.flp.slot.op.flashOp) := if_neg (Nat.not_lt.2 h)

/-- Counting a step changes the slot alone in FLP. -/
theorem State.stepDone_flp (s : State) : s.stepDone.flp = { s.flp with slot := s.stepDone.flp.slot } := by
  rcases Nat.lt_or_ge (s.flp.slot.done + 1) s.flp.slot.total with more | last
  · rw [State.stepDone_more more]; rfl
  · rw [State.stepDone_last last]; rfl

theorem State.stepDone_done (s : State) : s.stepDone.flp.slot.done = s.flp.slot.done + 1 := by
  rcases Nat.lt_or_ge (s.flp.slot.done + 1) s.flp.slot.total with more | last
  · rw [State.stepDone_more more]; rfl
  · rw [State.stepDone_last last]; rfl

/-- The state in which a step's end is counted: the port FREE, the bytes written (06 R136, R137). -/
def State.stepWritten (w : Work) (s : State) : State :=
  s.setFlp { s.flp with grant := none, flash := w.written s.flp.flash }

theorem State.stepWritten_flp (w : Work) (s : State) :
    (s.stepWritten w).flp = { s.flp with grant := none, flash := w.written s.flp.flash } := rfl

/-- A completed step writes its bytes and is counted (06 R138). -/
theorem execHostStepComplete_due {s : State} {g : Grant} (hreset : s.inReset = false) (hg : s.flp.grant = some g)
    (hw : g.work.isStep = true) (hin : g.work.addr + g.work.size ≤ 16777216) :
    exec .hostStepComplete s = .next (s.stepWritten g.work).stepDone :=
  completion_due (mine := Work.isStep) (f := fun w t => (t.setFlp { t.flp with flash := w.written t.flp.flash }).stepDone)
    hreset hg hw hin

/-- Settles O49: the step writes its own range only, and counting it changes the slot alone. -/
theorem hostStepWrites : Obligations.HostStepWrites := by
  intro s w began hreset hwf hg hw hin
  have written : SameBut [.flp, .ntu] s (s.stepWritten w) := by simp [sameBut_iff, State.stepWritten]
  have flp := (s.stepWritten w).stepDone_flp
  have flash : (s.stepWritten w).stepDone.flp.flash = w.written s.flp.flash := by rw [flp]; rfl
  refine ⟨_, execHostStepComplete_due hreset hg hw hin, written.trans (State.stepDone_sameBut _), ?_, ?_, ?_, ?_,
    State.stepDone_done _, fun a ha => ?_, fun a d e i b hb => ?_, fun a e i hi => ?_, fun more => ?_, fun last => ?_⟩
  · rw [flp]; rfl
  · rw [flp]; rfl
  · rw [flp]; rfl
  · rw [flp]; rfl
  · rw [flash]
    exact w.read_written hwf ha
  · rw [flash, e]
    exact Memory.read_program d a hwf hb
  · rw [flash, e]
    exact (Memory.read_eraseRange _ a 4096 _).trans (if_neg (by omega))
  · rw [State.stepDone_more (s := s.stepWritten w) more]
    exact ⟨rfl, rfl⟩
  · rw [State.stepDone_last (s := s.stepWritten w) last]
    exact ⟨rfl, State.raise_ntu_congr rfl _⟩

/-! ### A unit's timeout -/

/-- A clip ended BAD: its state, and VERIFY without work (06 R127, R128). -/
theorem State.verifyBad_flp (id : Nat) (r : BadReason) (s : State) : (s.verifyBad id r).flp =
    { s.flp with
      clips := Table.update id (fun c => { c with state := .bad r }) s.flp.clips
      verifying := Verify.idle } := rfl

theorem State.verifyBad_clip (id : Nat) (r : BadReason) (s : State) : Table.get (s.verifyBad id r).flp.clips id =
    (Table.get s.flp.clips id).map (fun c => { c with state := .bad r }) := by
  rw [State.verifyBad_flp, Table.get_update, if_pos rfl]

theorem State.verifyBad_ntu (id : Nat) (r : BadReason) (s : State) :
    (s.verifyBad id r).ntu = (s.raise (.clipBad id r)).ntu := State.raise_ntu_congr rfl _

/-- An answered read is no longer waiting; nothing else of FLP changes (06 R135). -/
theorem State.answerRead_flp (bs : Option (List Byte)) (s : State) :
    (s.answerRead bs).flp = { s.flp with read := none } := by
  unfold State.answerRead
  dsimp only
  repeat' split
  · rename_i h
    rw [← h]
  · rfl
  · rfl

/-- A step that times out leaves its own bytes free and ends its operation TIMEOUT (06 R138, R139; log 7). -/
theorem State.unitTimeout_step {w : Work} (h : w.isStep = true) (s : State) :
    s.unitTimeout w = (s.havocUnit w).stepTimeout w.addr := by
  cases w with
  | refill | verify | hostRead => cases h
  | program | erase => rfl

theorem State.havocUnit_step {w : Work} (h : w.isStep = true) (s : State) : s.havocUnit w =
    (s.setFlp { s.flp with flash := Memory.havoc s.flp.flash w.addr s.free w.size }).setFree (s.free + w.size) := if_pos h

/-- What a unit's timeout leaves of FLP: the grant, the queue, the arbiter's turns, and the flash but for a step's bytes. -/
structure Flp.Outlasts (w : Work) (f f' : Flp) : Prop where
  grant : f'.grant = f.grant
  queue : f'.queue = f.queue
  lastHigh : f'.lastHigh = f.lastHigh
  lowPrefersHost : f'.lowPrefersHost = f.lowPrefersHost
  flash : ∀ a, w.isStep = false ∨ a < w.addr ∨ w.addr + w.size ≤ a → Memory.read f'.flash a = Memory.read f.flash a

/-- Clips, verification and waiting read may change. -/
theorem Flp.Outlasts.of_records {w : Work} {f f' : Flp} {clips : Table Clip} {v : Verify} {read : Option HostRead}
    (h : f' = { f with clips := clips, verifying := v, read := read }) : f.Outlasts w f' := by
  rw [h]
  exact ⟨rfl, rfl, rfl, rfl, fun _ _ => rfl⟩

/-- A burst of a verification that times out ends it BAD (06 R133). -/
theorem State.unitTimeout_verify {s : State} {id : Nat} (h : s.flp.verifying.clip = some id) (a n : Nat) :
    s.unitTimeout (.verify a n true) = s.verifyBad id .flashTimeout := by simp [State.unitTimeout, h]

theorem State.unitTimeout_stale {s : State} (h : s.flp.verifying.clip = none) (a n : Nat) :
    s.unitTimeout (.verify a n true) = s := by simp [State.unitTimeout, h]

theorem State.unitTimeout_hostRead (a n : Nat) (s : State) : s.unitTimeout (.hostRead a n) = s.answerRead none := rfl

theorem State.unitTimeout_outlasts (w : Work) {s : State} (hwf : Memory.wf s.flp.flash) :
    s.flp.Outlasts w (s.unitTimeout w).flp := by
  by_cases step : w.isStep = true
  · rw [State.unitTimeout_step step, State.havocUnit_step step]
    exact ⟨rfl, rfl, rfl, rfl, fun a ha => Memory.read_havoc _ hwf (by simpa [step] using ha)⟩
  · cases w with
    | refill => exact .of_records rfl
    | hostRead => exact .of_records (s.answerRead_flp none)
    | program | erase => exact absurd rfl step
    | verify a n live =>
      cases live with
      | false => exact .of_records rfl
      | true =>
        cases hid : s.flp.verifying.clip with
        | none =>
          rw [State.unitTimeout_stale hid]
          exact .of_records rfl
        | some id => exact State.unitTimeout_verify hid a n ▸ .of_records (s.verifyBad_flp id _)

/-- Once the limit has passed the port is FREE and the unit timed out (06 R133). -/
theorem flashUnitTimeout_due {s : State} {g : Grant} (hg : s.flp.grant = some g) (hd : g.began + g.work.limit ≤ s.now) :
    flashUnitTimeout s = s.freePort.unitTimeout g.work := by simp [flashUnitTimeout, hg, hd]

/-- Settles O50, by the kind of the unit that times out. -/
theorem flashUnitTimesOut : Obligations.FlashUnitTimesOut := by
  intro s g hreset hwf hg hd
  have due := flashUnitTimeout_due hg hd
  have kept := State.unitTimeout_outlasts g.work (s := s.freePort) hwf
  have frame : SameBut [.flp, .port, .ntu, .free] s (s.freePort.unitTimeout g.work) := due ▸ flashUnitTimeout_sameBut s
  refine ⟨_, congrArg Host.Outcome.next ((event_of_running hreset).trans due), frame.mono (by decide), kept.grant,
    kept.queue, kept.lastHigh, kept.lowPrefersHost, kept.flash, fun i a n l e => ?_, fun a n id e hid => ?_, fun a n r e hr => ?_,
    fun step => ?_⟩
  · rw [e]
    exact ⟨rfl, State.raise_ntu_congr rfl _⟩
  · rw [e, State.unitTimeout_verify (s := s.freePort) hid, State.verifyBad_clip, State.verifyBad_ntu]
    exact ⟨rfl, rfl, State.raise_ntu_congr rfl _⟩
  · rw [e, State.unitTimeout_hostRead, State.answerRead_timeout (s := s.freePort) hr]
    exact ⟨rfl, rfl, State.raise_ntu_congr rfl _⟩
  · rw [State.unitTimeout_step step, State.havocUnit_step step]
    exact ⟨rfl, State.raise_ntu_congr rfl _⟩

end Sys2Proof.Machine
end

section
/-! PROOFS. The ends of the reads that carry a clip: VERIFY's bursts (06 R127 to R129) and refills (06 R134, 07 R148). -/

namespace Sys2Proof.Machine

/-! ### A burst checked -/

/-- Clip `id`, which was `c`, has ended its verification in state `st`, with notice `n` (06 R128). -/
def VerifyEnded (s t : State) (id : Nat) (c : Clip) (st : ClipState) (n : Notice) : Prop :=
  t.flp.verifying.clip = none ∧
  (∀ k, Table.get t.flp.clips k = if k = id then some { c with state := st } else Table.get s.flp.clips k) ∧
  t.ntu = (s.raise n).ntu

section
variable {s : State} {id : Nat} {c : Clip}

/-- A present clip brought to state `st`. -/
theorem Table.get_setState {clips : Table Clip} (h : Table.get clips id = some c) (st : ClipState) (k : Nat) :
    Table.get (Table.update id (fun c => { c with state := st }) clips) k =
      if k = id then some { c with state := st } else Table.get clips k := by
  rw [Table.get_update]
  split
  · rename_i e
    rw [e, h]
    rfl
  · rfl

theorem State.verifyBad_ended (hc : Table.get s.flp.clips id = some c) (r : BadReason) :
    VerifyEnded s (s.verifyBad id r) id c (.bad r) (.clipBad id r) :=
  ⟨rfl, Table.get_setState hc _, s.verifyBad_ntu id r⟩

theorem State.verifyReady_ended (hc : Table.get s.flp.clips id = some c) :
    VerifyEnded s (s.verifyReady id) id c .ready (.clipReady id) :=
  ⟨rfl, Table.get_setState hc _, State.raise_ntu_congr rfl _⟩

/-- A burst after which the extent of the clip is not yet done (06 R128). -/
theorem State.verifyDone_more {v : Verify} {size : Nat} (h : v.done < size) :
    s.verifyDone size id v = s.setFlp { s.flp with verifying := v } := if_pos h

theorem State.verifyDone_ready {v : Verify} {size : Nat} (h : size ≤ v.done) (he : ~~~v.crc = v.headerCrc) :
    s.verifyDone size id v = s.verifyReady id := by
  rw [State.verifyDone, if_neg (Nat.not_lt.2 h), if_pos he]

theorem State.verifyDone_badCrc {v : Verify} {size : Nat} (h : size ≤ v.done) (he : ~~~v.crc ≠ v.headerCrc) :
    s.verifyDone size id v = s.verifyBad id .crc := by
  rw [State.verifyDone, if_neg (Nat.not_lt.2 h), if_neg he]

variable {bs : List Byte}

/-- The first burst: the header checked, then the bytes after it in the CRC (06 R127). -/
theorem State.verifyBytes_first (hv : s.flp.verifying.clip = some id) (hc : Table.get s.flp.clips id = some c)
    (h0 : s.flp.verifying.done = 0) : s.verifyBytes bs =
      if bs.take 4 ≠ clipTag then s.verifyBad id .header
      else if le32 bs 4 ≠ c.length then s.verifyBad id .length
      else s.verifyDone c.size id
        ⟨some id, bs.length, crc32 s.flp.verifying.crc (bs.drop 16), BitVec.ofNat 32 (le32 bs 8)⟩ := by
  unfold State.verifyBytes
  simp only [hv, hc, if_pos h0]

/-- A later burst: all its bytes in the CRC (06 R128). -/
theorem State.verifyBytes_later (hv : s.flp.verifying.clip = some id) (hc : Table.get s.flp.clips id = some c)
    (h0 : 0 < s.flp.verifying.done) : s.verifyBytes bs = s.verifyDone c.size id
      ⟨some id, s.flp.verifying.done + bs.length, crc32 s.flp.verifying.crc bs, s.flp.verifying.headerCrc⟩ := by
  unfold State.verifyBytes
  simp only [hv, hc, if_neg h0.ne']

end

/-- The state after a burst, with `v` the verification it leaves while the extent is not done (06 R128). -/
def VerifyAfter (s t : State) (id : Nat) (c : Clip) (v : Verify) : Prop :=
  (v.done < c.size → t.flp.verifying = v ∧ t.flp.clips = s.flp.clips ∧ t.ntu = s.ntu) ∧
  (c.size ≤ v.done →
    (~~~v.crc = v.headerCrc → VerifyEnded s t id c .ready (.clipReady id)) ∧
    (~~~v.crc ≠ v.headerCrc → VerifyEnded s t id c (.bad .crc) (.clipBad id .crc)))

theorem State.verifyDone_after {s : State} {id : Nat} {c : Clip} (hc : Table.get s.flp.clips id = some c) (v : Verify) :
    VerifyAfter s (s.verifyDone c.size id v) id c v := by
  refine ⟨fun h => ?_, fun h => ⟨fun he => ?_, fun he => ?_⟩⟩
  · rw [State.verifyDone_more h]
    exact ⟨rfl, rfl, rfl⟩
  · rw [State.verifyDone_ready h he]
    exact State.verifyReady_ended hc
  · rw [State.verifyDone_badCrc h he]
    exact State.verifyBad_ended hc _

/-- A verification burst changes the clips and VERIFY alone in FLP. -/
theorem State.verifyBytes_flp (bs : List Byte) (s : State) : (s.verifyBytes bs).flp =
    { s.flp with clips := (s.verifyBytes bs).flp.clips, verifying := (s.verifyBytes bs).flp.verifying } := by
  unfold State.verifyBytes State.verifyDone
  dsimp only
  repeat' split
  all_goals rfl

theorem execVerifyBurst_due {s : State} {addr n began : Nat} {live : Bool} (hr : s.inReset = false)
    (hg : s.flp.grant = some ⟨.verify addr n live, began⟩) (hin : addr + n ≤ 16777216) :
    exec .verifyBurstComplete s = .next (verifyBurst (.verify addr n live) s.freePort) :=
  completion_due (mine := Work.isVerify) (f := verifyBurst) hr hg rfl hin

/-- Settles O46, by the checks of the first burst and the bytes then done. -/
theorem verifyBurstChecks : Obligations.VerifyBurstChecks := by
  intro s addr n began live hr hg hin bs
  have run := execVerifyBurst_due hr hg hin
  have frame : SameBut [.flp, .ntu] s (verifyBurst (.verify addr n live) s.freePort) :=
    (s.freePort_sameBut.mono (by decide)).trans (verifyBurst_sameBut s.freePort _)
  cases live with
  | false => exact ⟨_, run, frame, rfl, rfl, rfl, fun _ => ⟨rfl, rfl⟩, fun _ _ h => nomatch h⟩
  | true =>
    have burst : verifyBurst (.verify addr n true) s.freePort = s.freePort.verifyBytes bs := rfl
    have flp := s.freePort.verifyBytes_flp bs
    have size : bs.length = n := Memory.readRange_length _ _ _
    rw [burst] at run frame
    refine ⟨_, run, frame, by rw [flp]; rfl, by rw [flp]; rfl, by rw [flp]; rfl, nofun, fun id c _ hv hc => ?_⟩
    have first := State.verifyBytes_first (s := s.freePort) (bs := bs) hv hc
    have bad (r : BadReason) := State.verifyBad_ended (s := s.freePort) hc r
    have after := State.verifyDone_after (s := s.freePort) hc
    refine ⟨fun h0 tag => ?_, fun h0 tag length => ?_, fun h0 tag length => ?_, fun h0 => ?_⟩
    · rw [(first h0).trans (if_pos tag)]
      exact bad .header
    · rw [(first h0).trans ((if_neg (not_not.2 tag)).trans (if_pos length))]
      exact bad .length
    · have started : bs.length = s.flp.verifying.done + n := by rw [size, h0, Nat.zero_add]
      rw [(first h0).trans ((if_neg (not_not.2 tag)).trans (if_neg (not_not.2 length))), started]
      exact after ⟨some id, s.flp.verifying.done + n, _, _⟩
    · rw [State.verifyBytes_later (s := s.freePort) hv hc h0, size]
      exact after ⟨some id, s.flp.verifying.done + n, _, _⟩

/-! ### A refill delivered -/

/-- The voice with the samples `xs` of clip `c` in its buffer, its request withdrawn (07 R148). -/
def Voice.filled (c : Clip) (xs : List Int) (v : Voice) : Voice :=
  { v with buffer := v.buffer ++ xs, fetch := v.fetched c xs.length, primed := true, refill := none }

theorem Voice.filled_request (c : Clip) (xs : List Int) (v : Voice) : (v.filled c xs).request c =
    if v.sounding = true ∧ v.buffer.length + xs.length ≤ 256 ∧
      (v.loops c = true ∨ v.fetched c xs.length ≠ c.length) then
      some ⟨v.fetched c xs.length, min 128 (v.boundary c - v.fetched c xs.length)⟩
    else none := by
  have needs : (v.filled c xs).needsRefill c = true ↔ v.sounding = true ∧ v.buffer.length + xs.length ≤ 256 ∧
      (v.loops c = true ∨ v.fetched c xs.length ≠ c.length) := by
    change (v.sounding && true && decide ((v.buffer ++ xs).length ≤ 256) &&
      (v.loops c || decide (v.fetched c xs.length ≠ c.length))) = true ↔ _
    simp [and_assoc]
  unfold Voice.request
  by_cases h : (v.filled c xs).needsRefill c = true
  · rw [if_pos h, if_pos (needs.1 h)]
    rfl
  · rw [if_neg h, if_neg (mt needs.2 h)]
    rfl

theorem Voice.fetched_looping {v : Voice} {c : Clip} {a b : Nat} (hv : v.loop = true) (hc : c.loop = some (a, b))
    (n : Nat) : v.fetched c n = if v.fetch + n = b then a else v.fetch + n := by simp [Voice.fetched, hv, hc]

theorem Voice.boundary_looping {v : Voice} {c : Clip} {a b : Nat} (hv : v.loop = true) (hc : c.loop = some (a, b)) :
    v.boundary c = b := by simp [Voice.boundary, hv, hc]

theorem Voice.loops_of_some {v : Voice} {c : Clip} {a b : Nat} (hv : v.loop = true) (hc : c.loop = some (a, b)) :
    v.loops c = true := by simp [Voice.loops, hv, hc]

section
variable {v : Voice} {c : Clip} (h : v.loop = false ∨ c.loop = none)
include h

theorem Voice.fetched_straight (n : Nat) : v.fetched c n = v.fetch + n := by
  rcases h with hv | hc <;> simp [Voice.fetched, *]

theorem Voice.boundary_straight : v.boundary c = c.length := by
  rcases h with hv | hc <;> simp [Voice.boundary, *]

theorem Voice.loops_straight : v.loops c = false := by
  rcases h with hv | hc <;> simp [Voice.loops, *]

end

/-- Voice `j` once voice `i` has been replaced. -/
theorem State.voice_setVoice {i : Nat} (s : State) (v : Voice) (hi : i < s.snd.voices.length) (j : Nat) :
    (s.setVoice i v).voice j = if j = i then v else s.voice j := by
  simp only [State.voice, State.setVoice, State.setSnd_snd, List.getD_eq_getElem?_getD, List.getElem?_set]
  by_cases h : j = i
  · simp [h, hi]
  · simp [h, Ne.symm h]

theorem State.placeRefill_voice {s : State} {i : Nat} {c : Clip} (hi : i < s.snd.voices.length)
    (hc : s.clipOf (s.voice i) = some c) (j : Nat) : (s.placeRefill i).voice j =
      if j = i then { s.voice i with refill := (s.voice i).request c } else s.voice j :=
  (congrArg (fun d : Snd => d.voices.getD j Voice.reset) (State.placeRefill_snd hi hc)).trans (s.voice_setVoice _ hi j)

/-- The samples handed to a voice, and its request placed anew when it needs one (07 R147, R148). -/
theorem State.deliver_voice {s : State} {i : Nat} {c : Clip} (hi : i < s.snd.voices.length)
    (hc : s.clipOf (s.voice i) = some c) (xs : List Int) (j : Nat) : (s.deliver i xs).voice j =
      if j = i then { (s.voice i).filled c xs with refill := ((s.voice i).filled c xs).request c } else s.voice j := by
  have delivers : s.deliver i xs = (s.setVoice i ((s.voice i).filled c xs)).placeRefill i := by
    simp only [State.deliver, hc]
    rfl
  have hit := (s.voice_setVoice ((s.voice i).filled c xs) hi i).trans (if_pos rfl)
  have there : i < (s.setVoice i ((s.voice i).filled c xs)).snd.voices.length :=
    hi.trans_eq (List.length_set ..).symm
  rw [delivers, State.placeRefill_voice there ((congrArg s.clipOf hit).trans hc), hit]
  split
  · rfl
  · exact (s.voice_setVoice _ hi j).trans (if_neg ‹_›)

/-- A delivery leaves FLP (06 R134). -/
theorem State.deliver_flp (i : Nat) (xs : List Int) (s : State) : (s.deliver i xs).flp = s.flp := by
  unfold State.deliver
  split
  · rfl
  · exact State.placeRefill_flp _ _

/-- Settles O47: the voice is filled, then its request placed anew when it needs one. -/
theorem refillDelivers : Obligations.RefillDelivers := by
  intro s i addr n began live hr hg hin xs
  have run : exec .refillComplete s = .next (refillRead (.refill i addr n live) s.freePort) :=
    completion_due (mine := Work.isRefill) (f := refillRead) hr hg rfl hin
  have flp : (refillRead (.refill i addr n live) s.freePort).flp = { s.flp with grant := none } := by
    cases live with
    | false => rfl
    | true => exact s.freePort.deliver_flp i xs
  refine ⟨_, run, (s.freePort_sameBut.mono (by decide)).trans (refillRead_sameBut s.freePort _), flp, ?_, ?_⟩
  · rintro rfl
    rfl
  · rintro c rfl hi hc
    have length : xs.length = n := samplesOf_length (Memory.readRange_length _ _ _)
    have voice (j : Nat) := State.deliver_voice (s := s.freePort) hi hc xs j
    have hit := (voice i).trans (if_pos rfl)
    have delivered : refillRead (.refill i addr n true) s.freePort = s.freePort.deliver i xs := rfl
    have same : s.freePort.voice i = s.voice i := rfl
    rw [same, Voice.filled_request, length] at hit
    rw [delivered, hit]
    have fetch : ((s.voice i).filled c xs).fetch = (s.voice i).fetched c n :=
      congrArg ((s.voice i).fetched c) length
    have asked (b : Nat) := congrArg (fun f => some (⟨f, min 128 (b - f)⟩ : Refill)) fetch.symm
    refine ⟨rfl, rfl, length, rfl, rfl,
      fun a b hv hl => ⟨fetch.trans (Voice.fetched_looping hv hl n), fun sounds few => ?_⟩,
      fun hv => ⟨fetch.trans (Voice.fetched_straight hv n), fun sounds few => ?_⟩,
      fun many => ?_, fun silent => ?_, fun j hj => (voice j).trans (if_neg hj)⟩
    · rw [if_pos ⟨sounds, few, .inl (Voice.loops_of_some hv hl)⟩, Voice.boundary_looping hv hl]
      exact asked b
    · rw [Voice.boundary_straight hv]
      by_cases whole : (s.voice i).fetched c n = c.length
      · refine (if_neg ?_).trans (if_pos (fetch.trans whole)).symm
        rintro ⟨-, -, loops | part⟩
        · exact absurd (loops.symm.trans (Voice.loops_straight hv)) (by decide)
        · exact part whole
      · exact (if_pos ⟨sounds, few, .inr whole⟩).trans ((asked _).trans (if_neg fun h => whole (fetch.symm.trans h)).symm)
    · exact if_neg fun ⟨_, few, _⟩ => absurd few (Nat.not_le.2 many)
    · exact if_neg fun ⟨sounds, _⟩ => absurd (silent.symm.trans sounds) (by decide)

end Sys2Proof.Machine
end

section
/-! PROOFS. FLASH_GRANT (06 R130, R131): the search of the high ring, the turns of the low group, and each member's unit. -/

namespace Sys2Proof.Machine

/-! ### The search of the ring -/

/-- The member at place `i` of a search that starts after `last` (06 R131). -/
theorem ringPlace_at {last i : Nat} (hl : last ≤ 6) (hi : i < 7) : ringPlace last ((last + 1 + i) % 7) = i := by
  unfold ringPlace
  omega

theorem at_ringPlace {last m : Nat} (hl : last ≤ 6) (hm : m ≤ 6) : (last + 1 + ringPlace last m) % 7 = m := by
  unfold ringPlace
  omega

/-- The search finds the asking member of the least place (06 R131). -/
theorem State.nextMember_eq {s : State} {m : Nat} (hl : s.flp.lastHigh ≤ 6) (hm : m ≤ 6) (asks : s.asks m = true)
    (least : ∀ j, j ≤ 6 → s.asks j = true → ringPlace s.flp.lastHigh m ≤ ringPlace s.flp.lastHigh j) :
    s.nextMember = some m := by
  have place : ringPlace s.flp.lastHigh m < 7 := Nat.mod_lt _ (by decide)
  have found : (List.range 7).find? (fun i => s.asks ((s.flp.lastHigh + 1 + i) % 7)) =
      some (ringPlace s.flp.lastHigh m) := by
    refine List.find?_range_eq_some.2 ⟨by rw [at_ringPlace hl hm, asks], List.mem_range.2 place, fun i hi => ?_⟩
    cases early : s.asks ((s.flp.lastHigh + 1 + i) % 7) with
    | false => rfl
    | true =>
      have behind := least _ (Nat.le_of_lt_succ (Nat.mod_lt _ (by decide))) early
      rw [ringPlace_at hl (hi.trans place)] at behind
      exact absurd hi (Nat.not_lt.2 behind)
  unfold State.nextMember searchOrder
  rw [List.find?_map]
  exact (congrArg _ found).trans (congrArg some (at_ringPlace hl hm))

/-! ### The grant to a member -/

theorem State.grantMember_voice {s : State} {m : Nat} (h : m ≤ 5) : s.grantMember m =
    s.setFlp { s.flp with lastHigh := m, grant := (s.refillUnit m).map (⟨·, s.now⟩) } := by
  have voice : m < 6 := by omega
  simp only [State.grantMember, if_pos voice]
  rfl

theorem State.grantMember_host {s : State} (h : s.flp.lowToHost = true) : s.grantMember 6 = s.setFlp
    { s.flp with lastHigh := 6, lowPrefersHost := false, grant := s.flp.hostUnit.map (⟨·, s.now⟩) } := by
  simp only [State.grantMember, h]
  rfl

/-- LOW's turn given to VERIFY: HOSTOP is preferred next (06 R131). -/
def State.verifyTurn (s : State) : State := s.setFlp { s.flp with lastHigh := 6, lowPrefersHost := true }

theorem State.grantMember_verify {s : State} (h : s.flp.lowToHost = false) :
    s.grantMember 6 = s.verifyTurn.beginVerify.grantUnit s.verifyTurn.beginVerify.verifyUnit := by
  simp only [State.grantMember, h]
  rfl

/-- What a grant leaves of FLP (06 R131). -/
theorem State.grantMember_flp (m : Nat) (s : State) : let f := (s.grantMember m).flp
    f.lastHigh = m ∧ f.flash = s.flp.flash ∧ f.slot = s.flp.slot := by
  unfold State.grantMember State.beginVerify
  dsimp only
  repeat' split
  all_goals exact ⟨rfl, rfl, rfl⟩

/-! ### Whose turn it is in the low group -/

theorem Flp.lowToHost_true {f : Flp} (asks : f.hostAsks = true) (turn : f.lowPrefersHost = true ∨ f.verifyAsks = false) :
    f.lowToHost = true := by
  cases prefers : f.lowPrefersHost <;> simp_all [Flp.lowToHost]

theorem Flp.lowToHost_false {f : Flp} (asks : f.verifyAsks = true) (turn : f.lowPrefersHost = false ∨ f.hostAsks = false) :
    f.lowToHost = false := by
  cases prefers : f.lowPrefersHost <;> simp_all [Flp.lowToHost]

/-! ### The units -/

theorem State.refillUnit_eq {s : State} {i : Nat} {r : Refill} {c : Clip} (hr : (s.voice i).refill = some r)
    (hc : s.clipOf (s.voice i) = some c) :
    s.refillUnit i = some (.refill i (c.addr + 16 + 2 * r.first) r.count true) := by simp [State.refillUnit, hr, hc]

theorem Flp.hostUnit_read {f : Flp} {r : HostRead} (hr : f.read = some r) :
    f.hostUnit = some (.hostRead r.addr r.len) := by simp [Flp.hostUnit, hr]

theorem Flp.hostUnit_program {f : Flp} (hr : f.read = none) (ho : f.slot.op = .program) : f.hostUnit =
    some (.program (f.slot.stepFirst f.slot.done) ((f.slot.data.drop (f.slot.stepFirst f.slot.done - f.slot.first)).take
      (f.slot.stepLast f.slot.done + 1 - f.slot.stepFirst f.slot.done))) := by simp [Flp.hostUnit, hr, ho]

theorem Flp.hostUnit_erase {f : Flp} (hr : f.read = none) (ho : f.slot.op = .erase) :
    f.hostUnit = some (.erase (f.slot.first + 4096 * f.slot.done)) := by simp [Flp.hostUnit, hr, ho]

theorem State.verifyUnit_eq {s : State} {id : Nat} {c : Clip} (hv : s.flp.verifying.clip = some id)
    (hc : Table.get s.flp.clips id = some c) : s.verifyUnit =
      some (.verify (c.addr + s.flp.verifying.done) (min 256 (c.size - s.flp.verifying.done)) true) := by
  simp [State.verifyUnit, hv, hc]

theorem State.beginVerify_under {s : State} {id : Nat} (hv : s.flp.verifying.clip = some id) : s.beginVerify = s := by
  unfold State.beginVerify
  split <;> simp_all

theorem State.beginVerify_head {s : State} {id : Nat} {rest : List Nat} (hv : s.flp.verifying.clip = none)
    (hq : s.flp.queue = id :: rest) : s.beginVerify = s.setFlp { s.flp with
      clips := Table.update id (fun c => { c with state := .verifying }) s.flp.clips
      queue := rest
      verifying := { Verify.idle with clip := some id } } := by
  unfold State.beginVerify
  split <;> simp_all

@[simp] theorem State.beginVerify_lowPrefersHost (s : State) :
    s.beginVerify.flp.lowPrefersHost = s.flp.lowPrefersHost := by
  unfold State.beginVerify
  split <;> rfl

/-- The grant of the verification under way (06 R126). -/
theorem State.grantVerify_under {s : State} {id : Nat} {c : Clip} (low : s.flp.lowToHost = false)
    (hv : s.flp.verifying.clip = some id) (hc : Table.get s.flp.clips id = some c) :
    s.grantMember 6 = s.verifyTurn.grantUnit
      (some (.verify (c.addr + s.flp.verifying.done) (min 256 (c.size - s.flp.verifying.done)) true)) := by
  rw [State.grantMember_verify low, State.beginVerify_under (s := s.verifyTurn) hv,
    State.verifyUnit_eq (s := s.verifyTurn) hv hc]
  rfl

/-- The clip at the head of the queue, its verification begun (06 R126; log 30). -/
theorem State.grantVerify_head {s : State} {id : Nat} {rest : List Nat} {c : Clip} (low : s.flp.lowToHost = false)
    (hv : s.flp.verifying.clip = none) (hq : s.flp.queue = id :: rest) (hc : Table.get s.flp.clips id = some c) :
    (s.grantMember 6).flp.verifying = ⟨some id, 0, 0xFFFFFFFF, 0⟩ ∧ (s.grantMember 6).flp.queue = rest ∧
      Table.get (s.grantMember 6).flp.clips id = some { c with state := .verifying } ∧
      (s.grantMember 6).flp.grant = some ⟨.verify c.addr (min 256 c.size) true, s.now⟩ := by
  have begun := State.beginVerify_head (s := s.verifyTurn) hv hq
  have stored : Table.get s.verifyTurn.beginVerify.flp.clips id = some { c with state := .verifying } := by
    rw [begun]
    exact (Table.get_setState hc .verifying id).trans (if_pos rfl)
  have verifying : s.verifyTurn.beginVerify.flp.verifying = ⟨some id, 0, 0xFFFFFFFF, 0⟩ := by
    rw [begun]
    rfl
  have unit := State.verifyUnit_eq (by rw [verifying]) stored
  rw [verifying] at unit
  rw [State.grantMember_verify low, unit]
  refine ⟨verifying, ?_, stored, ?_⟩
  · rw [begun]
    rfl
  · rw [begun]
    rfl

/-- Settles O45: the search finds the member of least place, and each member is granted its own unit. -/
theorem flashGrantFollowsRing : Obligations.FlashGrantFollowsRing := by
  intro s m hr hg hl hm asks least
  have grants : flashGrant s = s.grantMember m := by simp [flashGrant, hg, State.nextMember_eq hl hm asks least]
  have frame : SameBut [.flp] s (s.grantMember m) := grants ▸ flashGrant_sameBut s
  obtain ⟨last, flash, slot⟩ := s.grantMember_flp m
  refine ⟨_, congrArg Host.Outcome.next ((event_of_running hr).trans grants), frame, last, flash, slot, fun voice => ?_,
    fun e host turn => ?_, fun e verify turn => ?_⟩
  · rw [State.grantMember_voice voice]
    refine ⟨rfl, fun r c hr hc => ?_⟩
    rw [State.refillUnit_eq hr hc]
    rfl
  · rw [e, State.grantMember_host (Flp.lowToHost_true host turn)]
    refine ⟨rfl, rfl, fun r hr => ?_, fun hr ho => ?_, fun hr ho => ?_⟩
    · rw [Flp.hostUnit_read hr]
      rfl
    · rw [Flp.hostUnit_program hr ho]
      rfl
    · rw [Flp.hostUnit_erase hr ho]
      rfl
  · have low := Flp.lowToHost_false verify turn
    refine ⟨?_, fun id c hv hc => ?_, fun id rest c hv hq hc => ?_⟩
    · rw [e, State.grantMember_verify low]
      exact State.beginVerify_lowPrefersHost _
    · rw [e, State.grantVerify_under low hv hc]
      exact ⟨rfl, rfl, rfl⟩
    · rw [e]
      exact State.grantVerify_head low hv hq hc

end Sys2Proof.Machine
end

section
/-! PROOFS. The requests on CLIP that are taken (06 R122 to R124). -/

namespace Sys2Proof.Machine

/-! ### A clip out of the queue, and at its tail -/

/-- What a clip that leaves the queue leaves of FLP beside clips and queue: the host's work and the arbiter's turns, and the
verification of any other clip (06 R122, R124, R129). -/
def Flp.Unverified (id : Nat) (f f' : Flp) : Prop :=
  f'.flash = f.flash ∧ f'.slot = f.slot ∧ f'.read = f.read ∧ f'.lastHigh = f.lastHigh ∧
  f'.lowPrefersHost = f.lowPrefersHost ∧ (f.verifying.clip = some id → f'.verifying.clip = none) ∧
  (f.verifying.clip ≠ some id → f'.verifying = f.verifying ∧ f'.grant = f.grant)

/-- FLP with clip `id` out of the queue, and `clips` and `queue` in place. -/
def Flp.restored (id : Nat) (clips : Table Clip) (queue : List Nat) (f : Flp) : Flp :=
  { f.unqueued id with clips := clips, queue := queue }

theorem Flp.unverified_restored (id : Nat) (clips : Table Clip) (queue : List Nat) (f : Flp) :
    f.Unverified id (f.restored id clips queue) := by
  refine ⟨rfl, rfl, rfl, rfl, rfl, fun h => ?_, fun h => ⟨if_neg h, if_neg h⟩⟩
  exact congrArg Verify.clip (if_pos h)

/-- FLP with clip `id` stored as `c` and alone at the tail of the queue (06 R122). -/
def Flp.requeued (id : Nat) (c : Clip) (f : Flp) : Flp :=
  f.restored id (Table.put id c f.clips) (f.queue.filter (fun k => k ≠ id) ++ [id])

/-- The place of a clip queued at the tail (06 R122). -/
theorem idxOf_tail (id : Nat) (queue : List Nat) :
    (queue.filter (fun k => k ≠ id) ++ [id]).idxOf id = (queue.filter (fun k => k ≠ id)).length := by
  rw [List.idxOf_append_of_notMem (by simp), List.idxOf_cons_self, Nat.add_zero]

theorem State.takeQueued_eq (id : Nat) (c : Clip) (clamped : Bool) (s : State) : s.takeQueued id c clamped =
    .take (s.setFlp (s.flp.requeued id { c with state := .queued })) .ok clamped
      (Clip.bytes { c with state := .queued } ((s.flp.queue.filter (fun k => k ≠ id)).length + 1)) := by
  have queued : s.queueClip id c = s.setFlp (s.flp.requeued id { c with state := .queued }) := s.queueClip_eq id c
  have place : (s.setFlp (s.flp.requeued id { c with state := .queued })).clipProgress id { c with state := .queued } =
      (s.flp.queue.filter (fun k => k ≠ id)).length + 1 := congrArg (· + 1) (idxOf_tail id s.flp.queue)
  rw [State.takeQueued, queued, State.clipBytes, place]

/-! ### The requests taken -/

section
variable {s : State} {key presence : Nat} {w : ClipWire}

theorem putClip_taken (hk : key ≤ 63) (hp : s.clipPlayed key = false) (hw : w.valid = true)
    (hb : s.underHostOp (w.clip .queued) = false) :
    putClip key w s = s.takeQueued key (w.clip .queued) (decide (256 < w.gain)) := by
  simp [putClip, Nat.not_lt.2 hk, hp, hw, hb]

theorem retireClip_taken {c : Clip} (hk : key ≤ 63) (hp : s.clipPlayed key = false)
    (hc : Table.get s.flp.clips key = some c) : retireClip key s = ok (s.setFlp (s.flp.restored key
      (Table.del key s.flp.clips) (s.flp.queue.filter (fun k => k ≠ key)))) [] := by
  simp only [retireClip, if_neg (Nat.not_lt.2 hk), hc, Option.isNone_some, hp, State.unqueue_eq]
  rfl

variable {o : Clip} (hk : key ≤ 63) (hp : s.clipPlayed key = false) (ho : Table.get s.flp.clips key = some o)
include hk hp ho

/-- An AMEND that carries nothing reports (09 R177). -/
theorem amendClip_reports (hc : presence % 16 = 0) :
    amendClip key presence w s = ok s (o.bytes (s.clipProgress key o)) := by
  have carriesNone : noPresence presence 4 = true := decide_eq_true hc
  simp [amendClip, Nat.not_lt.2 hk, hp, ho, carriesNone, State.clipBytes]

section
variable (hc : presence % 16 ≠ 0) (hw : (w.over presence o.toWire).valid = true)
include hc hw

/-- An AMEND that carries a field, past its checks up to the extent (06 R123). -/
theorem amendClip_carries : amendClip key presence w s =
    let v := w.over presence o.toWire
    if v.addr = o.addr ∧ v.length = o.length then
      .take (s.setFlp { s.flp with clips := Table.put key (v.clip o.state) s.flp.clips }) .ok (256 < v.gain)
        (s.clipBytes key (v.clip o.state))
    else if s.underHostOp (v.clip o.state) then deny .busy
    else s.takeQueued key (v.clip o.state) (256 < v.gain) := by
  have carries : noPresence presence 4 = false := decide_eq_false hc
  simp only [amendClip, if_neg (Nat.not_lt.2 hk), ho, hp, carries, hw, Bool.false_eq_true, Bool.true_eq_false, if_false]
  rfl

/-- An AMEND of gain or loop keeps the clip's state (06 R123). -/
theorem amendClip_gain (ha : (w.over presence o.toWire).addr = o.addr)
    (hl : (w.over presence o.toWire).length = o.length) :
    let c : Clip := { o with gain := min 256 (w.over presence o.toWire).gain, loop := (w.over presence o.toWire).loop }
    amendClip key presence w s = .take (s.setFlp { s.flp with clips := Table.put key c s.flp.clips }) .ok
      (decide (256 < (w.over presence o.toWire).gain)) (c.bytes (s.clipProgress key o)) := by
  intro c
  have clip : (w.over presence o.toWire).clip o.state = c := by rw [ClipWire.clip, ha, hl]
  rw [amendClip_carries hk hp ho hc hw]
  exact (if_pos ⟨ha, hl⟩).trans (by rw [clip]; rfl)

/-- An AMEND of address or length queues the clip again (06 R123). -/
theorem amendClip_extent
    (he : (w.over presence o.toWire).addr ≠ o.addr ∨ (w.over presence o.toWire).length ≠ o.length)
    (hb : s.underHostOp ((w.over presence o.toWire).clip .queued) = false) : amendClip key presence w s =
      s.takeQueued key ((w.over presence o.toWire).clip o.state) (decide (256 < (w.over presence o.toWire).gain)) := by
  have free : ¬ s.underHostOp ((w.over presence o.toWire).clip o.state) = true := Bool.eq_false_iff.1 hb
  have moved : ¬ ((w.over presence o.toWire).addr = o.addr ∧ (w.over presence o.toWire).length = o.length) :=
    fun h => he.elim (· h.1) (· h.2)
  rw [amendClip_carries hk hp ho hc hw]
  exact (if_neg moved).trans (if_neg free)

end
end

/-! ### Their answers -/

/-- A request that leaves FLP as `f` and all else as a good frame does. -/
theorem clip_edit_answers {s : State} {kind key : Nat} {act : State → Answer} {f : Flp} {c : Bool} {p : List Byte}
    (hl : s.listening) (ha : act s.hearFrame = .take (s.hearFrame.setFlp f) .ok c p) :
    Answers s (request kind key act s) [.flp] .ok kind key c false p ∧ (request kind key act s).flp = f := by
  refine ⟨request_answers_calm hl ha (by simp [sameBut_iff]) (by decide) (by decide), ?_⟩
  rw [request_take hl.1 hl.2 ha]
  rfl

/-- A request that queues clip `key` as `c` answers its place in the queue (06 R122). -/
theorem clip_queue_answers {s : State} {kind key : Nat} {act : State → Answer} {c : Clip} {clamped : Bool}
    (hl : s.listening) (hw : Table.wf s.flp.clips) (ha : act s.hearFrame = s.hearFrame.takeQueued key c clamped) :
    let t := request kind key act s
    let rest := s.flp.queue.filter (fun k => k ≠ key)
    Answers s t [.flp] .ok kind key clamped false (Clip.bytes { c with state := .queued } (rest.length + 1)) ∧
      s.flp.Unverified key t.flp ∧ t.flp.queue = rest ++ [key] ∧
      ∀ k, Table.get t.flp.clips k = if k = key then some { c with state := .queued } else Table.get s.flp.clips k := by
  obtain ⟨answer, flp⟩ := clip_edit_answers (kind := kind) (key := key) hl (ha.trans (State.takeQueued_eq key c clamped _))
  refine ⟨answer, ?_⟩
  rw [flp]
  exact ⟨Flp.unverified_restored _ _ _ _, rfl, Table.get_put _ _ hw⟩

/-- Settles O44: each request taken edits the clip table alone, or takes the clip out of the queue first. -/
theorem clipRequests : Obligations.ClipRequests := by
  intro s key presence w hl hwf hk hp rest unverified queued
  refine ⟨fun hw hb => ?_, fun o ho => ⟨fun hc => ?_, fun hc hw ha hlen => ?_, fun hc hw he hb => ?_, ?_⟩⟩
  · obtain ⟨answer, kept, queue, clips⟩ := clip_queue_answers (kind := 0x01) (key := key) hl hwf
      (putClip_taken (s := s.hearFrame) hk hp hw hb)
    exact ⟨_, rfl, answer, ⟨kept, queue, clips⟩⟩
  · exact ⟨_, rfl, request_reports hl (amendClip_reports (s := s.hearFrame) hk hp ho hc)⟩
  · obtain ⟨answer, flp⟩ := clip_edit_answers (kind := 0x03) (key := key) hl
      (amendClip_gain (s := s.hearFrame) hk hp ho hc hw ha hlen)
    refine ⟨_, rfl, answer, ?_⟩
    rw [flp]
    exact ⟨rfl, Table.get_put _ _ hwf⟩
  · obtain ⟨answer, kept, queue, clips⟩ := clip_queue_answers (kind := 0x03) (key := key) hl hwf
      (amendClip_extent (s := s.hearFrame) hk hp ho hc hw he hb)
    exact ⟨_, rfl, answer, ⟨kept, queue, clips⟩⟩
  · obtain ⟨answer, flp⟩ := clip_edit_answers (kind := 0x04) (key := key) hl (retireClip_taken (s := s.hearFrame) hk hp ho)
    have kept : s.flp.Unverified key (request 0x04 key (retireClip key) s).flp := flp ▸ Flp.unverified_restored ..
    exact ⟨_, rfl, answer, kept, congrArg Flp.queue flp,
      fun k => (congrArg (fun f : Flp => Table.get f.clips k) flp).trans (Table.get_del key _ k)⟩

end Sys2Proof.Machine
end

section
/-! PROOFS. The voice chosen for a claim (07 R144): the first IDLE one, the oldest FADING one, the weakest PLAYING one below
the claim's level. -/

namespace Sys2Proof.Machine

/-! ### The least of a list -/

/-- No member of a list is before its pick, in a strict order. -/
theorem firstLeast_least {α : Type} {before : α → α → Bool} (irrefl : ∀ a, before a a = false)
    (trans : ∀ a b c, before a b = true → before b c = true → before a c = true) {l : List α} {x : α}
    (h : firstLeast before l = some x) : ∀ y ∈ l, before y x = false := by
  have fold (zs seen : List α) (b : α) (hb : ∀ y ∈ seen, before y b = false) :
      ∀ y ∈ seen ++ zs, before y (zs.foldl (fun best z => if before z best then z else best) b) = false := by
    induction zs generalizing seen b with
    | nil => simpa using hb
    | cons z zs ih =>
      rw [List.foldl_cons, List.append_cons]
      refine ih _ _ fun y hy => ?_
      by_cases hz : before z b = true
      · rw [if_pos hz]
        rcases List.mem_append.1 hy with old | new
        · exact Bool.eq_false_iff.2 fun hyz => Bool.eq_false_iff.1 (hb y old) (trans y z b hyz hz)
        · rw [List.mem_singleton.1 new]
          exact irrefl z
      · rw [if_neg hz]
        rcases List.mem_append.1 hy with old | new
        · exact hb y old
        · rw [List.mem_singleton.1 new]
          exact Bool.eq_false_iff.2 hz
  cases l with
  | nil => cases h
  | cons y ys => exact Option.some.inj h ▸ fold ys [y] y (by simp [irrefl])

/-! ### The three searches -/

/-- The lowest IDLE voice, with its number. -/
def idleVoice (vs : List Voice) : Option (Voice × Nat) := vs.zipIdx.find? (fun p => p.1.state = .idle)

/-- The FADING voice of the oldest start, with its number. -/
def oldestFading (vs : List Voice) : Option (Voice × Nat) :=
  firstLeast (fun a b => decide (a.1.stamp < b.1.stamp)) (vs.zipIdx.filter (fun p => p.1.state = .fading))

/-- The PLAYING voice below `level` of the lowest level and of these the oldest start, with its number. -/
def weakestBelow (level : Nat) (vs : List Voice) : Option (Voice × Nat) :=
  firstLeast (fun a b => decide (a.1.level < b.1.level ∨ (a.1.level = b.1.level ∧ a.1.stamp < b.1.stamp)))
    (vs.zipIdx.filter (fun p => p.1.state = .playing ∧ p.1.level < level))

theorem chooseVoice_eq (vs : List Voice) (level : Nat) : chooseVoice vs level =
    ((idleVoice vs).map (·.2) <|> (oldestFading vs).map (·.2) <|> (weakestBelow level vs).map (·.2)) := rfl

/-- A member of a list stands at some place of it. -/
theorem exists_mem_zipIdx {α : Type} {l : List α} {x : α} (h : x ∈ l) : ∃ i, (x, i) ∈ l.zipIdx := by
  obtain ⟨i, hi⟩ := List.mem_iff_getElem?.1 h
  exact ⟨i, List.mem_zipIdx_iff_getElem?.2 hi⟩

section
variable {vs : List Voice} {level : Nat} {p : Voice × Nat}

theorem idleVoice_some (h : idleVoice vs = some p) : vs[p.2]? = some p.1 ∧ p.1.state = .idle ∧
    ∀ j u, vs[j]? = some u → u.state = .idle → p.2 ≤ j := by
  obtain ⟨idle, k, hk, rfl, before⟩ := List.find?_eq_some_iff_getElem.1 h
  refine ⟨List.mem_zipIdx_iff_getElem?.1 (List.getElem_mem hk), by simpa using idle, fun j u hj hu => ?_⟩
  obtain ⟨hl, rfl⟩ := List.getElem?_eq_some_iff.1 hj
  by_contra late
  have later : j < k := by simpa using late
  simpa [hu] using before j later

theorem idleVoice_none (h : idleVoice vs = none) : ∀ u ∈ vs, u.state ≠ .idle := by
  intro u hu
  obtain ⟨i, hi⟩ := exists_mem_zipIdx hu
  simpa using List.find?_eq_none.1 h _ hi

theorem oldestFading_some (h : oldestFading vs = some p) : vs[p.2]? = some p.1 ∧ p.1.state = .fading ∧
    ∀ u ∈ vs, u.state = .fading → p.1.stamp ≤ u.stamp := by
  obtain ⟨mem, fading⟩ := List.mem_filter.1 (mem_of_firstLeast h)
  refine ⟨List.mem_zipIdx_iff_getElem?.1 mem, by simpa using fading, fun u hu state => ?_⟩
  obtain ⟨i, hi⟩ := exists_mem_zipIdx hu
  have least := firstLeast_least (by simp) (by simp; omega) h (u, i) (List.mem_filter.2 ⟨hi, by simpa using state⟩)
  simpa using least

theorem oldestFading_none (h : oldestFading vs = none) : ∀ u ∈ vs, u.state ≠ .fading := by
  intro u hu
  obtain ⟨i, hi⟩ := exists_mem_zipIdx hu
  simpa using List.filter_eq_nil_iff.1 (firstLeast_eq_none.1 h) _ hi

theorem weakestBelow_some (h : weakestBelow level vs = some p) : vs[p.2]? = some p.1 ∧ p.1.state = .playing ∧
    p.1.level < level ∧ ∀ u ∈ vs, u.state = .playing → u.level < level →
      p.1.level < u.level ∨ p.1.level = u.level ∧ p.1.stamp ≤ u.stamp := by
  obtain ⟨mem, state⟩ := List.mem_filter.1 (mem_of_firstLeast h)
  obtain ⟨playing, below⟩ := of_decide_eq_true state
  refine ⟨List.mem_zipIdx_iff_getElem?.1 mem, playing, below, fun u hu state low => ?_⟩
  obtain ⟨i, hi⟩ := exists_mem_zipIdx hu
  have least := firstLeast_least (by simp) (by simp; omega) h (u, i) (List.mem_filter.2 ⟨hi, by simp [state, low]⟩)
  simp only [decide_eq_false_iff_not] at least
  omega

theorem weakestBelow_none (h : weakestBelow level vs = none) : ∀ u ∈ vs, u.state = .playing → level ≤ u.level := by
  intro u hu playing
  obtain ⟨i, hi⟩ := exists_mem_zipIdx hu
  simpa [playing] using List.filter_eq_nil_iff.1 (firstLeast_eq_none.1 h) _ hi

/-- A voice neither IDLE nor FADING is PLAYING. -/
theorem VoiceState.eq_playing {st : VoiceState} (idle : st ≠ .idle) (fading : st ≠ .fading) : st = .playing := by
  cases st <;> simp_all

end

/-! ### The choice -/

/-- Settles O55: each search gives its voice only when those before it found none. -/
theorem claimChoosesVoice : Obligations.ClaimChoosesVoice := by
  intro vs level
  have playing (hi : idleVoice vs = none) (hf : oldestFading vs = none) (u : Voice) (hu : u ∈ vs) : u.state = .playing :=
    VoiceState.eq_playing (idleVoice_none hi u hu) (oldestFading_none hf u hu)
  rw [chooseVoice_eq]
  cases hi : idleVoice vs with
  | some p =>
    obtain ⟨place, idle, lowest⟩ := idleVoice_some hi
    refine ⟨?_, nofun, nofun⟩
    rintro _ ⟨⟩
    exact ⟨p.1, place, .inl ⟨idle, lowest⟩⟩
  | none =>
    cases hf : oldestFading vs with
    | some p =>
      obtain ⟨place, fading, oldest⟩ := oldestFading_some hf
      refine ⟨?_, nofun, nofun⟩
      rintro _ ⟨⟩
      exact ⟨p.1, place, .inr (.inl ⟨fading, idleVoice_none hi, oldest⟩)⟩
    | none =>
      cases hw : weakestBelow level vs with
      | some p =>
        obtain ⟨place, plays, below, weakest⟩ := weakestBelow_some hw
        refine ⟨?_, nofun, nofun⟩
        rintro _ ⟨⟩
        exact ⟨p.1, place, .inr (.inr ⟨plays, below, playing hi hf, fun u hu => weakest u hu (playing hi hf u hu)⟩)⟩
      | none =>
        refine ⟨nofun, fun _ u hu => ⟨playing hi hf u hu, weakestBelow_none hw u hu (playing hi hf u hu)⟩, ?_⟩
        rintro - s q rfl rfl
        have refused : chooseVoice s.snd.voices q.level = none := by rw [chooseVoice_eq, hi, hf, hw]; rfl
        simp [State.claimVoice, refused]

end Sys2Proof.Machine
end

section
/-! SUPPORT. The operations that take the voices one at a time: what one does to its voice, and with it what the run over
all six does to each (07 R146 to R150). -/

namespace Sys2Proof.Machine

/-! ### Operations in a row -/

/-- What each operation of a row does, the row does. -/
theorem eachId_lift {p : State → State → Prop} {f : Nat → State → State} (refl : ∀ s, p s s)
    (trans : ∀ {s t u}, p s t → p t u → p s u) (each : ∀ i s, p s (f i s)) (ids : List Nat) (s : State) :
    p s (eachId f ids s) := by
  unfold eachId
  induction ids generalizing s with
  | nil => exact refl s
  | cons i ids ih => exact trans (each i s) (ih _)

theorem eachId_cons (f : Nat → State → State) (i : Nat) (ids : List Nat) (s : State) :
    eachId f (i :: ids) s = eachId f ids (f i s) := rfl

/-- `f i` makes `g s` of voice `i` and leaves the other voices and what `g` reads of the state beside them. -/
structure Voicewise (f : Nat → State → State) (g : State → Voice → Voice) : Prop where
  length : ∀ i s, (f i s).snd.voices.length = s.snd.voices.length
  voice : ∀ {i : Nat} {s : State}, i < s.snd.voices.length →
    ∀ j, (f i s).voice j = if j = i then g s (s.voice i) else s.voice j
  reads : ∀ i s, g (f i s) = g s

namespace Voicewise

variable {f : Nat → State → State} {g : State → Voice → Voice} {ids : List Nat} {s : State}

theorem eachId_length (h : Voicewise f g) (ids : List Nat) (s : State) :
    (eachId f ids s).snd.voices.length = s.snd.voices.length :=
  eachId_lift (p := fun s t => t.snd.voices.length = s.snd.voices.length) (fun _ => rfl) (fun h h' => h'.trans h) h.length
    ids s

/-- Each voice named has its turn once, the others none. -/
theorem eachId_voice (h : Voicewise f g) (nodup : ids.Nodup) (hs : ∀ i ∈ ids, i < s.snd.voices.length) (j : Nat) :
    (eachId f ids s).voice j = if j ∈ ids then g s (s.voice j) else s.voice j := by
  induction ids generalizing s with
  | nil => rfl
  | cons i ids ih =>
    obtain ⟨new, nodup⟩ := List.nodup_cons.1 nodup
    obtain ⟨hi, hs⟩ := List.forall_mem_cons.1 hs
    rw [eachId_cons, ih nodup (fun k hk => (hs k hk).trans_eq (h.length i s).symm), h.voice hi, h.reads]
    by_cases e : j = i
    · subst e
      simp [new]
    · simp [e]

end Voicewise

theorem mem_voiceIds {j : Nat} : j ∈ voiceIds ↔ j < 6 := by
  simp only [voiceIds, List.mem_cons, List.not_mem_nil, or_false]
  omega

/-- The run over the six voices gives each its turn. -/
theorem Voicewise.all {f : Nat → State → State} {g : State → Voice → Voice} (h : Voicewise f g) {s : State}
    (hs : s.snd.voices.length = 6) {j : Nat} (hj : j < 6) : (eachId f voiceIds s).voice j = g s (s.voice j) :=
  (h.eachId_voice (by decide) (fun _ hi => hs ▸ mem_voiceIds.1 hi) j).trans (if_pos (mem_voiceIds.2 hj))

/-! ### What a row of operations raises -/

/-- A notice raised, if there is one. -/
def State.raiseAny (n : Option Notice) (s : State) : State := n.elim s (fun x => s.raise x)

theorem State.raiseAny_ntu_congr {s t : State} (h : t.ntu = s.ntu) (n : Option Notice) :
    (t.raiseAny n).ntu = (s.raiseAny n).ntu := by
  cases n with
  | none => exact h
  | some x => exact State.raise_ntu_congr h x

/-- The notices of a row of operations: each raises its own, which none before it has altered. -/
theorem Voicewise.eachId_ntu {f : Nat → State → State} {g : State → Voice → Voice} (h : Voicewise f g)
    {note : State → Nat → Option Notice}
    (raises : ∀ {i : Nat} {s : State}, i < s.snd.voices.length → (f i s).ntu = (s.raiseAny (note s i)).ntu)
    (reads : ∀ {i j : Nat} {s : State}, i < s.snd.voices.length → j ≠ i → note (f i s) j = note s j)
    {ids : List Nat} (nodup : ids.Nodup) {s u : State} (hs : ∀ i ∈ ids, i < s.snd.voices.length) (hu : s.ntu = u.ntu) :
    (eachId f ids s).ntu = (ids.foldl (fun t j => t.raiseAny (note s j)) u).ntu := by
  induction ids generalizing s u with
  | nil => exact hu
  | cons i ids ih =>
    obtain ⟨new, nodup⟩ := List.nodup_cons.1 nodup
    obtain ⟨hi, hs⟩ := List.forall_mem_cons.1 hs
    have same (t : State) (j : Nat) (hj : j ∈ ids) : t.raiseAny (note (f i s) j) = t.raiseAny (note s j) := by
      rw [reads hi fun e => new (e ▸ hj)]
    rw [eachId_cons, List.foldl_cons, ih nodup (fun k hk => (hs k hk).trans_eq (h.length i s).symm)
      ((raises hi).trans (State.raiseAny_ntu_congr hu _)), List.foldl_ext _ _ _ same]

/-! ### The end of a voice (07 R142) -/

/-- A voice that has ended: IDLE, its buffer empty, its request withdrawn. -/
def Voice.ended (v : Voice) : Voice := { v with state := .idle, buffer := [], refill := none }

theorem State.endVoice_voices (i : Nat) (s : State) :
    (s.endVoice i).snd.voices = (s.setVoice i (s.voice i).ended).snd.voices := s.silenceVoice_voices i

theorem State.endVoice_voice {s : State} {i : Nat} (hi : i < s.snd.voices.length) (j : Nat) :
    (s.endVoice i).voice j = if j = i then (s.voice i).ended else s.voice j :=
  (congrArg (fun vs : List Voice => vs.getD j Voice.reset) (s.endVoice_voices i)).trans (s.voice_setVoice _ hi j)

theorem State.endVoice_ntu (i : Nat) (s : State) :
    (s.endVoice i).ntu = (s.raise (.voiceEnded i (s.voice i).owner)).ntu := State.raise_ntu_congr rfl _

theorem State.endVoice_sustains (i : Nat) (s : State) : s.Sustains (s.endVoice i) := ⟨rfl, rfl, rfl⟩

theorem State.setVoice_length (i : Nat) (v : Voice) (s : State) :
    (s.setVoice i v).snd.voices.length = s.snd.voices.length := List.length_set

theorem State.endVoice_length (i : Nat) (s : State) : (s.endVoice i).snd.voices.length = s.snd.voices.length := by
  rw [s.endVoice_voices, State.setVoice_length]

/-- A voice replaced and then ended. -/
theorem State.setVoice_endVoice_voice {s : State} {i : Nat} (v : Voice) (hi : i < s.snd.voices.length) (j : Nat) :
    ((s.setVoice i v).endVoice i).voice j = if j = i then v.ended else s.voice j := by
  rw [State.endVoice_voice (hi.trans_eq (s.setVoice_length i v).symm), s.voice_setVoice v hi, s.voice_setVoice v hi]
  split <;> simp_all

/-- Its notice names the owner of the voice in place. -/
theorem State.setVoice_endVoice_ntu {s : State} {i : Nat} (v : Voice) (hi : i < s.snd.voices.length) :
    ((s.setVoice i v).endVoice i).ntu = (s.raise (.voiceEnded i v.owner)).ntu := by
  rw [State.endVoice_ntu, s.voice_setVoice v hi, if_pos rfl]
  exact State.raise_ntu_congr rfl _

/-- A voice left as it is. -/
theorem State.voice_eq_ite (s : State) (i j : Nat) : s.voice j = if j = i then s.voice i else s.voice j := by
  split <;> simp_all

/-- The clip of a voice is looked up in the store, which an operation on voices leaves. -/
theorem State.Sustains.clipOf {s t : State} (h : s.Sustains t) : t.clipOf = s.clipOf := by
  funext v
  unfold State.clipOf
  rw [h.flp]

/-! ### A refill request placed (07 R147) -/

/-- The voice with the request that it needs, if any. -/
def Voice.requesting (c : Option Clip) (v : Voice) : Voice := { v with refill := (c.map v.request).getD v.refill }

theorem Voice.request_silent {v : Voice} (h : v.sounding = false) (c : Clip) : v.request c = v.refill := by
  simp [Voice.request, Voice.needsRefill, h]

/-- An IDLE voice places no request. -/
theorem Voice.requesting_silent {v : Voice} (h : v.sounding = false) (c : Option Clip) : v.requesting c = v := by
  cases c with
  | none => rfl
  | some c => simp [Voice.requesting, Voice.request_silent h]

theorem placeRefill_voicewise : Voicewise State.placeRefill (fun s v => v.requesting (s.clipOf v)) where
  length i s := by
    unfold State.placeRefill
    dsimp only
    repeat' split
    · rfl
    · exact s.setVoice_length i _
    · rfl
  voice {i s} hi j := by
    cases hc : s.clipOf (s.voice i) with
    | none =>
      have still : s.placeRefill i = s := by simp [State.placeRefill, hc]
      rw [still]
      exact s.voice_eq_ite i j
    | some c => exact State.placeRefill_voice hi hc j
  reads i s := by rw [(s.placeRefill_sustains i).clipOf]

/-! ### A voice at an output sample (07 R146, R149) -/

/-- A voice after an output sample. -/
def Voice.afterSample (c : Option Clip) (v : Voice) : Voice :=
  if v.sounding then
    match v.buffer, c with
    | _ :: xs, some c =>
      let w := { v with buffer := xs, position := v.played c, underrun := false }
      if !v.loops c && decide (v.position + 1 = c.length) then w.ended else w
    | _ :: _, none => v
    | [], _ => { v with underrun := v.underrun || v.primed }
  else v

/-- The notice that an output sample raises for voice `j`. -/
def State.sampleNotice (s : State) (j : Nat) : Option Notice :=
  let v := s.voice j
  if v.sounding = false then none
  else if v.buffer = [] then if v.primed = true ∧ v.underrun = false then some (.voiceUnderrun j v.owner) else none
  else if (s.clipOf v).any (fun d => (!v.loop || d.loop.isNone) && decide (v.position + 1 = d.length)) then
    some (.voiceEnded j v.owner)
  else none

theorem Voice.not_loops (v : Voice) (c : Clip) : (!v.loop || c.loop.isNone) = !v.loops c := by
  simp [Voice.loops, Bool.not_and]

/-- A voice that has underrun already, or is not primed, stays as it is on an empty buffer. -/
theorem Voice.underrun_settled {v : Voice} (h : (v.primed && !v.underrun) = false) :
    { v with underrun := v.underrun || v.primed } = v := by
  have settled : (v.underrun || v.primed) = v.underrun := by cases hp : v.primed <;> cases hu : v.underrun <;> simp_all
  rw [settled]

/-- What an output sample makes of voice `i` and the notice it raises, branch by branch. -/
theorem State.playVoice_spec {s : State} {i : Nat} (hi : i < s.snd.voices.length) :
    (∀ j, (s.playVoice i).voice j = if j = i then (s.voice i).afterSample (s.clipOf (s.voice i)) else s.voice j) ∧
      (s.playVoice i).ntu = (s.raiseAny (s.sampleNotice i)).ntu := by
  unfold State.playVoice State.sampleNotice Voice.afterSample
  dsimp only
  cases sounds : (s.voice i).sounding with
  | false => exact ⟨s.voice_eq_ite i, rfl⟩
  | true =>
    cases hb : (s.voice i).buffer with
    | nil =>
      cases begins : (s.voice i).primed && !(s.voice i).underrun with
      | false =>
        have quiet : ¬ ((s.voice i).primed = true ∧ (s.voice i).underrun = false) := by simpa using begins
        have settled := Voice.underrun_settled begins
        rw [hb] at settled
        simp only [settled, quiet, if_false, if_true, Bool.false_eq_true, Bool.true_eq_false]
        exact ⟨s.voice_eq_ite i, rfl⟩
      | true =>
        obtain ⟨primed, fresh⟩ : (s.voice i).primed = true ∧ (s.voice i).underrun = false := by simpa using begins
        simp only [primed, fresh, if_true, Bool.true_eq_false, and_self]
        exact ⟨s.voice_setVoice _ hi, State.raise_ntu_congr rfl _⟩
    | cons x xs =>
      cases hc : s.clipOf (s.voice i) with
      | none => exact ⟨s.voice_eq_ite i, rfl⟩
      | some c =>
        simp only [Option.any_some, Voice.not_loops, if_true, Bool.true_eq_false, if_false, reduceCtorEq]
        split
        · exact ⟨State.setVoice_endVoice_voice _ hi, State.setVoice_endVoice_ntu _ hi⟩
        · exact ⟨s.voice_setVoice _ hi, rfl⟩

theorem State.playVoice_length (i : Nat) (s : State) : (s.playVoice i).snd.voices.length = s.snd.voices.length := by
  unfold State.playVoice
  dsimp only
  repeat' split
  · rw [State.endVoice_length, State.setVoice_length]
  · exact s.setVoice_length i _
  · rfl
  · exact s.setVoice_length i _
  · rfl
  · rfl

theorem State.playVoice_sustains (i : Nat) (s : State) : s.Sustains (s.playVoice i) := by
  unfold State.playVoice
  dsimp only
  repeat' split
  · exact ⟨rfl, rfl, rfl⟩
  · exact ⟨rfl, rfl, rfl⟩
  · exact .refl s
  · exact ⟨rfl, rfl, rfl⟩
  · exact .refl s
  · exact .refl s

theorem playVoice_voicewise : Voicewise State.playVoice (fun s v => v.afterSample (s.clipOf v)) where
  length := State.playVoice_length
  voice hi := (State.playVoice_spec hi).1
  reads i s := by rw [(s.playVoice_sustains i).clipOf]

/-- The notice of a voice is not altered by the sample of another. -/
theorem State.sampleNotice_playVoice {i j : Nat} {s : State} (hi : i < s.snd.voices.length) (h : j ≠ i) :
    (s.playVoice i).sampleNotice j = s.sampleNotice j := by
  simp only [State.sampleNotice, playVoice_voicewise.voice hi, if_neg h, (s.playVoice_sustains i).clipOf]

section
variable {v : Voice} {c : Option Clip} {d : Clip} {x : Int} {xs : List Int}

theorem Voice.afterSample_empty (hs : v.sounding = true) (hb : v.buffer = []) :
    v.afterSample c = { v with underrun := v.underrun || v.primed } := by simp [Voice.afterSample, hs, hb]

variable (hs : v.sounding = true) (hb : v.buffer = x :: xs)
include hs hb

theorem Voice.afterSample_plays (h : v.loops d = true ∨ v.position + 1 ≠ d.length) :
    v.afterSample (some d) = { v with buffer := xs, position := v.played d, underrun := false } := by
  have goesOn : (!v.loops d && decide (v.position + 1 = d.length)) = false := by
    rcases h with loops | before <;> simp [*]
  simp [Voice.afterSample, hs, hb, goesOn]

/-- The clip's last sample ends the voice (07 R146, R142). -/
theorem Voice.afterSample_last (h : v.loops d = false) (last : v.position + 1 = d.length) :
    v.afterSample (some d) = { v with buffer := xs, position := v.played d, underrun := false }.ended := by
  simp [Voice.afterSample, hs, hb, h, last]

end

section
variable {v : Voice} {c : Clip}

theorem Voice.played_looping {a b : Nat} (hv : v.loop = true) (hc : c.loop = some (a, b)) :
    v.played c = if v.position + 1 = b then a else v.position + 1 := by simp [Voice.played, hv, hc]

theorem Voice.played_straight (h : v.loop = false ∨ c.loop = none) : v.played c = v.position + 1 := by
  unfold Voice.played
  rcases h with hv | hc
  · simp [hv]
  · cases v.loop <;> simp [hc]

end

/-! ### A voice at a fade tick (07 R150) -/

/-- A voice after a fade tick of slew `n`. -/
def Voice.slewedBy (n : Nat) (v : Voice) : Voice :=
  if v.state = .fading then if v.gv - n = 0 then { v with gv := 0 }.ended else { v with gv := v.gv - n } else v

theorem State.fadeVoice_length (i : Nat) (s : State) : (s.fadeVoice i).snd.voices.length = s.snd.voices.length := by
  unfold State.fadeVoice
  dsimp only
  repeat' split
  · rw [State.endVoice_length, State.setVoice_length]
  · exact s.setVoice_length i _
  · rfl

theorem State.fadeVoice_sustains (i : Nat) (s : State) : s.Sustains (s.fadeVoice i) := by
  unfold State.fadeVoice
  dsimp only
  repeat' split
  · exact ⟨rfl, rfl, rfl⟩
  · exact ⟨rfl, rfl, rfl⟩
  · exact .refl s

theorem fadeVoice_voicewise : Voicewise State.fadeVoice (fun s v => v.slewedBy s.settings.voiceSlew) where
  length := State.fadeVoice_length
  voice {i s} hi j := by
    unfold State.fadeVoice Voice.slewedBy
    dsimp only
    by_cases fading : (s.voice i).state = .fading
    · by_cases done : (s.voice i).gv - s.settings.voiceSlew = 0
      · simp only [fading, done, if_true]
        exact State.setVoice_endVoice_voice _ hi j
      · simp only [fading, done, if_true, if_false]
        exact s.voice_setVoice _ hi j
    · simp only [fading, if_false]
      exact s.voice_eq_ite i j
  reads i s := by rw [(s.fadeVoice_sameBut i).settings]

end Sys2Proof.Machine
end

section
/-! PROOFS. The output sample (07 R142, R146, R149, R155, R156): the bus words, and each voice with its notices. -/

namespace Sys2Proof.Machine

/-! ### The mix (07 R155) -/

/-- The bus sum runs over the sounding voices that name the bus. -/
theorem sum_term (names : Buses → Bool) (vs : List Voice) : (vs.map (Voice.term names)).sum =
    ((vs.filter (fun v => v.sounding && names v.buses)).map (fun v => v.buffer.headD 0 * (v.gv : Int))).sum := by
  induction vs with
  | nil => rfl
  | cons v vs ih =>
    rw [List.map_cons, List.sum_cons, ih, List.filter_cons, Voice.term]
    split
    · rfl
    · exact Int.zero_add _

/-- A bus word and its clip flag, from the two floors of the mix (07 R155, R156). -/
theorem mix_floors (names : Buses → Bool) (vs : List Voice) (m : Nat) (was : Bool) :
    ∃ y z : Int,
      let acc := ((vs.filter (fun v => v.sounding && names v.buses)).map (fun v => v.buffer.headD 0 * (v.gv : Int))).sum
      y * 256 ≤ acc ∧ acc < y * 256 + 256 ∧ z * 256 ≤ y * m ∧ y * m < z * 256 + 256 ∧
        saturate (mix vs names m) = max (-32768) (min 32767 z) ∧
        ((was || decide (saturate (mix vs names m) ≠ mix vs names m)) = true ↔
          was = true ∨ saturate (mix vs names m) ≠ z) := by
  have floor (a : Int) : a / 256 * 256 ≤ a ∧ a < a / 256 * 256 + 256 := by omega
  rw [mix, ← sum_term]
  set acc := (vs.map (Voice.term names)).sum
  exact ⟨acc / 256, acc / 256 * m / 256, (floor _).1, (floor _).2, (floor _).1, (floor _).2, rfl, by simp⟩

/-! ### What an output sample leaves -/

/-- Once the buses are written, a sample changes of SND the voices, of FLP the grant, and no line. -/
theorem outputSample_sustains (s : State) : s.writeBuses.Sustains (outputSample s) :=
  (eachId_lift .refl .trans State.playVoice_sustains voiceIds _).trans
    (eachId_lift .refl .trans State.placeRefill_sustains voiceIds _)

/-- The requests placed at the end of a sample change the voices alone. -/
theorem placeRefills_sameBut (s : State) : SameBut [.snd] s (eachId State.placeRefill voiceIds s) :=
  eachId_sameBut (fun i s => s.placeRefill_sameBut i) voiceIds s

theorem outputSample_lines (s : State) : (outputSample s).lines = s.writeBuses.lines :=
  have played := eachId_sameBut (fun i s => State.playVoice_sameBut s i) voiceIds s.writeBuses
  ((placeRefills_sameBut _).same .lines).trans (played.same .lines)

/-- The bus words and the clip flags that stand after a sample (07 R155, R156). -/
theorem outputSample_buses (s : State) :
    let f := mix s.snd.voices Buses.front s.snd.m
    let r := mix s.snd.voices Buses.rear s.snd.m
    (outputSample s).lines = { s.lines with front := saturate f, rear := saturate r } ∧
      (outputSample s).snd.clipFront = (s.snd.clipFront || decide (saturate f ≠ f)) ∧
      (outputSample s).snd.clipRear = (s.snd.clipRear || decide (saturate r ≠ r)) := by
  refine ⟨outputSample_lines s, ?_, ?_⟩
  · rw [(outputSample_sustains s).snd]; rfl
  · rw [(outputSample_sustains s).snd]; rfl

/-- Settles O52: after the buses are written no line, no clip flag and no gain of the mix changes. -/
theorem outputSampleMixes : Obligations.OutputSampleMixes := by
  intro s hr
  have kept := outputSample_sustains s
  have frame : SameBut [.snd, .ntu, .lines, .flp] s (outputSample s) := (outputSample_sameBut s).mono
  obtain ⟨lines, front, rear⟩ := outputSample_buses s
  refine ⟨_, congrArg Host.Outcome.next (event_of_running hr), frame, ?_, kept.flp, ?_, ?_⟩
  · rw [lines]
  · rw [kept.snd]; rfl
  · rintro bus word was now_ (⟨ebus, eword, ewas, enow⟩ | ⟨ebus, eword, ewas, enow⟩)
    · rw [ebus, eword, ewas, enow, lines, front]
      exact mix_floors Buses.front s.snd.voices s.snd.m s.snd.clipFront
    · rw [ebus, eword, ewas, enow, lines, rear]
      exact mix_floors Buses.rear s.snd.voices s.snd.m s.snd.clipRear

/-! ### The voices (07 R146, R149) -/

/-- Each voice is played, then places the request that it needs. -/
theorem outputSample_voice {s : State} (hs : s.snd.voices.length = 6) {i : Nat} (hi : i < 6) :
    (outputSample s).voice i = ((s.voice i).afterSample (s.clipOf (s.voice i))).requesting
      (s.clipOf ((s.voice i).afterSample (s.clipOf (s.voice i)))) := by
  have played := playVoice_voicewise.all (s := s.writeBuses) hs hi
  have kept : s.writeBuses.Sustains (eachId State.playVoice voiceIds s.writeBuses) :=
    eachId_lift .refl .trans State.playVoice_sustains voiceIds _
  have length := (playVoice_voicewise.eachId_length voiceIds s.writeBuses).trans hs
  rw [outputSample, placeRefill_voicewise.all length hi, played, kept.clipOf]
  rfl

/-- The notices of a sample, in ascending voice number (log 32). -/
theorem outputSample_ntu {s : State} (hs : s.snd.voices.length = 6) :
    (outputSample s).ntu = ((List.range 6).foldl (fun t j => t.raiseAny (s.sampleNotice j)) s).ntu := by
  refine (placeRefills_sameBut _).ntu.trans ?_
  exact playVoice_voicewise.eachId_ntu (fun hi => (State.playVoice_spec hi).2) State.sampleNotice_playVoice
    (s := s.writeBuses) (u := s) (by decide) (fun _ hi => hs.symm ▸ mem_voiceIds.1 hi) rfl

/-- Settles O53: each voice is played by its own branch of R146 or R149, and IDLE it places no request. -/
theorem outputSampleAdvancesVoice : Obligations.OutputSampleAdvancesVoice := by
  intro s i c hr hs hi sounds hc
  have voice := outputSample_voice hs hi
  rw [hc] at voice
  refine ⟨_, congrArg Host.Outcome.next (event_of_running hr),
    fun x xs hb => ⟨fun a b hv hl => ?_, fun straight more => ?_, fun straight last => ?_⟩, fun hb => ?_, outputSample_ntu hs⟩
  · rw [voice, Voice.afterSample_plays sounds hb (.inl (Voice.loops_of_some hv hl))]
    exact ⟨rfl, rfl, rfl, Voice.played_looping hv hl⟩
  · rw [voice, Voice.afterSample_plays sounds hb (.inr more)]
    exact ⟨rfl, rfl, rfl, Voice.played_straight straight⟩
  · rw [voice, Voice.afterSample_last sounds hb (Voice.loops_straight straight) last, Voice.requesting_silent rfl]
    exact ⟨rfl, rfl, rfl⟩
  · rw [voice, Voice.afterSample_empty sounds hb]
    refine ⟨rfl, rfl, fun primed => ?_, fun waiting => ?_⟩
    · simp [Voice.requesting, primed]
    · simp [Voice.requesting, waiting]

end Sys2Proof.Machine
end

section
/-! PROOFS. The fade and master tick (07 R150, R158) and the requests PLAY, HUSH and MASTER taken (07 R143, R145, R151, R159). -/

namespace Sys2Proof.Machine

/-! ### The fade and master tick -/

theorem Voice.slewedBy_of_not_fading {v : Voice} (h : v.state ≠ .fading) (n : Nat) : v.slewedBy n = v := if_neg h

theorem Voice.slewedBy_above {v : Voice} {n : Nat} (h : v.state = .fading) (hn : n < v.gv) :
    v.slewedBy n = { v with gv := v.gv - n } := (if_pos h).trans (if_neg (Nat.sub_ne_zero_of_lt hn))

/-- A fade that reaches 0 ends the voice (07 R150). -/
theorem Voice.slewedBy_spent {v : Voice} {n : Nat} (h : v.state = .fading) (hn : v.gv ≤ n) :
    v.slewedBy n = { v with gv := 0 }.ended := (if_pos h).trans (if_pos (Nat.sub_eq_zero_of_le hn))

/-- m climbs by one below its target (07 R158). -/
theorem State.climbMaster_m (s : State) :
    s.climbMaster.snd.m = if s.snd.m < s.masterTarget then s.snd.m + 1 else s.snd.m := by
  unfold State.climbMaster
  split <;> rfl

theorem State.climbMaster_voice (s : State) (i : Nat) : s.climbMaster.voice i = s.voice i := by
  unfold State.climbMaster
  split <;> rfl

/-- The fades leave m and its target (07 R158). -/
theorem fadeMasterTick_m (s : State) :
    (fadeMasterTick s).snd.m = if s.snd.m < s.masterTarget then s.snd.m + 1 else s.snd.m := by
  have snd := (eachId_lift .refl .trans State.fadeVoice_sustains voiceIds s).snd
  have frame := eachId_sameBut (fun i s => State.fadeVoice_sameBut s i) voiceIds s
  have m : (eachId State.fadeVoice voiceIds s).snd.m = s.snd.m := by rw [snd]
  have target : (eachId State.fadeVoice voiceIds s).masterTarget = s.masterTarget :=
    State.masterTarget_congr frame.settings (by rw [snd]) (by rw [frame.msv])
  rw [fadeMasterTick, State.climbMaster_m, target, m]

theorem fadeMasterTick_voice {s : State} (hs : s.snd.voices.length = 6) {i : Nat} (hi : i < 6) :
    (fadeMasterTick s).voice i = (s.voice i).slewedBy s.settings.voiceSlew :=
  (State.climbMaster_voice _ i).trans (fadeVoice_voicewise.all hs hi)

/-- Settles O54: the tick slews each voice and lets m climb, the end of a fade is that of a voice. -/
theorem fadeAndMasterTick : Obligations.FadeAndMasterTick := by
  intro s hr hs
  refine ⟨⟨_, congrArg Host.Outcome.next (event_of_running hr), (fadeMasterTick_sameBut s).mono, fadeMasterTick_m s,
    fun i hi => ?_⟩, fun i hi fading spent => ?_⟩
  · rw [fadeMasterTick_voice hs hi]
    exact ⟨fun h => Voice.slewedBy_of_not_fading h _, Voice.slewedBy_above, Voice.slewedBy_spent⟩
  · have due : voiceFadeEnd i s = s.endVoice i := if_pos ⟨hi, fading, spent⟩
    have voice := State.endVoice_voice (s := s) (hs.symm ▸ hi)
    exact ⟨_, congrArg Host.Outcome.next ((event_of_running hr).trans due), (s.endVoice_sameBut i).mono,
      (voice i).trans (if_pos rfl), fun j hj => (voice j).trans (if_neg hj), rfl, s.endVoice_ntu i⟩

/-! ### What a taken request leaves -/

/-- A request taken leaves every unit but the port as its answer does. -/
theorem request_rest {s u : State} {kind key : Nat} {act : State → Answer} {st : Status} {c : Bool} {p : List Byte}
    (hl : s.listening) (ha : act s.hearFrame = .take u st c p) : SameBut [.port] u (request kind key act s) := by
  rw [request_take hl.1 hl.2 ha]
  exact State.respond_sameBut _ _ _ _ _ _ _

theorem SameBut.snd {bs : List Block} {s t : State} (h : SameBut bs s t) (hb : .snd ∉ bs := by decide) :
    t.snd = s.snd := h.same .snd hb

theorem SameBut.voice {bs : List Block} {s t : State} (h : SameBut bs s t) (i : Nat) (hb : .snd ∉ bs := by decide) :
    t.voice i = s.voice i := congrArg (fun d : Snd => d.voices.getD i Voice.reset) (h.snd hb)

/-! ### PLAY (07 R143, R145) -/

section
variable {s : State} {w : PlayWire} {c : Clip} {i : Nat}

theorem State.claimVoice_granted {q : Claim} (hc : s.readyClip q.clip = some c)
    (hi : chooseVoice s.snd.voices q.level = some i) : s.claimVoice q = some (s.startVoice i q c, i) := by
  rw [State.claimVoice, hc, hi]

/-- A PLAY that no check refuses starts the chosen voice. -/
theorem hostPlay_taken (hw : w.clip ≤ 63) (hb : w.buses.testBit 0 = true ∨ w.buses.testBit 1 = true) (hl : w.level ≤ 3)
    (hc : s.readyClip w.clip = some c) (hi : chooseVoice s.snd.voices w.level = some i) :
    hostPlay w s = .take (s.startVoice i w.claim c) .ok (decide (256 < w.gain))
      (u8 i ++ u48 ((s.startVoice i w.claim c).voice i).stamp ++ u16 ((s.startVoice i w.claim c).voice i).gv) := by
  have named : (busesOf w.buses).any = true := by simpa [Buses.any, busesOf] using hb
  have checks : ¬ (63 < w.clip ∨ (busesOf w.buses).any = false ∨ 3 < w.level) := by
    rw [named]
    simp [hw, hl]
  simp only [hostPlay, if_neg checks, State.get_of_readyClip hc, hc,
    State.claimVoice_granted (q := w.claim) hc hi, Option.isNone_some, Bool.false_eq_true, if_false]

/-- A voice just started for a clip that is not empty asks for its samples from 0 on (07 R147). -/
theorem Voice.started_request {q : Claim} {n : Nat} (h : 0 < c.length) :
    ((Voice.started q c n).request c).map (·.first) = some 0 := by
  have needs : (Voice.started q c n).needsRefill c = true := by
    simp [Voice.needsRefill, Voice.started, Voice.sounding, h.ne]
  rw [Voice.request, if_pos needs]
  rfl

/-- A start leaves the free counter while the start counter has a next value (07 §7.1). -/
theorem State.startVoice_sameBut_counted {q : Claim} (hn : s.snd.startCounter + 1 < 2 ^ 48) :
    SameBut [.snd, .flp, .ntu] s (s.startVoice i q c) := by
  have free : (s.startVoice i q c).free = s.free := (State.startVoice_free i q c s).trans (if_pos hn)
  simp [sameBut_iff, free]

end

/-! ### HUSH and MASTER (07 R151, R159) -/

/-- A voice that is not IDLE is one of the table's. -/
theorem State.lt_length_of_sounding {s : State} {i : Nat} (h : (s.voice i).state ≠ .idle) : i < s.snd.voices.length := by
  by_contra hi
  exact h (by simp [State.voice, List.getElem?_eq_none (Nat.not_lt.1 hi), Voice.reset])

theorem Voice.fade_of_sounding {v : Voice} (h : v.state ≠ .idle) : v.fade = { v with state := .fading } := by
  unfold Voice.fade
  cases e : v.state with
  | idle => exact absurd e h
  | playing => rfl
  | fading => rw [if_neg (by decide), ← e]

theorem hushVoice_taken {s : State} {key : Nat} (hk : key ≤ 5) (h : (s.voice key).state ≠ .idle) :
    hushVoice key s = ok (s.setVoice key { s.voice key with state := .fading }) ([2] ++ u16 (s.voice key).gv) := by
  simp only [hushVoice, if_neg (Nat.not_lt.2 hk), if_neg h, Voice.fade_of_sounding h]
  rfl

theorem State.fadeVoices_all (s : State) : (s.fadeVoices (fun _ => true)).snd = { s.snd with
    voices := s.snd.voices.map (fun v => if v.state = .playing then { v with state := .fading } else v) } := rfl

/-- The state that a MASTER leaves: the clamped gain stored, m held to a lower target (07 R158, R159). -/
def State.masterSet (gain : Nat) (s : State) : State :=
  (s.setSettings { s.settings with masterGain := min 256 gain }).capMaster

/-! ### The requests taken -/

/-- Settles O56: each request is taken past its checks, and its answer read off the state it leaves. -/
theorem voiceRequests : Obligations.VoiceRequests := by
  intro s key hl
  refine ⟨fun w c i hw hb hlevel hc hi counter length => ?_, fun hk h => ?_, ?_, fun gain => ?_⟩
  · have act := hostPlay_taken (s := s.hearFrame) hw hb hlevel hc hi
    have voice := State.startVoice_voice (s := s.hearFrame) (q := w.claim) (chooseVoice_lt hi) (State.get_of_readyClip hc)
    have snd := State.startVoice_snd (s := s.hearFrame) (q := w.claim) (chooseVoice_lt hi) (State.get_of_readyClip hc)
    have hit := (voice i).trans (if_pos rfl)
    have rest := request_rest (kind := 0x2D) (key := key) hl act
    have answer := request_answers_calm (kind := 0x2D) (key := key) hl act
      (State.startVoice_sameBut_counted (s := s.hearFrame) counter)
    have stamp := congrArg Voice.stamp hit
    have gv := congrArg Voice.gv hit
    rw [stamp, gv] at answer
    refine ⟨_, rfl, answer, ?_, fun j hj => (rest.voice j).trans ((voice j).trans (if_neg hj)), ?_, ?_⟩
    · rw [rest.snd, snd]
      exact if_pos counter
    · rw [rest.voice, hit]
      rfl
    · rw [rest.voice, hit]
      exact Voice.started_request length
  · have act := hushVoice_taken (s := s.hearFrame) hk h
    have voice := s.hearFrame.voice_setVoice { s.voice key with state := .fading } (State.lt_length_of_sounding h)
    have rest := request_rest (kind := 0x2E) (key := key) hl act
    exact ⟨_, rfl, request_answers_calm hl act (State.setVoice_sameBut _ _ _),
      (rest.voice key).trans ((voice key).trans (if_pos rfl)),
      fun j hj => (rest.voice j).trans ((voice j).trans (if_neg hj))⟩
  · have act : hushAll s.hearFrame = ok (s.hearFrame.fadeVoices (fun _ => true)) _ := rfl
    have rest := request_rest (kind := 0x2E) (key := key) hl act
    have frame : SameBut [.snd] s.hearFrame (s.hearFrame.fadeVoices (fun _ => true)) := hushAll_frame s.hearFrame
    exact ⟨_, rfl, request_answers_calm hl act frame, rest.snd.trans (State.fadeVoices_all s.hearFrame)⟩
  · have act : hostMaster gain s.hearFrame = .take (s.hearFrame.masterSet gain) .ok _ _ := rfl
    have rest := request_rest (kind := 0x2F) (key := key) hl act
    have frame : SameBut [.settings, .snd] s.hearFrame (s.hearFrame.masterSet gain) := hostMaster_frame s.hearFrame gain
    have target := State.masterTarget_congr rest.settings (by rw [rest.snd]) (by rw [rest.msv])
    refine ⟨_, rfl, ?_, rest.settings, ?_⟩
    · rw [target, rest.snd]
      exact request_answers_calm hl act frame
    · rw [target]
      exact rest.snd

end Sys2Proof.Machine
end

section
/-! SUPPORT. What reaches the notice unit from the other blocks: occurrences raised, one after the other, and nothing else
(08 R163). Every command but NTU's own requests and the resets is made of such operations. -/

namespace Sys2Proof.Machine

/-! ### The relation -/

/-- NTU once an occurrence has been recorded at its source (08 R163). -/
def Ntu.raise (t : Ntu) (n : Notice) : Ntu :=
  { t with sources := t.sources.modify (n.source - 1) (Source.record n) }

theorem State.raise_ntu (n : Notice) (s : State) : (s.raise n).ntu = s.ntu.raise n := rfl

/-- NTU has recorded some occurrences in turn, and is otherwise as it was. -/
def State.Raises (s t : State) : Prop := ∃ ns : List Notice, t.ntu = ns.foldl Ntu.raise s.ntu

namespace State.Raises

variable {s t u : State}

theorem of_ntu (h : t.ntu = s.ntu) : s.Raises t := ⟨[], h⟩

theorem refl (s : State) : s.Raises s := of_ntu rfl

theorem trans (h : s.Raises t) (h' : t.Raises u) : s.Raises u := by
  obtain ⟨ns, ht⟩ := h
  obtain ⟨ms, hu⟩ := h'
  exact ⟨ns ++ ms, by rw [hu, ht, List.foldl_append]⟩

theorem raise (h : s.Raises t) (n : Notice) : s.Raises (t.raise n) := h.trans ⟨[n], State.raise_ntu n t⟩

end State.Raises

/-- An operation whose frame leaves NTU raises nothing. -/
theorem SameBut.raises {bs : List Block} {s t : State} (h : SameBut bs s t) (hb : .ntu ∉ bs := by decide) :
    s.Raises t := .of_ntu (h.ntu hb)

variable (s : State)

/-! ### Voices and stop reasons (07 R142 to R153, 04 R65 to R67) -/

theorem State.endVoice_raises (i : Nat) : s.Raises (s.endVoice i) := ⟨[.voiceEnded i (s.voice i).owner], rfl⟩

theorem State.yieldVoice_raises (i : Nat) : s.Raises (s.yieldVoice i) := by
  unfold State.yieldVoice
  split
  · exact (Raises.refl s).raise _
  · exact (Raises.refl s).raise _
  · exact .refl s

theorem State.claimVoice_raises {q : Claim} {s t : State} {i : Nat} (h : s.claimVoice q = some (t, i)) :
    s.Raises t := by
  unfold State.claimVoice at h
  split at h
  · cases h
    exact (s.yieldVoice_raises _).trans (.of_ntu (State.startVoice_ntu _ _ _ s))
  · cases h

theorem State.announceStop_raises : s.Raises s.announceStop := by
  have faded : s.Raises (s.fadeVoices (fun v => v.level < 3)) := .of_ntu rfl
  unfold State.announceStop
  dsimp only
  split
  · exact faded
  · split
    · exact faded.raise _
    · split
      · rename_i h
        exact faded.trans (State.claimVoice_raises h)
      · exact faded.raise _

theorem State.enterEStop_raises : s.Raises s.enterEStop :=
  (Raises.of_ntu rfl).trans (State.announceStop_raises s.stilled)

theorem State.addReason_raises (r : StopReason) : s.Raises (s.addReason r) := by
  have joined : s.Raises (s.setMsv { s.msv with reasons := insertReason r s.msv.reasons }) := .of_ntu rfl
  obtain ⟨-, e⟩ | ⟨-, -, -, e⟩ | ⟨-, -, -, -, e⟩ | ⟨-, -, -, e | e⟩ | ⟨-, -, -, -, e⟩ := s.addReason_cases r
  all_goals rw [e]
  · exact .refl s
  · exact joined.raise _
  · exact (joined.trans (State.enterEStop_raises _)).raise _
  · exact .of_ntu rfl
  · exact (Raises.of_ntu rfl).raise _
  · exact joined

/-! ### The cue engine and the position step (05, 01 R14) -/

theorem State.skipAction_raises (id idx : Nat) : s.Raises (s.skipAction id idx) := ⟨[.cueSkipped id (some idx)], rfl⟩

theorem State.conflict_raises (id holder output : Nat) : s.Raises (s.conflict id holder output) :=
  ⟨[.cueConflict id output, .cueConflict holder output], rfl⟩

theorem State.requestDwell_raises {ms : Nat} {s t : State} (h : s.requestDwell ms = some t) : s.Raises t := by
  unfold State.requestDwell at h
  split at h <;> cases h
  · exact ⟨[.motion .dwell], rfl⟩
  · exact .of_ntu rfl

theorem State.runEffect_raises (id level idx line on off count : Nat) (timed : Bool) :
    s.Raises (s.runEffect id level idx line on off count timed) := by
  unfold State.runEffect
  dsimp only
  split
  · exact s.skipAction_raises id idx
  · split
    · exact .of_ntu rfl
    · exact (Raises.of_ntu rfl).trans (State.conflict_raises _ _ _ _)
    · exact s.conflict_raises _ _ _

theorem State.runYaw_raises (id level : Nat) (target : Int) : s.Raises (s.runYaw id level target) := by
  unfold State.runYaw
  dsimp only
  split
  · exact .of_ntu rfl
  · exact (Raises.of_ntu rfl).trans (State.conflict_raises _ _ _ _)
  · exact s.conflict_raises _ _ _

theorem State.runBeacon_raises (id idx code : Nat) : s.Raises (s.runBeacon id idx code) := by
  unfold State.runBeacon
  split
  · exact s.skipAction_raises id idx
  · exact .of_ntu rfl

theorem State.runAction_raises (id level idx : Nat) (a : Action) : s.Raises (s.runAction id level idx a) := by
  cases a with
  | play c b g l x =>
    unfold State.runAction State.runPlay
    dsimp only
    split
    · rename_i h
      exact State.claimVoice_raises h
    · exact s.skipAction_raises id idx
  | effect n on off k t => exact s.runEffect_raises _ _ _ _ _ _ _ _
  | beacon c => exact s.runBeacon_raises _ _ _
  | yaw y => exact s.runYaw_raises _ _ _
  | dwell ms =>
    unfold State.runAction State.runDwell
    dsimp only
    cases h : s.requestDwell ms with
    | none => exact s.skipAction_raises id idx
    | some t => exact State.requestDwell_raises h
  | slow v => exact .of_ntu rfl

theorem raises_cueClosed : CueClosed State.Raises where
  refl := .refl
  trans := .trans
  record _ _ := .of_ntu rfl
  raise s n := (State.Raises.refl s).raise n
  fade _ _ := .of_ntu rfl
  act := State.runAction_raises

theorem raises_stepClosed : StepClosed State.Raises where
  trans := .trans
  record _ _ := .of_ntu rfl
  join := State.addReason_raises
  report s n _ := (State.Raises.refl s).raise n
  evaluate s moved := raises_cueClosed.evaluate moved s

/-! ### The guidance sample (02, 04 R76 to R86, 07 R157) -/

theorem State.guide_raises (encoder : Int) : s.Raises (s.guide encoder) := by
  have judged : s.Raises s.judgeGuide := by
    rw [State.judgeGuide_eq]
    split
    · exact (Raises.of_ntu rfl).trans (State.addReason_raises _ _)
    · exact .of_ntu rfl
  have turned : s.Raises s.turned := by
    rw [State.turned, State.turned_eq]
    exact judged.trans (.of_ntu rfl)
  have followed : s.Raises (s.turned.followed encoder) := turned.trans (.of_ntu rfl)
  rw [State.guide_eq]
  obtain ⟨-, e⟩ | ⟨-, -, e⟩ | ⟨-, -, e⟩ := State.superviseYaw_cases encoder s.turned <;> rw [e]
  · exact followed
  · exact followed.trans (.of_ntu rfl)
  · exact followed.trans (State.addReason_raises _ _)

theorem State.overspeedCheck_raises : s.Raises s.overspeedCheck := by
  unfold State.overspeedCheck
  split
  · exact .of_ntu rfl
  · split
    · split
      · exact (Raises.of_ntu rfl).trans (State.addReason_raises _ _)
      · exact .of_ntu rfl
    · exact .of_ntu rfl

theorem State.overrunCheck_raises : s.Raises s.overrunCheck := by
  unfold State.overrunCheck
  split
  · exact s.addReason_raises _
  · exact .refl s

theorem State.heldTest_raises : s.Raises s.heldTest := by
  unfold State.heldTest
  split
  · split
    · exact .refl s
    · exact ⟨[.held], rfl⟩
  · split
    · exact .of_ntu rfl
    · exact .refl s

theorem State.restStep_raises : s.Raises s.restStep := by
  unfold State.restStep
  split
  · exact .refl s
  · split
    · exact .of_ntu rfl
    · exact ⟨[.motion .stopped], rfl⟩
    · exact .refl s

theorem State.speedStage_raises (ds : Int) : s.Raises (s.speedStage ds) := by
  have window : s.Raises (s.windowStep ds) := .of_ntu rfl
  have ramped : s.Raises (s.windowStep ds).overspeedCheck.overrunCheck.ramp :=
    ((window.trans (State.overspeedCheck_raises _)).trans (State.overrunCheck_raises _)).trans (.of_ntu rfl)
  exact (ramped.trans (State.heldTest_raises _)).trans (State.restStep_raises _)

theorem guidanceSample_raises (encoder : Int) (current : Nat) : s.Raises (guidanceSample encoder current s) :=
  (((raises_stepClosed.positionStep s).trans (State.guide_raises _ encoder)).trans (State.speedStage_raises _ _)).trans
    (State.readLoad_sameBut _ current).raises

/-! ### Markers, PLACE and AUTHORITY (01) -/

theorem State.mismatch_raises (a code : Nat) : s.Raises (s.mismatch a code) := (s.addReason_raises _).raise _

theorem markerRead_raises (code : Nat) : s.Raises (markerRead code s) := by
  unfold markerRead
  split
  · exact .refl s
  · split
    · exact .refl s
    · split
      · exact s.mismatch_raises _ _
      · split
        · exact .refl s
        · split
          · exact raises_stepClosed.correct _ s
          · exact s.mismatch_raises _ _

theorem placeVehicle_raises (segment position : Nat) : (placeVehicle segment position s).Leaves s.Raises := by
  unfold placeVehicle
  repeat' split
  case h_2.isFalse.isFalse => exact (State.Raises.of_ntu (by rfl)).trans (raises_cueClosed.evaluate true _)
  all_goals trivial

theorem State.grantAuthority_raises (u : Authority) (path : List Nat) : s.Raises (s.grantAuthority u path) := by
  have checked : s.Raises (s.storeAuthority u path).overrunCheck :=
    (Raises.of_ntu rfl).trans (State.overrunCheck_raises (s.storeAuthority u path))
  unfold State.grantAuthority
  dsimp only
  split
  · exact checked.raise _
  · exact checked

theorem putAuthority_raises (key : Nat) (w : AuthorityWire) : (putAuthority key w s).Leaves s.Raises := by
  unfold putAuthority
  dsimp only
  repeat' split
  all_goals simp [State.grantAuthority_raises]

theorem amendAuthority_raises (key presence : Nat) (w : AuthorityWire) :
    (amendAuthority key presence w s).Leaves s.Raises := by
  unfold amendAuthority
  split
  · trivial
  · split
    · split
      · trivial
      · exact .refl s
    · exact putAuthority_raises s _ _

theorem retireAuthority_raises (key : Nat) : (retireAuthority key s).Leaves s.Raises := by
  unfold retireAuthority
  split
  · trivial
  · split
    · trivial
    · exact (State.Raises.of_ntu rfl).trans (State.overrunCheck_raises s.dropAuthority)

/-! ### Seats (03) -/

theorem State.sampleSeat_raises (i : Nat) (r : SeatReading) : s.Raises (s.sampleSeat i r) := by
  have stored (st : SeatState) : s.Raises (s.setSeatState i st) := .of_ntu rfl
  obtain ⟨-, e⟩ | ⟨-, -, e⟩ | ⟨-, -, e⟩ := s.sampleSeat_cases i r <;> rw [e]
  · exact stored _
  · exact (stored _).raise _
  · exact ((stored _).trans (State.addReason_raises _ _)).raise _

theorem raiseEach_raises {α : Type} (f : α → Notice) (l : List α) (s : State) :
    s.Raises (l.foldl (fun u a => u.raise (f a)) s) := by
  induction l generalizing s with
  | nil => exact .refl s
  | cons a l ih => exact ((State.Raises.refl s).raise (f a)).trans (ih _)

theorem State.completeHold_raises : s.Raises s.completeHold := by
  obtain e | ⟨p, -, e⟩ := s.completeHold_cases <;> rw [e]
  · exact ⟨[.release .denied], rfl⟩
  · exact ((Raises.of_ntu rfl).trans (raiseEach_raises _ _ _)).raise _

theorem State.updateHold_raises (closed : Bool) : s.Raises (s.updateHold closed) := by
  unfold State.updateHold
  split
  · split
    · exact .of_ntu rfl
    · split
      · exact s.completeHold_raises
      · exact .refl s
    · exact .refl s
  · exact .of_ntu rfl

theorem State.takeLevels_raises (v : SeatLevels) : s.Raises (s.takeLevels v) :=
  ((Raises.of_ntu rfl).trans
    (State.sampleSeats_lift .refl .trans (fun i r s => State.sampleSeat_raises s i r) 0 v.readings
      (s.keepLevels v))).trans (State.updateHold_raises _ _)

theorem holdComplete_raises : s.Raises (holdComplete s) := by
  unfold holdComplete
  split
  · split
    · exact s.takeLevels_raises _
    · exact .refl s
  all_goals exact .refl s

theorem permitExpiry_raises : s.Raises (permitExpiry s) := by
  unfold permitExpiry
  split
  · split
    · exact ⟨[.release .expired], rfl⟩
    · exact .refl s
  · exact .refl s

theorem releasePulseEnd_raises (i : Nat) : s.Raises (releasePulseEnd i s) := by
  unfold releasePulseEnd
  split
  · split
    · exact ⟨[.seat i .unlatched], rfl⟩
    · exact .refl s
  · exact .refl s

/-! ### Motion (04) -/

theorem State.withdrawPermit_raises : s.Raises s.withdrawPermit := by
  unfold State.withdrawPermit
  split
  · exact ⟨[.release .withdrawn], rfl⟩
  · exact .refl s

theorem enableVehicle_raises : (enableVehicle s).Leaves s.Raises := by
  unfold enableVehicle
  dsimp only
  split
  · trivial
  · split
    · exact .of_ntu rfl
    · exact s.enterEStop_raises.raise _

theorem parkVehicle_raises : (parkVehicle s).Leaves s.Raises := by
  unfold parkVehicle
  split
  · exact (State.Raises.of_ntu (by rfl)).trans (State.withdrawPermit_raises _)
  · trivial

theorem startVehicle_raises : (startVehicle s).Leaves s.Raises := by
  unfold startVehicle
  repeat' split
  case isFalse.isFalse.isFalse.isFalse =>
    exact (State.Raises.of_ntu (by rfl)).trans (State.withdrawPermit_raises _)
  all_goals trivial

theorem stopVehicle_raises : (stopVehicle s).Leaves s.Raises := by
  unfold stopVehicle
  split
  · trivial
  · exact s.addReason_raises _

theorem estopInputCheck_raises (high : Bool) : s.Raises (estopInputCheck high s) := by
  unfold estopInputCheck
  dsimp only
  split
  · exact (State.Raises.of_ntu (by rfl)).trans (State.addReason_raises _ _)
  · exact .of_ntu rfl

theorem linkExpiry_raises : s.Raises (linkExpiry s) := by
  unfold linkExpiry
  dsimp only
  split
  · exact .refl s
  · split
    · split
      · exact (State.Raises.of_ntu (by rfl)).trans (State.addReason_raises _ _)
      · exact .of_ntu rfl
    · exact .refl s

theorem supplyReading_raises (count : Nat) : s.Raises (supplyReading count s) := by
  unfold supplyReading
  split
  · split
    · split
      · exact .of_ntu rfl
      · exact ⟨[.supply false], rfl⟩
    · exact .of_ntu rfl
  · split
    · split
      · exact .of_ntu rfl
      · exact ⟨[.supply true], rfl⟩
    · exact .of_ntu rfl

theorem dwellExpiry_raises : s.Raises (dwellExpiry s) := by
  unfold dwellExpiry
  split
  · split
    · exact ⟨[.motion .running], rfl⟩
    · exact .refl s
  · exact .refl s

/-! ### The flash port (06) -/

theorem completion_raises {mine : Work → Bool} {f : Work → State → State} (h : ∀ w (u : State), u.Raises (f w u)) :
    Result.Leaves s.Raises (completion mine f s) := by
  intro t ht
  obtain rfl | ⟨g, -, -, rfl⟩ := completion_cases ht
  · exact .refl t
  · exact (State.Raises.of_ntu rfl).trans (h g.work s.freePort)

theorem State.verifyBad_raises (id : Nat) (r : BadReason) : s.Raises (s.verifyBad id r) := ⟨[.clipBad id r], rfl⟩

theorem State.verifyDone_raises (size id : Nat) (v : Verify) : s.Raises (s.verifyDone size id v) := by
  unfold State.verifyDone
  split
  · exact .of_ntu rfl
  · split
    · exact ⟨[.clipReady id], rfl⟩
    · exact s.verifyBad_raises _ _

theorem verifyBurst_raises (w : Work) : s.Raises (verifyBurst w s) := by
  unfold verifyBurst State.verifyBytes
  dsimp only
  repeat' split
  all_goals simp [State.verifyBad_raises, State.verifyDone_raises, State.Raises.refl]

theorem State.answerRead_raises (bs : Option (List Byte)) : s.Raises (s.answerRead bs) := by
  unfold State.answerRead
  dsimp only
  split
  · exact .refl s
  · split
    · exact .of_ntu rfl
    · exact ⟨[.flashTimeout .read], rfl⟩

theorem flashReadDeadline_raises : s.Raises (flashReadDeadline s) := by
  unfold flashReadDeadline
  split
  · exact .refl s
  · split
    · refine State.Raises.trans ?_ (State.answerRead_raises _ none)
      split <;> exact .of_ntu rfl
    · exact .refl s

theorem State.stepDone_raises : s.Raises s.stepDone := by
  unfold State.stepDone
  dsimp only
  split
  · exact .of_ntu rfl
  · exact ⟨[.flashDone s.flp.slot.op.flashOp], rfl⟩

theorem State.unitTimeout_raises (w : Work) : s.Raises (s.unitTimeout w) := by
  have failed (a : Nat) : s.Raises ((s.havocUnit w).stepTimeout a) := by
    refine Raises.raise (.of_ntu ?_) _
    unfold State.havocUnit
    split <;> rfl
  unfold State.unitTimeout
  split
  · exact (Raises.refl s).raise _
  · split
    · exact s.verifyBad_raises _ _
    · exact .refl s
  · exact .refl s
  · exact s.answerRead_raises none
  · exact failed _
  · exact failed _

theorem flashUnitTimeout_raises : s.Raises (flashUnitTimeout s) := by
  unfold flashUnitTimeout
  split
  · exact .refl s
  · split
    · exact (State.Raises.of_ntu rfl).trans (State.unitTimeout_raises s.freePort _)
    · exact .refl s

/-! ### Sound (07) -/

theorem State.playVoice_raises (i : Nat) : s.Raises (s.playVoice i) := by
  unfold State.playVoice
  dsimp only
  split
  · split
    · split
      · exact (Raises.of_ntu rfl).trans (State.endVoice_raises _ i)
      · exact .of_ntu rfl
    · exact .refl s
    · split
      · exact ⟨[.voiceUnderrun i (s.voice i).owner], rfl⟩
      · exact .refl s
  · exact .refl s

theorem outputSample_raises : s.Raises (outputSample s) :=
  ((State.Raises.of_ntu rfl).trans
    (eachId_lift .refl .trans (fun i s => State.playVoice_raises s i) voiceIds s.writeBuses)).trans
    (eachId_sameBut (fun i s => State.placeRefill_sameBut s i) voiceIds _).raises

theorem State.fadeVoice_raises (i : Nat) : s.Raises (s.fadeVoice i) := by
  unfold State.fadeVoice
  dsimp only
  split
  · split
    · exact (Raises.of_ntu rfl).trans (State.endVoice_raises _ i)
    · exact .of_ntu rfl
  · exact .refl s

theorem State.climbMaster_ntu : s.climbMaster.ntu = s.ntu := by
  unfold State.climbMaster
  split <;> rfl

theorem fadeMasterTick_raises : s.Raises (fadeMasterTick s) :=
  (eachId_lift .refl .trans (fun i s => State.fadeVoice_raises s i) voiceIds s).trans (.of_ntu (State.climbMaster_ntu _))

theorem voiceFadeEnd_raises (i : Nat) : s.Raises (voiceFadeEnd i s) := by
  unfold voiceFadeEnd
  split
  · exact s.endVoice_raises i
  · exact .refl s

theorem hostPlay_raises (w : PlayWire) : (hostPlay w s).Leaves s.Raises := by
  unfold hostPlay
  repeat' split
  case h_2 h => exact State.claimVoice_raises h
  all_goals trivial

/-! ### The port (09 R173, R175) -/

theorem State.overrunFrame_raises : s.Raises s.overrunFrame := ⟨[.overrun], rfl⟩

theorem frameCheckFailure_raises (bs : List Byte) : s.Raises (frameCheckFailure bs s) := by
  unfold frameCheckFailure State.failFrame
  split
  · exact .refl s
  · split
    · exact s.overrunFrame_raises
    · split
      case h_2 => exact ⟨[.badCrc], rfl⟩
      all_goals exact .of_ntu rfl

theorem flashRead_raises (key addr len : Nat) : s.Raises (flashRead key addr len s) := by
  unfold flashRead
  dsimp only
  split
  · exact .refl s
  · split
    · exact s.overrunFrame_raises
    · split
      · exact .of_ntu rfl
      · exact .of_ntu rfl

/-- A request raises what its answer raises, or OVERRUN. -/
theorem request_raises {kind key : Nat} {act : State → Answer} (h : ∀ u, (act u).Leaves u.Raises) :
    s.Raises (request kind key act s) := by
  obtain ⟨-, e⟩ | ⟨-, -, e⟩ | ⟨-, -, st, p, -, e⟩ | ⟨-, -, t, st, c, p, ha, e⟩ := request_cases s kind key act
  all_goals rw [e]
  · exact .refl s
  · exact s.overrunFrame_raises
  · exact .of_ntu rfl
  · have taken : s.hearFrame.Raises t := by simpa [ha] using h s.hearFrame
    exact ((State.Raises.of_ntu rfl).trans taken).trans (.of_ntu rfl)

theorem event_raises {f : State → State} (h : s.Raises (f s)) : s.Raises (event f s) := by
  obtain ⟨-, e⟩ | ⟨-, e⟩ := event_cases s f <;> rw [e]
  · exact .refl s
  · exact h

end Sys2Proof.Machine

namespace Sys2Proof

/-- The commands that change NTU otherwise than by raising notices: its own requests and the resets (08 R164 to R171). -/
def Instr.handlesNotices : Instr → Bool
  | .putSource _ _ | .amendSource _ _ _ | .noticeSetup _ _ _ | .noticeTake _ | .powerReset _ | .pinReset _
  | .softReset _ => true
  | _ => false

end Sys2Proof

namespace Sys2Proof.Machine

/-- Every other command only raises notices: the requests and events that never do by their frame, the others each by its
operations. -/
theorem exec_raises (c : Instr) (s : State) (hc : c.handlesNotices = false) : Result.Leaves s.Raises (exec c s) := by
  have raising {kind key : Nat} {act : State → Answer} (h : ∀ u, (act u).Leaves u.Raises) :
      Result.Leaves s.Raises (.next (request kind key act s)) := next_leaves (request_raises s h)
  have framed {bs : List Block} {kind key : Nat} {act : State → Answer} (h : ∀ u, (act u).Leaves (SameBut bs u))
      (hb : .ntu ∉ bs := by decide) : Result.Leaves s.Raises (.next (request kind key act s)) :=
    raising fun u => (h u).imp fun _ ht => ht.raises hb
  cases c
  case putSource | amendSource | noticeSetup | noticeTake | powerReset | pinReset | softReset => cases hc
  case guidanceSample => exact next_leaves (event_raises s (guidanceSample_raises s _ _))
  case markerRead => exact next_leaves (event_raises s (markerRead_raises s _))
  case seatSample => exact next_leaves (event_raises s (s.takeLevels_raises _))
  case holdComplete => exact next_leaves (event_raises s (holdComplete_raises s))
  case permitExpiry => exact next_leaves (event_raises s (permitExpiry_raises s))
  case releasePulseEnd => exact next_leaves (event_raises s (releasePulseEnd_raises s _))
  case estopInputCheck => exact next_leaves (event_raises s (estopInputCheck_raises s _))
  case linkExpiry => exact next_leaves (event_raises s (linkExpiry_raises s))
  case supplyReading => exact next_leaves (event_raises s (supplyReading_raises s _))
  case dwellExpiry => exact next_leaves (event_raises s (dwellExpiry_raises s))
  case verifyBurstComplete => exact completion_raises s fun w u => verifyBurst_raises u w
  case flashReadComplete => exact completion_raises s fun w u => u.answerRead_raises (some (u.unitBytes w))
  case flashReadDeadline => exact next_leaves (event_raises s (flashReadDeadline_raises s))
  case hostStepComplete =>
    have written (w : Work) (u : State) : u.Raises (u.setFlp { u.flp with flash := w.written u.flp.flash }) := .of_ntu rfl
    exact completion_raises s fun w u => (written w u).trans (State.stepDone_raises _)
  case flashUnitTimeout => exact next_leaves (event_raises s (flashUnitTimeout_raises s))
  case outputSample => exact next_leaves (event_raises s (outputSample_raises s))
  case fadeMasterTick => exact next_leaves (event_raises s (fadeMasterTick_raises s))
  case voiceFadeEnd => exact next_leaves (event_raises s (voiceFadeEnd_raises s _))
  case resetEnd =>
    refine next_leaves (.of_ntu ?_)
    unfold resetEnd
    split <;> rfl
  case frameOverrun => exact next_leaves (event_raises s s.overrunFrame_raises)
  case frameCheckFailure => exact next_leaves (event_raises s (frameCheckFailure_raises s _))
  case flashRead => exact next_leaves (flashRead_raises s _ _ _)
  case putAuthority => exact raising fun u => putAuthority_raises u _ _
  case amendAuthority => exact raising fun u => amendAuthority_raises u _ _ _
  case retireAuthority => exact raising fun u => retireAuthority_raises u _
  case enable => exact raising enableVehicle_raises
  case park => exact raising parkVehicle_raises
  case place => exact raising fun u => placeVehicle_raises u _ _
  case start => exact raising startVehicle_raises
  case stop => exact raising stopVehicle_raises
  case estop => exact raising fun u => u.addReason_raises _
  case play => exact raising fun u => hostPlay_raises u _
  case putSegment => exact framed (fun u => putSegment_frame u _ _)
  case amendSegment => exact framed (fun u => amendSegment_frame u _ _ _)
  case retireSegment => exact framed (fun u => retireSegment_frame u _)
  case getSegment => exact framed (fun u => getSegment_frame u _)
  case getAuthority => exact framed (fun u => getAuthority_frame u _)
  case listAuthority => exact framed (fun u => listAuthority_frame u _)
  case putSeat => exact framed (fun u => putSeat_frame u _ _)
  case amendSeat => exact framed (fun u => amendSeat_frame u _ _ _)
  case getSeat => exact framed (fun u => getSeat_frame u _)
  case putCue => exact framed (fun u => putCue_frame u _ _)
  case amendCue => exact framed (fun u => amendCue_frame u _ _ _)
  case retireCue | retireCueForce => exact framed (fun u => retireCue_frame u _ _)
  case getCue => exact framed (fun u => getCue_frame u _)
  case putClip => exact framed (fun u => putClip_frame u _ _)
  case amendClip => exact framed (fun u => amendClip_frame u _ _ _)
  case retireClip => exact framed (fun u => retireClip_frame u _)
  case getClip => exact framed (fun u => getClip_frame u _)
  case getSource => exact framed (fun u => getSource_frame u _)
  case putSettings => exact framed (fun u => putSettings_frame u _ _)
  case amendSettings => exact framed (fun u => amendSettings_frame u _ _ _)
  case getSettings => exact framed (fun u => getSettings_frame u _)
  case getVoice => exact framed (fun u => getVoice_frame u _)
  case getLine => exact framed (fun u => getLine_frame u _)
  case listSegment | listSeat | listCue | listClip | listSource | listSettings | listVoice | listLine =>
    exact framed (fun u => ok_frame u _)
  case resume => exact framed resumeVehicle_frame
  case skipDwell => exact framed skipDwell_frame
  case yaw => exact framed (fun u => hostYaw_frame u _)
  case release => exact framed (fun u => releasePermit_frame u _)
  case releaseImmediate => exact framed (fun u => releaseImmediate_frame u _)
  case seatClear => exact framed (fun u => seatClear_frame u _)
  case rearm => exact framed (fun u => rearmCue_frame u _)
  case rearmAll => exact framed rearmAllCues_frame
  case disarm => exact framed (fun u => disarmCue_frame u _)
  case hush => exact framed (fun u => hushVoice_frame u _)
  case hushAll => exact framed hushAll_frame
  case master => exact framed (fun u => hostMaster_frame u _)
  case flashProgram => exact framed (fun u => flashProgram_frame u _ _)
  case flashErase => exact framed (fun u => flashErase_frame u _ _)
  case status => exact framed hostStatus_frame
  all_goals exact fun t ht => (exec_sameBut _ s rfl t ht).raises (by simp [Instr.blocks])

end Sys2Proof.Machine
end

section
/-! PROOFS. The notice records stay sound, and source 1 keeps level 7 (08 R163, R164, R167, R169 to R171): what an
occurrence and each of NTU's own operations do to them, and that every step keeps them. -/

namespace Sys2Proof.Machine

/-! ### One record -/

/-- An occurrence leaves the level (08 R163). -/
theorem Source.record_level (n : Notice) (src : Source) : (src.record n).level = src.level := by
  unfold Source.record
  split <;> rfl

/-- At level 0 an occurrence is dropped; elsewhere the source is pending, with a count and a detail (08 R163). -/
theorem Source.sound.record {src : Source} (h : src.sound) (n : Notice) : (src.record n).sound := by
  unfold Source.record
  split
  · exact h
  · rename_i positive
    exact ⟨h.1, Nat.min_le_left _ _, by simp, by simp, fun _ => Nat.pos_of_ne_zero positive⟩

theorem Source.sound_cleared {level : Nat} (h : level ≤ 7) : (Source.cleared level).sound :=
  ⟨h, Nat.zero_le _, by simp [Source.cleared], by simp [Source.cleared], nofun⟩

/-! ### The records and the setup -/

/-- The invariant as a property of NTU. -/
structure Ntu.Sound (t : Ntu) : Prop where
  sources : t.sources.length = 12
  records : ∀ src ∈ t.sources, src.sound
  estop : (t.sources.getD 0 (Source.cleared 0)).level = 7
  mask : t.mask ≤ 7
  base : ∀ b, t.base = some b → 1 ≤ b ∧ b ≤ 15
  released : t.released = true ↔ t.base.isSome = true

theorem noticesSound_iff (s : State) : s.NoticesSound ↔ s.ntu.Sound :=
  ⟨fun ⟨sources, records, estop, mask, base, released⟩ => ⟨sources, records, estop, mask, base, released⟩,
    fun ⟨sources, records, estop, mask, base, released⟩ => ⟨sources, records, estop, mask, base, released⟩⟩

/-- The source chosen for a TAKE is pending, and its number is that of its place (08 R166). -/
theorem Ntu.chosen_spec {t : Ntu} {n : Nat} {src : Source} (h : t.chosen = some (n, src)) :
    1 ≤ n ∧ t.sources[n - 1]? = some src ∧ src.pending = true := by
  obtain ⟨⟨src', i⟩, pick, e⟩ := Option.map_eq_some_iff.1 h
  obtain ⟨rfl, rfl⟩ := Prod.mk.inj e
  obtain ⟨mem, pending⟩ := List.mem_filter.1 (mem_of_firstLeast pick)
  exact ⟨Nat.le_add_left 1 i, List.mem_zipIdx_iff_getElem?.1 mem, pending⟩

namespace Ntu.Sound

variable {t : Ntu}

/-- An occurrence keeps every level and every record sound (08 R163). -/
theorem raise (h : t.Sound) (n : Notice) : (t.raise n).Sound where
  sources := (List.length_modify _ _ _).trans h.sources
  records := forall_mem_modify h.records fun src hs => (h.records src (List.mem_of_getElem? hs)).record n
  estop := by
    have level := h.estop
    simp only [Ntu.raise, List.getD_eq_getElem?_getD, List.getElem?_modify] at level ⊢
    split
    · cases hsrc : t.sources[0]? <;> simp_all [Source.record_level]
    · simpa using level
  mask := h.mask
  base := h.base
  released := h.released

theorem raiseAll (h : t.Sound) (ns : List Notice) : (ns.foldl Ntu.raise t).Sound := by
  induction ns generalizing t with
  | nil => exact h
  | cons n ns ih => exact ih (h.raise n)

/-- One source stored anew, source 1 with level 7 only. -/
theorem setSource (h : t.Sound) {n : Nat} {src : Source} (hs : src.sound) (hn : n - 1 = 0 → src.level = 7) :
    Ntu.Sound { t with sources := t.sources.set (n - 1) src } where
  sources := List.length_set.trans h.sources
  records q hq := (List.mem_or_eq_of_mem_set hq).elim (h.records q) fun e => e ▸ hs
  estop := by
    have level := h.estop
    have present : 0 < t.sources.length := by rw [h.sources]; decide
    simp only [List.getD_eq_getElem?_getD, List.getElem?_set] at level ⊢
    split
    · rename_i first
      simpa [first, present] using hn first
    · exact level
  mask := h.mask
  base := h.base
  released := h.released

/-- SOFT clears the sources and keeps the levels and the setup (08 R171). -/
theorem soft (h : t.Sound) : t.soft.Sound where
  sources := (List.length_map _).trans h.sources
  records src hsrc := by
    obtain ⟨q, hq, rfl⟩ := List.mem_map.1 hsrc
    exact Source.sound_cleared (h.records q hq).1
  estop := by
    have level := h.estop
    simp only [Ntu.soft, List.getD_eq_getElem?_getD, List.getElem?_map] at level ⊢
    cases hsrc : t.sources[0]? <;> simp_all [Source.cleared]
  mask := h.mask
  base := h.base
  released := h.released

end Ntu.Sound

theorem Ntu.sound_reset : Ntu.reset.Sound := (noticesSound_iff _).1 reset_noticesSound

/-! ### The state -/

namespace State.NoticesSound

variable {s t : State}

theorem of_raises (h : s.NoticesSound) (ht : s.Raises t) : t.NoticesSound := by
  obtain ⟨ns, e⟩ := ht
  exact (noticesSound_iff t).2 (e ▸ ((noticesSound_iff s).1 h).raiseAll ns)

theorem of_reset (h : t.ntu = Ntu.reset) : t.NoticesSound := (noticesSound_iff t).2 (h ▸ Ntu.sound_reset)

theorem setSource (h : s.NoticesSound) {n : Nat} {src : Source} (hs : src.sound) (hn : n - 1 = 0 → src.level = 7) :
    (s.setSource n src).NoticesSound := (noticesSound_iff _).2 (((noticesSound_iff s).1 h).setSource hs hn)

/-! ### NTU's own requests (08 R164, R166, R167, R169, R171) -/

/-- The stored level is one of 0 to 7, at a source other than 1. -/
theorem takeSource (h : s.NoticesSound) {key level : Nat} (hk : 2 ≤ key) (hl : level ≤ 7) :
    (s.takeSource key level).Leaves State.NoticesSound :=
  h.setSource (Source.sound_cleared hl) fun first => by omega

theorem putSource (h : s.NoticesSound) (key level : Nat) : (putSource key level s).Leaves State.NoticesSound := by
  unfold Machine.putSource
  split
  · trivial
  · rename_i taken
    simp only [settableSource, decide_eq_false_iff_not, not_or, not_not, Nat.not_lt] at taken
    obtain ⟨⟨hk, -⟩, hl⟩ := taken
    exact h.takeSource hk hl

theorem amendSource (h : s.NoticesSound) (key presence level : Nat) :
    (amendSource key presence level s).Leaves State.NoticesSound := by
  unfold Machine.amendSource
  split
  · trivial
  · rename_i settable
    split
    · exact h
    · split
      · trivial
      · rename_i hl
        simp only [settableSource, decide_eq_false_iff_not, not_not] at settable
        exact h.takeSource settable.1 (Nat.not_lt.1 hl)

theorem noticeSetup (h : s.NoticesSound) (base mask : Nat) : (noticeSetup base mask s).Leaves State.NoticesSound := by
  unfold Machine.noticeSetup
  split
  · trivial
  · rename_i inRange
    simp only [not_or, Nat.not_lt] at inRange
    obtain ⟨lo, hi, hmask⟩ := inRange
    exact { h with
      mask := hmask
      base := fun b hb => Option.some.inj hb ▸ ⟨lo, hi⟩
      released := iff_of_true rfl rfl }

/-- The source handed over keeps its level. -/
theorem noticeTake (h : s.NoticesSound) : (noticeTake s).Leaves State.NoticesSound := by
  unfold Machine.noticeTake
  split
  · exact h
  · rename_i n src chosen
    obtain ⟨-, place, -⟩ := Ntu.chosen_spec chosen
    have sound := h.records src (List.mem_of_getElem? place)
    refine h.setSource (Source.sound_cleared sound.1) fun first => ?_
    rw [first] at place
    simpa [State.source, place, Source.cleared] using h.estop

theorem softReset (h : s.NoticesSound) : (Machine.softReset s).Leaves State.NoticesSound := by
  unfold Machine.softReset
  split
  · exact (noticesSound_iff _).2 ((noticesSound_iff s).1 h).soft
  · trivial

/-! ### The step -/

/-- A request keeps the invariant where its answer does. -/
theorem request (h : s.NoticesSound) {kind key : Nat} {act : State → Answer}
    (ha : ∀ u : State, u.NoticesSound → (act u).Leaves State.NoticesSound) :
    (Machine.request kind key act s).NoticesSound := by
  have heard : s.hearFrame.NoticesSound := h.of_raises (.of_ntu rfl)
  obtain ⟨-, e⟩ | ⟨-, -, e⟩ | ⟨-, -, st, p, -, e⟩ | ⟨-, -, t, st, c, p, hact, e⟩ := request_cases s kind key act
  all_goals rw [e]
  · exact h
  · exact h.of_raises s.overrunFrame_raises
  · exact heard.of_raises (.of_ntu rfl)
  · have taken : t.NoticesSound := by simpa [hact] using ha s.hearFrame heard
    exact taken.of_raises (.of_ntu rfl)

/-- Every command keeps the records sound: NTU's own requests and the resets by their rules, the others because they only
raise notices. -/
theorem exec (h : s.NoticesSound) (c : Instr) : Result.Leaves State.NoticesSound (exec c s) := by
  cases c
  case putSource => exact next_leaves (h.request fun _ hu => hu.putSource _ _)
  case amendSource => exact next_leaves (h.request fun _ hu => hu.amendSource _ _ _)
  case noticeSetup => exact next_leaves (h.request fun _ hu => hu.noticeSetup _ _)
  case noticeTake => exact next_leaves (h.request fun _ hu => hu.noticeTake)
  case powerReset | pinReset => exact next_leaves (of_reset rfl)
  case softReset => exact next_leaves (h.request fun _ hu => hu.softReset)
  all_goals exact fun t ht => h.of_raises (exec_raises _ s rfl t ht)

end State.NoticesSound

/-- Settles O20: a step runs a command on the queue's rest, or lets a microsecond pass, and each keeps the records sound. -/
theorem noticesSoundKept : Obligations.NoticesSoundKept := by
  intro s t hs ht
  unfold step at ht
  split at ht
  · cases ht
    exact hs.of_raises (.of_ntu rfl)
  · rename_i c rest _
    have rest : (s.setPending rest).NoticesSound := hs.of_raises (.of_ntu rfl)
    exact rest.exec c t ht

end Sys2Proof.Machine
end

section
/-! PROOFS. What an occurrence records, when the NOTICE line is asserted, and the notice unit's requests (08 R163
to R169). -/

namespace Sys2Proof.Machine

/-! ### The sources by number -/

/-- The record at a place is that of the source with the next number. -/
theorem State.getElem?_sources_eq_some {s : State} {i : Nat} {src : Source} (h : s.ntu.sources[i]? = some src) :
    s.source (i + 1) = src := by
  simp [State.source, h]

theorem State.source_eq_getElem {s : State} {n : Nat} (h : n - 1 < s.ntu.sources.length) :
    s.source n = s.ntu.sources[n - 1] := by
  simp [State.source, h]

/-- The records of twelve sources are those of the numbers 1 to 12. -/
theorem State.mem_sources_iff {s : State} (h : s.ntu.sources.length = 12) (src : Source) :
    src ∈ s.ntu.sources ↔ ∃ n, 1 ≤ n ∧ n ≤ 12 ∧ s.source n = src := by
  constructor
  · intro hsrc
    obtain ⟨i, hi⟩ := List.mem_iff_getElem?.1 hsrc
    obtain ⟨lt, -⟩ := List.getElem?_eq_some_iff.1 hi
    exact ⟨i + 1, by omega, by omega, State.getElem?_sources_eq_some hi⟩
  · rintro ⟨n, lo, hi, rfl⟩
    rw [State.source_eq_getElem (by omega)]
    exact List.getElem_mem _

theorem State.source_setSource_self {s : State} {n : Nat} (src : Source) (h : n - 1 < s.ntu.sources.length) :
    (s.setSource n src).source n = src := by
  simp [State.source, State.setSource, h]

theorem State.source_setSource_of_ne {s : State} {n j : Nat} (src : Source) (hn : 1 ≤ n) (hj : 1 ≤ j) (hne : j ≠ n) :
    (s.setSource n src).source j = s.source j := by
  have other : n - 1 ≠ j - 1 := by omega
  simp [State.source, State.setSource, other]

theorem State.setSource_sameBut (n : Nat) (src : Source) (s : State) : SameBut [.ntu] s (s.setSource n src) := by
  simp [sameBut_iff, State.setSource]

/-! ### An occurrence and the NOTICE line (08 R163, R165) -/

theorem Source.record_of_dropped {src : Source} (n : Notice) (h : src.level = 0) : src.record n = src := if_pos h

/-- An occurrence at a level above 0: the detail is kept only when none is held (08 R163). -/
theorem Source.record_of_kept {src : Source} (n : Notice) (h : 0 < src.level) : src.record n =
    ⟨src.level, true, min 255 (src.count + 1), if src.detail = none then some n else src.detail⟩ := by
  rw [Source.record, if_neg (Nat.ne_of_gt h)]
  cases src.detail <;> rfl

/-- An occurrence that its source drops leaves NTU as it was. -/
theorem State.raise_dropped {s : State} {n : Notice} (h : (s.source n.source).level = 0) : (s.raise n).ntu = s.ntu := by
  have same : s.ntu.sources.modify (n.source - 1) (Source.record n) = s.ntu.sources := by
    refine List.ext_getElem? fun i => ?_
    rw [List.getElem?_modify]
    split
    · rename_i here
      cases hsrc : s.ntu.sources[i]? with
      | none => rfl
      | some src =>
        rw [← here] at hsrc
        have source : s.source n.source = src := by simp [State.source, hsrc]
        exact congrArg some (Source.record_of_dropped n (source ▸ h))
    · simp
  exact congrArg (fun l => ({ s.ntu with sources := l } : Ntu)) same

theorem Ntu.asserted_iff (t : Ntu) : t.asserted = true ↔
    t.released = true ∧ ∃ src ∈ t.sources, src.pending = true ∧ (t.mask < src.level ∨ src.level = 7) := by
  simp [Ntu.asserted]

/-- Settles O57: what a record takes in, at its own source only, and the line by the sources' numbers. -/
theorem noticeRecorded : Obligations.NoticeRecorded := by
  intro s n hlen
  have raises : RaisesOnly [n.source] s (s.raise n) := s.raise_raisesOnly n (List.mem_singleton_self _)
  refine ⟨s.raise_sameBut n, fun j hj hne => raises.source j (by simpa using hne) hj, State.raise_dropped,
    fun kept => ?_, ?_⟩
  · rw [State.source_raise n hlen, Source.record_of_kept n kept]
  · rw [Ntu.asserted_iff]
    refine and_congr_right fun _ => ?_
    simp only [State.mem_sources_iff hlen]
    constructor
    · rintro ⟨_, ⟨j, lo, hi, rfl⟩, asks⟩
      exact ⟨j, lo, hi, asks⟩
    · rintro ⟨j, lo, hi, asks⟩
      exact ⟨_, ⟨j, lo, hi, rfl⟩, asks⟩

/-! ### PUT and AMEND (08 R169) -/

section
variable {s : State} {key level presence : Nat}

theorem putSource_taken (h2 : 2 ≤ key) (h12 : key ≤ 12) (hl : level ≤ 7) :
    putSource key level s = s.takeSource key level := by
  simp [putSource, settableSource, h2, h12, hl]

theorem amendSource_taken (h2 : 2 ≤ key) (h12 : key ≤ 12) (hp : presence % 2 = 1) (hl : level ≤ 7) :
    amendSource key presence level s = s.takeSource key level := by
  simp [amendSource, settableSource, noPresence, h2, h12, hp, hl]

/-- An AMEND that carries no level reports (09 R177). -/
theorem amendSource_unchanged (h2 : 2 ≤ key) (h12 : key ≤ 12) (hp : presence % 2 = 0) :
    amendSource key presence level s = ok s (s.source key).bytes := by
  simp [amendSource, settableSource, noPresence, h2, h12, hp]

theorem putSource_refused (h : key < 2 ∨ 12 < key ∨ 7 < level) : putSource key level s = deny .badField := by
  refine if_pos ?_
  rw [settableSource, decide_eq_false_iff_not]
  omega

theorem amendSource_refused (h : key < 2 ∨ 12 < key ∨ (presence % 2 = 1 ∧ 7 < level)) :
    amendSource key presence level s = deny .badField := by
  by_cases hk : 2 ≤ key ∧ key ≤ 12
  · obtain ⟨hp, hl⟩ : presence % 2 = 1 ∧ 7 < level := by omega
    simp [amendSource, settableSource, noPresence, hk, hp, hl]
  · simp [amendSource, settableSource, hk]

end

/-- A taken SOURCE stores its level and is cleared, whatever request took it. -/
theorem takeSource_answers {s : State} {key level kind : Nat} {act : State → Answer} (hl : s.listening)
    (hlen : s.ntu.sources.length = 12) (h1 : 1 ≤ key) (h12 : key ≤ 12)
    (ha : act s.hearFrame = s.hearFrame.takeSource key level) :
    let t := request kind key act s
    Answers s t [.ntu] .ok kind key false false ([BitVec.ofNat 8 level] ++ List.replicate 10 0) ∧
      t.source key = ⟨level, false, 0, none⟩ ∧ (∀ j, 1 ≤ j → j ≠ key → t.source j = s.source j) ∧
      t.ntu = { s.ntu with sources := t.ntu.sources } := by
  have ntu := (request_rest (kind := kind) (key := key) hl ha).ntu
  refine ⟨request_answers_calm hl ha (State.setSource_sameBut _ _ _), ?_, fun j hj hne => ?_, ?_⟩
  · rw [State.source_congr ntu]
    exact State.source_setSource_self _ (by rw [State.hearFrame_ntu]; omega)
  · rw [State.source_congr ntu]
    exact State.source_setSource_of_ne _ h1 hj hne
  · rw [ntu]
    rfl

/-! ### NOTICE_SETUP and NOTICE_TAKE (08 R164, R166, R167) -/

section
variable {s : State} {base mask : Nat}

/-- NTU's setup stored and the interlock RELEASED (08 R164). -/
def State.setUp (base mask : Nat) (s : State) : State :=
  s.setNtu { s.ntu with base := some base, mask := mask, released := true }

theorem noticeSetup_taken (h1 : 1 ≤ base) (h15 : base ≤ 15) (h7 : mask ≤ 7) : noticeSetup base mask s =
    ok (s.setUp base mask) (u8 base ++ u8 mask ++ u8 1 ++ u8 s.ntu.pendingCount) :=
  if_neg (by omega)

theorem noticeSetup_refused (h : base = 0 ∨ 15 < base ∨ 7 < mask) : noticeSetup base mask s = deny .badField :=
  if_pos (by omega)

end

/-- The pick is a member that is before all those ahead of it in the list and that none after it is before. -/
theorem firstLeast_append_cons {α : Type} {before : α → α → Bool} {ahead after : List α} {x : α}
    (hahead : ∀ y ∈ ahead, before x y = true) (hafter : ∀ y ∈ after, before y x = false) :
    firstLeast before (ahead ++ x :: after) = some x := by
  have stays (zs : List α) (hzs : ∀ y ∈ zs, before y x = false) :
      zs.foldl (fun best y => if before y best then y else best) x = x := by
    induction zs with
    | nil => rfl
    | cons z zs ih =>
      obtain ⟨hz, hzs⟩ := List.forall_mem_cons.1 hzs
      rw [List.foldl_cons, if_neg (by simp [hz]), ih hzs]
  cases ahead with
  | nil => exact congrArg some (stays after hafter)
  | cons y ys =>
    have pick : firstLeast before (y :: ys) =
        some (ys.foldl (fun best z => if before z best then z else best) y) := rfl
    have beaten := hahead _ (mem_of_firstLeast pick)
    simp only [List.cons_append, firstLeast, List.foldl_append, List.foldl_cons, if_pos beaten, stays after hafter]

/-- The pick of a list in which every member ahead of it is worse and none is better. -/
theorem firstLeast_eq_some_of_pairwise {α : Type} {before : α → α → Bool} {r : α → α → Prop} {l : List α} {x : α}
    (hl : l.Pairwise r) (hx : x ∈ l) (ahead : ∀ y ∈ l, r y x → before x y = true)
    (least : ∀ y ∈ l, before y x = false) : firstLeast before l = some x := by
  obtain ⟨front, rest, rfl⟩ := List.append_of_mem hx
  obtain ⟨-, -, order⟩ := List.pairwise_append.1 hl
  exact firstLeast_append_cons
    (fun y hy => ahead y (List.mem_append_left _ hy) (order y hy x List.mem_cons_self))
    (fun y hy => least y (List.mem_append_right _ (List.mem_cons_of_mem x hy)))

/-- The pending sources, each with its place. -/
def Ntu.waiting (t : Ntu) : List (Source × Nat) := t.sources.zipIdx.filter (fun p => p.1.pending)

/-- A TAKE picks among the pending sources (08 R166). -/
theorem Ntu.chosen_eq (t : Ntu) : t.chosen =
    (firstLeast (fun a b => decide (b.1.level < a.1.level)) t.waiting).map (fun p => (p.2 + 1, p.1)) := rfl

theorem Ntu.waiting_pairwise (t : Ntu) : t.waiting.Pairwise (fun a b => a.2 < b.2) := by
  refine List.Pairwise.filter _ (List.pairwise_map.1 ?_)
  rw [List.zipIdx_map_snd]
  exact List.pairwise_lt_range'

theorem State.mem_waiting {s : State} {p : Source × Nat} (h : p ∈ s.ntu.waiting) :
    p.2 < s.ntu.sources.length ∧ s.source (p.2 + 1) = p.1 ∧ p.1.pending = true := by
  obtain ⟨mem, pending⟩ := List.mem_filter.1 h
  have place := List.mem_zipIdx_iff_getElem?.1 mem
  obtain ⟨lt, -⟩ := List.getElem?_eq_some_iff.1 place
  exact ⟨lt, State.getElem?_sources_eq_some place, pending⟩

theorem State.mem_waiting_of_pending {s : State} {n : Nat} (h : n - 1 < s.ntu.sources.length)
    (hn : (s.source n).pending = true) : (s.source n, n - 1) ∈ s.ntu.waiting := by
  refine List.mem_filter.2 ⟨List.mem_zipIdx_iff_getElem?.2 ?_, hn⟩
  rw [State.source_eq_getElem h]
  exact List.getElem?_eq_getElem h

/-- A TAKE chooses the pending source of the highest level, the lowest number among equals (08 R166). -/
theorem State.chosen_eq_some {s : State} {n : Nat} (hlen : s.ntu.sources.length = 12) (h1 : 1 ≤ n) (h12 : n ≤ 12)
    (hn : (s.source n).pending = true)
    (first : ∀ j, 1 ≤ j → j ≤ 12 → (s.source j).pending = true →
      (s.source j).level < (s.source n).level ∨ ((s.source j).level = (s.source n).level ∧ n ≤ j)) :
    s.ntu.chosen = some (n, s.source n) := by
  have ranked : ∀ p ∈ s.ntu.waiting,
      p.1.level < (s.source n).level ∨ (p.1.level = (s.source n).level ∧ n ≤ p.2 + 1) := by
    intro p hp
    obtain ⟨lt, source, pending⟩ := State.mem_waiting hp
    have rank := first (p.2 + 1) (by omega) (by omega) (by rwa [source])
    rwa [source] at rank
  have pick : firstLeast (fun a b => decide (b.1.level < a.1.level)) s.ntu.waiting = some (s.source n, n - 1) := by
    refine firstLeast_eq_some_of_pairwise s.ntu.waiting_pairwise (State.mem_waiting_of_pending (by omega) hn)
      (fun p hp ahead => decide_eq_true ?_) (fun p hp => decide_eq_false ?_)
    · have := ranked p hp
      dsimp only at ahead ⊢
      omega
    · have := ranked p hp
      dsimp only
      omega
  rw [Ntu.chosen_eq, pick, Option.map_some, Nat.sub_add_cancel h1]

theorem State.chosen_eq_none {s : State} (hlen : s.ntu.sources.length = 12)
    (h : ∀ j, 1 ≤ j → j ≤ 12 → (s.source j).pending = false) : s.ntu.chosen = none := by
  refine Option.map_eq_none_iff.2 (firstLeast_eq_none.2 (List.eq_nil_iff_forall_not_mem.2 fun p hp => ?_))
  obtain ⟨lt, source, pending⟩ := State.mem_waiting hp
  rw [← source, h (p.2 + 1) (by omega) (by omega)] at pending
  cases pending

/-- A pending source cleared is one fewer pending (08 R166). -/
theorem State.pendingCount_setSource {s : State} {n : Nat} (level : Nat) (h : n - 1 < s.ntu.sources.length)
    (hn : (s.source n).pending = true) :
    (s.setSource n (Source.cleared level)).ntu.pendingCount = s.ntu.pendingCount - 1 := by
  rw [State.source_eq_getElem h] at hn
  simp [Ntu.pendingCount, State.setSource, ← List.countP_eq_length_filter, List.countP_set, h, hn, Source.cleared]

theorem noticeTake_taken {s : State} {n : Nat} (hlen : n - 1 < s.ntu.sources.length) (hn : (s.source n).pending = true)
    (h : s.ntu.chosen = some (n, s.source n)) : noticeTake s =
    ok (s.setSource n (Source.cleared (s.source n).level))
      (u8 (s.ntu.base.getD 0 * 16 + n) ++ u8 (s.source n).count ++ u8 (s.ntu.pendingCount - 1) ++
        detailBytes (s.source n).detail) := by
  simp only [noticeTake, h, State.pendingCount_setSource _ hlen hn]
  rfl

theorem noticeTake_empty {s : State} (h : s.ntu.chosen = none) :
    noticeTake s = ok s (u8 (s.ntu.base.getD 0 * 16) ++ List.replicate 10 0) := by
  simp only [noticeTake, h]
  rfl

/-- Settles O58, request by request. -/
theorem noticeRequests : Obligations.NoticeRequests := by
  intro s key hl hlen
  refine ⟨fun level presence h2 h12 h7 c kind hc => ?_, fun level presence h2 h12 hp => ?_,
    fun level presence c kind hc => ?_, fun base mask h1 h15 h7 => ?_, fun base mask h => ?_,
    fun n h1 h12 hn first => ?_, fun quiet => ?_⟩
  · obtain ⟨rfl, rfl⟩ | ⟨rfl, rfl, hp⟩ := hc
    · exact ⟨_, rfl, takeSource_answers hl hlen (by omega) h12 (putSource_taken h2 h12 h7)⟩
    · exact ⟨_, rfl, takeSource_answers hl hlen (by omega) h12 (amendSource_taken h2 h12 hp h7)⟩
  · exact ⟨_, rfl, request_reports hl (amendSource_unchanged h2 h12 hp)⟩
  · obtain ⟨rfl, rfl, h⟩ | ⟨rfl, rfl, h⟩ := hc
    · exact ⟨_, rfl, request_answers_refused hl (putSource_refused h)⟩
    · exact ⟨_, rfl, request_answers_refused hl (amendSource_refused h)⟩
  · have act := noticeSetup_taken (s := s.hearFrame) h1 h15 h7
    have frame : SameBut [.ntu] s.hearFrame (s.hearFrame.setUp base mask) := by simp [sameBut_iff, State.setUp]
    exact ⟨_, rfl, request_answers_calm hl act frame, (request_rest (kind := 0x33) (key := key) hl act).ntu⟩
  · exact ⟨_, rfl, request_answers_refused hl (noticeSetup_refused h)⟩
  · have place : n - 1 < s.hearFrame.ntu.sources.length := by
      rw [State.hearFrame_ntu]
      omega
    have act := noticeTake_taken (s := s.hearFrame) place hn (State.chosen_eq_some (s := s.hearFrame) hlen h1 h12 hn first)
    have ntu := (request_rest (kind := 0x34) (key := key) hl act).ntu
    refine ⟨_, rfl, request_answers_calm hl act (State.setSource_sameBut _ _ _), ?_, fun j hj hne => ?_, ?_⟩
    · exact (State.source_congr ntu n).trans (State.source_setSource_self _ place)
    · exact (State.source_congr ntu j).trans (State.source_setSource_of_ne _ h1 hj hne)
    · rw [ntu]
      rfl
  · exact ⟨_, rfl, request_reports hl (noticeTake_empty (State.chosen_eq_none (s := s.hearFrame) hlen quiet))⟩

end Sys2Proof.Machine
end

section
/-! SUPPORT. What an owning block may answer (09 R176), request by request: a request taken is OK or ACCEPTED, and a refusal
has a payload only with REASONS_ACTIVE. -/

namespace Sys2Proof.Machine

/-- The code is one of 09 R176 for what the block did, and the payload one that 10 R187 allows. -/
def Answer.Coded : Answer → Prop
  | .refuse st p => st ≠ .reasonsActive → p = []
  | .take _ st _ _ => st = .ok ∨ st = .accepted

@[simp] theorem coded_deny (st : Status) : (deny st).Coded := fun _ => rfl
@[simp] theorem coded_ok (t : State) (p : List Byte) : (ok t p).Coded := .inl rfl
@[simp] theorem coded_take_ok (t : State) (c : Bool) (p : List Byte) : (Answer.take t .ok c p).Coded := .inl rfl
@[simp] theorem coded_take_accepted (t : State) (c : Bool) (p : List Byte) : (Answer.take t .accepted c p).Coded := .inr rfl
@[simp] theorem coded_reasons (p : List Byte) : (Answer.refuse .reasonsActive p).Coded := fun h => absurd rfl h

variable (s : State)

/-! ### Position and guidance (01, 02) -/

theorem State.takeSegment_coded (key : Nat) (w : SegmentWire) : (s.takeSegment key w).Coded := by
  unfold State.takeSegment
  split <;> simp

theorem putSegment_coded (key : Nat) (w : SegmentWire) : (putSegment key w s).Coded := by
  unfold putSegment
  repeat' split
  all_goals simp [State.takeSegment_coded]

theorem amendSegment_coded (key presence : Nat) (w : SegmentWire) : (amendSegment key presence w s).Coded := by
  unfold amendSegment
  repeat' split
  all_goals simp [State.takeSegment_coded]

theorem retireSegment_coded (key : Nat) : (retireSegment key s).Coded := by
  unfold retireSegment
  repeat' split
  all_goals simp

theorem getSegment_coded (key : Nat) : (getSegment key s).Coded := by
  unfold getSegment
  repeat' split
  all_goals simp

theorem putAuthority_coded (key : Nat) (w : AuthorityWire) : (putAuthority key w s).Coded := by
  unfold putAuthority
  dsimp only
  repeat' split
  all_goals simp

theorem amendAuthority_coded (key presence : Nat) (w : AuthorityWire) : (amendAuthority key presence w s).Coded := by
  unfold amendAuthority
  repeat' split
  all_goals simp [putAuthority_coded]

theorem retireAuthority_coded (key : Nat) : (retireAuthority key s).Coded := by
  unfold retireAuthority
  repeat' split
  all_goals simp

theorem getAuthority_coded (key : Nat) : (getAuthority key s).Coded := by
  unfold getAuthority
  repeat' split
  all_goals simp

theorem listAuthority_coded (key : Nat) : (listAuthority key s).Coded := by
  unfold listAuthority
  split <;> simp

theorem placeVehicle_coded (segment position : Nat) : (placeVehicle segment position s).Coded := by
  unfold placeVehicle
  repeat' split
  all_goals simp

theorem hostYaw_coded (target : Int) : (hostYaw target s).Coded := by
  unfold hostYaw
  split <;> simp

/-! ### Restraints and motion (03, 04) -/

theorem putSeat_coded (key : Nat) (w : SeatWire) : (putSeat key w s).Coded := by
  unfold putSeat State.takeSeat
  repeat' split
  all_goals simp

theorem amendSeat_coded (key presence : Nat) (w : SeatWire) : (amendSeat key presence w s).Coded := by
  unfold amendSeat State.takeSeat
  dsimp only
  repeat' split
  all_goals simp

theorem getSeat_coded (key : Nat) : (getSeat key s).Coded := by
  unfold getSeat
  split <;> simp

theorem seatClear_coded (key : Nat) : (seatClear key s).Coded := by
  unfold seatClear
  repeat' split
  all_goals simp

theorem releasePermit_coded (mask : Nat) : (releasePermit mask s).Coded := by
  unfold releasePermit
  repeat' split
  all_goals simp

theorem releaseImmediate_coded (mask : Nat) : (releaseImmediate mask s).Coded := by
  unfold releaseImmediate
  repeat' split
  all_goals simp

theorem enableVehicle_coded : (enableVehicle s).Coded := by
  unfold enableVehicle
  split <;> simp

theorem parkVehicle_coded : (parkVehicle s).Coded := by
  unfold parkVehicle
  split <;> simp

theorem startVehicle_coded : (startVehicle s).Coded := by
  unfold startVehicle
  repeat' split
  all_goals simp

theorem stopVehicle_coded : (stopVehicle s).Coded := by
  unfold stopVehicle
  split <;> simp

theorem resumeVehicle_coded : (resumeVehicle s).Coded := by
  unfold resumeVehicle
  dsimp only
  repeat' split
  all_goals simp

theorem skipDwell_coded : (skipDwell s).Coded := by
  unfold skipDwell
  split <;> simp

/-! ### Cues and effects (05) -/

theorem putCue_coded (key : Nat) (w : CueWire) : (putCue key w s).Coded := by
  unfold putCue
  repeat' split
  all_goals simp

theorem amendCue_coded (key presence : Nat) (w : CueWire) : (amendCue key presence w s).Coded := by
  unfold amendCue
  dsimp only
  repeat' split
  all_goals simp

theorem retireCue_coded (key : Nat) (force : Bool) : (retireCue key force s).Coded := by
  unfold retireCue
  repeat' split
  all_goals simp

theorem getCue_coded (key : Nat) : (getCue key s).Coded := by
  unfold getCue
  repeat' split
  all_goals simp

theorem rearmCue_coded (key : Nat) : (rearmCue key s).Coded := by
  unfold rearmCue
  repeat' split
  all_goals simp

theorem disarmCue_coded (key : Nat) : (disarmCue key s).Coded := by
  unfold disarmCue
  repeat' split
  all_goals simp

theorem getLine_coded (key : Nat) : (getLine key s).Coded := by
  unfold getLine
  dsimp only
  repeat' split
  all_goals simp

/-! ### Clips, flash and sound (06, 07) -/

theorem putClip_coded (key : Nat) (w : ClipWire) : (putClip key w s).Coded := by
  unfold putClip State.takeQueued
  repeat' split
  all_goals simp

theorem amendClip_coded (key presence : Nat) (w : ClipWire) : (amendClip key presence w s).Coded := by
  unfold amendClip State.takeQueued
  dsimp only
  repeat' split
  all_goals simp

theorem retireClip_coded (key : Nat) : (retireClip key s).Coded := by
  unfold retireClip
  repeat' split
  all_goals simp

theorem getClip_coded (key : Nat) : (getClip key s).Coded := by
  unfold getClip
  repeat' split
  all_goals simp

theorem State.acceptOp_coded (op : HostOpKind) (first last total : Nat) (data : List Byte) :
    (s.acceptOp op first last total data).Coded := by
  unfold State.acceptOp
  split <;> simp

theorem flashProgram_coded (addr : Nat) (data : List Byte) : (flashProgram addr data s).Coded := by
  unfold flashProgram
  split <;> simp [State.acceptOp_coded]

theorem flashErase_coded (addr sectors : Nat) : (flashErase addr sectors s).Coded := by
  unfold flashErase
  split <;> simp [State.acceptOp_coded]

theorem hostPlay_coded (w : PlayWire) : (hostPlay w s).Coded := by
  unfold hostPlay
  repeat' split
  all_goals simp

theorem hushVoice_coded (key : Nat) : (hushVoice key s).Coded := by
  unfold hushVoice
  repeat' split
  all_goals simp

theorem getVoice_coded (key : Nat) : (getVoice key s).Coded := by
  unfold getVoice
  split <;> simp

/-! ### Notices, settings and port (08, 09) -/

theorem putSource_coded (key level : Nat) : (putSource key level s).Coded := by
  unfold putSource State.takeSource
  split <;> simp

theorem amendSource_coded (key presence level : Nat) : (amendSource key presence level s).Coded := by
  unfold amendSource State.takeSource
  repeat' split
  all_goals simp

theorem getSource_coded (key : Nat) : (getSource key s).Coded := by
  unfold getSource
  split <;> simp

theorem noticeSetup_coded (base mask : Nat) : (noticeSetup base mask s).Coded := by
  unfold noticeSetup
  split <;> simp

theorem noticeTake_coded : (noticeTake s).Coded := by
  unfold noticeTake
  split <;> simp

theorem State.takeSettings_coded (ws : List Nat) : (s.takeSettings ws).Coded := by
  unfold State.takeSettings
  dsimp only
  repeat' split
  all_goals simp

theorem putSettings_coded (key : Nat) (ws : List Nat) : (putSettings key ws s).Coded := by
  unfold putSettings
  repeat' split
  all_goals simp [State.takeSettings_coded]

theorem amendSettings_coded (key presence : Nat) (ws : List Nat) : (amendSettings key presence ws s).Coded := by
  unfold amendSettings
  repeat' split
  all_goals simp [State.takeSettings_coded]

theorem getSettings_coded (key : Nat) : (getSettings key s).Coded := by
  unfold getSettings
  split <;> simp

theorem softReset_coded : (softReset s).Coded := by
  unfold softReset
  split <;> simp

end Sys2Proof.Machine
end

section
/-! SUPPORT. What a request leaves of the port and of the link's records in MSV (09 R173, R175, 04 R88), and every request frame
as a request with an answer of 09 R176. -/

namespace Sys2Proof.Machine

/-! ### The link's records -/

/-- What no request taken undoes of a good frame's arrival: of the port only the reset cause may have changed, the link expiry
stands and LINK_LOST has not joined the set. -/
structure State.KeepsLink (s t : State) : Prop where
  port : t.port = { s.port with cause := t.port.cause }
  expiry : t.msv.linkExpiry = s.msv.linkExpiry
  lost : .linkLost ∈ t.msv.reasons → .linkLost ∈ s.msv.reasons

namespace State.KeepsLink

variable {s t u : State}

theorem of_frame {bs : List Block} (h : SameBut bs s t) (hp : .port ∉ bs := by decide) (hm : .msv ∉ bs := by decide) :
    s.KeepsLink t := by
  constructor <;> simp [h.port hp, h.msv hm]

theorem trans (h : s.KeepsLink t) (h' : t.KeepsLink u) : s.KeepsLink u :=
  ⟨by rw [h'.port, h.port], h'.expiry.trans h.expiry, h.lost ∘ h'.lost⟩

end State.KeepsLink

theorem Answer.Leaves.keepsLink {s : State} {a : Answer} {bs : List Block} (h : a.Leaves (SameBut bs s))
    (hp : .port ∉ bs := by decide) (hm : .msv ∉ bs := by decide) : a.Leaves s.KeepsLink :=
  h.imp fun _ ht => .of_frame ht hp hm

theorem State.addReason_linkExpiry (s : State) (r : StopReason) : (s.addReason r).msv.linkExpiry = s.msv.linkExpiry := by
  obtain ⟨-, e⟩ | ⟨-, -, -, e⟩ | ⟨-, -, -, -, e⟩ | ⟨-, -, -, e | e⟩ | ⟨-, -, -, -, e⟩ := s.addReason_cases r
  all_goals simp [e]

/-- Only the link's silence adds LINK_LOST (04 R88). -/
theorem State.addReason_keepsLink (s : State) {r : StopReason} (hr : r ≠ .linkLost) : s.KeepsLink (s.addReason r) where
  port := by rw [State.addReason_port]
  expiry := s.addReason_linkExpiry r
  lost h := ((s.mem_addReason r _).1 h).resolve_left (Ne.symm hr)

/-- Stop reasons and dwells leave the link expiry. -/
theorem linkExpiry_closed : MotionClosed (fun s t => t.msv.linkExpiry = s.msv.linkExpiry) where
  trans h h' := h'.trans h
  calm hm _ _ := by rw [hm]
  join := State.addReason_linkExpiry
  leave _ _ := rfl
  dwell h := by
    unfold State.requestDwell at h
    split at h <;> cases h <;> rfl

theorem State.evaluate_keepsLink (s : State) (moved : Bool) : s.KeepsLink (s.evaluate moved) where
  port := by rw [(s.evaluate_sameBut moved).port]
  expiry := linkExpiry_closed.cueClosed.evaluate moved s
  lost h := (s.evaluate_cueStep moved).reasons ▸ h

/-! ### The requests that change MSV -/

theorem State.placeAt_keepsLink (s : State) (g position : Nat) : s.KeepsLink (s.placeAt g position) := by
  refine State.KeepsLink.trans ?_ (State.evaluate_keepsLink _ true)
  exact ⟨rfl, rfl, fun h => (List.mem_filter.1 h).1⟩

theorem placeVehicle_keepsLink (segment position : Nat) (s : State) :
    (placeVehicle segment position s).Leaves s.KeepsLink := by
  unfold placeVehicle
  repeat' split
  all_goals simp [State.placeAt_keepsLink]

theorem State.overrunCheck_keepsLink (s : State) : s.KeepsLink s.overrunCheck := by
  unfold State.overrunCheck
  split
  · exact s.addReason_keepsLink (by decide)
  · exact ⟨rfl, rfl, id⟩

theorem State.grantAuthority_keepsLink (s : State) (u : Authority) (path : List Nat) :
    s.KeepsLink (s.grantAuthority u path) := by
  have stored : s.KeepsLink (s.storeAuthority u path) := ⟨rfl, rfl, id⟩
  have checked := stored.trans (State.overrunCheck_keepsLink _)
  unfold State.grantAuthority
  dsimp only
  split
  · exact checked.trans ⟨rfl, rfl, id⟩
  · exact checked

theorem putAuthority_keepsLink (key : Nat) (w : AuthorityWire) (s : State) :
    (putAuthority key w s).Leaves s.KeepsLink := by
  unfold putAuthority
  dsimp only
  repeat' split
  all_goals simp [State.grantAuthority_keepsLink]

theorem amendAuthority_keepsLink (key presence : Nat) (w : AuthorityWire) (s : State) :
    (amendAuthority key presence w s).Leaves s.KeepsLink := by
  unfold amendAuthority
  split
  · trivial
  · split
    · split
      · trivial
      · exact ⟨rfl, rfl, id⟩
    · exact putAuthority_keepsLink key _ s

theorem retireAuthority_keepsLink (key : Nat) (s : State) : (retireAuthority key s).Leaves s.KeepsLink := by
  unfold retireAuthority
  have dropped : s.KeepsLink s.dropAuthority := ⟨rfl, rfl, id⟩
  repeat' split
  · trivial
  · trivial
  · exact dropped.trans (State.overrunCheck_keepsLink _)

theorem State.takeSettings_keepsLink (ws : List Nat) (s : State) : (s.takeSettings ws).Leaves s.KeepsLink := by
  have stored (t : Settings) : s.KeepsLink (s.storeSettings t) := by
    obtain ⟨n, e⟩ := s.storeSettings_msv t
    constructor <;> simp [e, (s.storeSettings_sameBut t).port]
  unfold State.takeSettings
  dsimp only
  split
  · trivial
  · split
    · trivial
    · exact stored _

theorem putSettings_keepsLink (key : Nat) (ws : List Nat) (s : State) : (putSettings key ws s).Leaves s.KeepsLink := by
  unfold putSettings
  repeat' split
  all_goals simp [State.takeSettings_keepsLink]

theorem amendSettings_keepsLink (key presence : Nat) (ws : List Nat) (s : State) :
    (amendSettings key presence ws s).Leaves s.KeepsLink := by
  unfold amendSettings
  repeat' split
  · trivial
  · trivial
  · exact ⟨rfl, rfl, id⟩
  · exact s.takeSettings_keepsLink _

theorem enableVehicle_keepsLink (s : State) : (enableVehicle s).Leaves s.KeepsLink := by
  unfold enableVehicle
  split
  · trivial
  · dsimp only [leaves_ok]
    split
    · exact ⟨rfl, rfl, id⟩
    · constructor <;> simp

theorem State.withdrawPermit_keepsLink (s : State) : s.KeepsLink s.withdrawPermit := .of_frame s.withdrawPermit_sameBut

theorem parkVehicle_keepsLink (s : State) : (parkVehicle s).Leaves s.KeepsLink := by
  unfold parkVehicle
  split
  · refine State.KeepsLink.trans ?_ (State.withdrawPermit_keepsLink _)
    exact ⟨rfl, rfl, id⟩
  · trivial

theorem startVehicle_keepsLink (s : State) : (startVehicle s).Leaves s.KeepsLink := by
  unfold startVehicle
  repeat' split
  · trivial
  · trivial
  · trivial
  · trivial
  · refine State.KeepsLink.trans ?_ (State.withdrawPermit_keepsLink _)
    exact ⟨rfl, rfl, fun h => (List.mem_filter.1 h).1⟩

theorem stopVehicle_keepsLink (s : State) : (stopVehicle s).Leaves s.KeepsLink := by
  unfold stopVehicle
  split
  · trivial
  · exact s.addReason_keepsLink (by decide)

theorem estopVehicle_keepsLink (s : State) : (estopVehicle s).Leaves s.KeepsLink := s.addReason_keepsLink (by decide)

theorem resumeVehicle_keepsLink (s : State) : (resumeVehicle s).Leaves s.KeepsLink := by
  unfold resumeVehicle
  dsimp only
  repeat' split
  · trivial
  · trivial
  · trivial
  · exact ⟨rfl, rfl, fun h => (List.mem_filter.1 h).1⟩

theorem skipDwell_keepsLink (s : State) : (skipDwell s).Leaves s.KeepsLink := by
  unfold skipDwell
  split
  · trivial
  · exact ⟨rfl, rfl, id⟩

theorem softReset_keepsLink (s : State) : (softReset s).Leaves s.KeepsLink := by
  unfold softReset
  split
  · exact ⟨rfl, rfl, fun h => absurd h List.not_mem_nil⟩
  · trivial

/-! ### Every request frame -/

/-- The command is a request with this kind and key, whose block answers as 09 R176 has it and leaves the link's records. -/
def Requests (kind key : Nat) (run : State → Result) : Prop :=
  ∃ act : State → Answer, (∀ s, run s = .next (request kind key act s)) ∧
    ∀ u, (act u).Coded ∧ (act u).Leaves u.KeepsLink

theorem requests_of {kind key : Nat} {act : State → Answer} (coded : ∀ u, (act u).Coded)
    (link : ∀ u, (act u).Leaves u.KeepsLink) : Requests kind key (fun s => .next (request kind key act s)) :=
  ⟨act, fun _ => rfl, fun u => ⟨coded u, link u⟩⟩

/-- A request whose block changes neither the port nor MSV. -/
theorem requests_of_frame {kind key : Nat} {act : State → Answer} {bs : List Block} (coded : ∀ u, (act u).Coded)
    (frame : ∀ u, (act u).Leaves (SameBut bs u)) (hp : .port ∉ bs := by decide) (hm : .msv ∉ bs := by decide) :
    Requests kind key (fun s => .next (request kind key act s)) :=
  requests_of coded fun u => (frame u).keepsLink hp hm

/-- A request that only reports. -/
theorem requests_of_ok {kind key : Nat} {f : State → List Byte} :
    Requests kind key (fun s => .next (request kind key (fun t => ok t (f t)) s)) :=
  requests_of_frame (fun _ => coded_ok _ _) fun u => ok_frame u _

/-- Every request frame but a FLASH_READ is such a request (09 R176). -/
theorem exec_requests {c : Instr} {kind key : Nat} (hc : c.frame = some (kind, key)) (hf : ∀ k a n, c ≠ .flashRead k a n) :
    Requests kind key (exec c) := by
  cases c <;> cases hc
  case putSegment => exact requests_of_frame (putSegment_coded · _ _) (putSegment_frame · _ _)
  case amendSegment => exact requests_of_frame (amendSegment_coded · _ _ _) (amendSegment_frame · _ _ _)
  case retireSegment => exact requests_of_frame (retireSegment_coded · _) (retireSegment_frame · _)
  case getSegment => exact requests_of_frame (getSegment_coded · _) (getSegment_frame · _)
  case putAuthority => exact requests_of (putAuthority_coded · _ _) (putAuthority_keepsLink _ _)
  case amendAuthority => exact requests_of (amendAuthority_coded · _ _ _) (amendAuthority_keepsLink _ _ _)
  case retireAuthority => exact requests_of (retireAuthority_coded · _) (retireAuthority_keepsLink _)
  case getAuthority => exact requests_of_frame (getAuthority_coded · _) (getAuthority_frame · _)
  case listAuthority => exact requests_of_frame (listAuthority_coded · _) (listAuthority_frame · _)
  case putSeat => exact requests_of_frame (putSeat_coded · _ _) (putSeat_frame · _ _)
  case amendSeat => exact requests_of_frame (amendSeat_coded · _ _ _) (amendSeat_frame · _ _ _)
  case getSeat => exact requests_of_frame (getSeat_coded · _) (getSeat_frame · _)
  case putCue => exact requests_of_frame (putCue_coded · _ _) (putCue_frame · _ _)
  case amendCue => exact requests_of_frame (amendCue_coded · _ _ _) (amendCue_frame · _ _ _)
  case retireCue | retireCueForce => exact requests_of_frame (retireCue_coded · _ _) (retireCue_frame · _ _)
  case getCue => exact requests_of_frame (getCue_coded · _) (getCue_frame · _)
  case putClip => exact requests_of_frame (putClip_coded · _ _) (putClip_frame · _ _)
  case amendClip => exact requests_of_frame (amendClip_coded · _ _ _) (amendClip_frame · _ _ _)
  case retireClip => exact requests_of_frame (retireClip_coded · _) (retireClip_frame · _)
  case getClip => exact requests_of_frame (getClip_coded · _) (getClip_frame · _)
  case putSource => exact requests_of_frame (putSource_coded · _ _) (putSource_frame · _ _)
  case amendSource => exact requests_of_frame (amendSource_coded · _ _ _) (amendSource_frame · _ _ _)
  case getSource => exact requests_of_frame (getSource_coded · _) (getSource_frame · _)
  case putSettings => exact requests_of (putSettings_coded · _ _) (putSettings_keepsLink _ _)
  case amendSettings => exact requests_of (amendSettings_coded · _ _ _) (amendSettings_keepsLink _ _ _)
  case getSettings => exact requests_of_frame (getSettings_coded · _) (getSettings_frame · _)
  case getVoice => exact requests_of_frame (getVoice_coded · _) (getVoice_frame · _)
  case getLine => exact requests_of_frame (getLine_coded · _) (getLine_frame · _)
  case listSegment | listSeat | listCue | listClip | listSource | listSettings | listVoice | listLine =>
    exact requests_of_ok
  case enable => exact requests_of enableVehicle_coded enableVehicle_keepsLink
  case park => exact requests_of parkVehicle_coded parkVehicle_keepsLink
  case place => exact requests_of (placeVehicle_coded · _ _) (placeVehicle_keepsLink _ _)
  case start => exact requests_of startVehicle_coded startVehicle_keepsLink
  case stop => exact requests_of stopVehicle_coded stopVehicle_keepsLink
  case estop => exact requests_of (fun _ => coded_ok _ _) estopVehicle_keepsLink
  case resume => exact requests_of resumeVehicle_coded resumeVehicle_keepsLink
  case skipDwell => exact requests_of skipDwell_coded skipDwell_keepsLink
  case yaw => exact requests_of_frame (hostYaw_coded · _) (hostYaw_frame · _)
  case release => exact requests_of_frame (releasePermit_coded · _) (releasePermit_frame · _)
  case releaseImmediate => exact requests_of_frame (releaseImmediate_coded · _) (releaseImmediate_frame · _)
  case seatClear => exact requests_of_frame (seatClear_coded · _) (seatClear_frame · _)
  case rearm => exact requests_of_frame (rearmCue_coded · _) (rearmCue_frame · _)
  case rearmAll => exact requests_of_frame (fun _ => coded_ok _ _) rearmAllCues_frame
  case disarm => exact requests_of_frame (disarmCue_coded · _) (disarmCue_frame · _)
  case play => exact requests_of_frame (hostPlay_coded · _) (hostPlay_frame · _)
  case hush => exact requests_of_frame (hushVoice_coded · _) (hushVoice_frame · _)
  case hushAll => exact requests_of_frame (fun _ => coded_ok _ _) hushAll_frame
  case master => exact requests_of_frame (fun _ => coded_take_ok _ _ _) (hostMaster_frame · _)
  case flashRead => exact absurd rfl (hf _ _ _)
  case flashProgram => exact requests_of_frame (flashProgram_coded · _ _) (flashProgram_frame · _ _)
  case flashErase => exact requests_of_frame (flashErase_coded · _ _) (flashErase_frame · _ _)
  case noticeSetup => exact requests_of_frame (noticeSetup_coded · _ _) (noticeSetup_frame · _ _)
  case noticeTake => exact requests_of_frame noticeTake_coded noticeTake_frame
  case status => exact requests_of_frame (fun _ => coded_ok _ _) hostStatus_frame
  case softReset => exact requests_of softReset_coded softReset_keepsLink

end Sys2Proof.Machine
end

section
/-! PROOFS. The request port (09 §9.1, §9.2): every request answered, the refusals, overruns and failing frames. -/

namespace Sys2Proof.Machine

/-! ### Requests taken and refused -/

/-- Settles O8: the frame's arrival records the link, the block's answer keeps it, and the response is held. -/
theorem everyRequestAnswered : Obligations.EveryRequestAnswered := by
  intro c s kind key hc hl hf
  obtain ⟨act, run, sound⟩ := exec_requests hc hf
  have heard : .linkLost ∉ s.hearFrame.msv.reasons := by simp
  cases ha : act s.hearFrame with
  | refuse st p =>
    refine ⟨_, _, (run s).trans (congrArg _ (request_refuse hl.1 hl.2 ha)), rfl, rfl, rfl, rfl, rfl, rfl, rfl, rfl, heard,
      fun _ => rfl⟩
  | take u st clamped p =>
    have link : s.hearFrame.KeepsLink u := by simpa [ha] using (sound s.hearFrame).2
    have overrun : u.port.overrun = s.port.overrun := by rw [link.port]; rfl
    have lastLink : u.port.lastLink = s.now := by rw [link.port]; rfl
    have quiet : u.port.spiOut = [] := by rw [link.port]; rfl
    exact ⟨_, _, (run s).trans (congrArg _ (request_take hl.1 hl.2 ha)), rfl, rfl, rfl, overrun, rfl, rfl, lastLink,
      link.expiry, heard ∘ link.lost, fun i => congrArg (·.getD i 0) quiet⟩

/-- A FLASH_READ that a check refuses (06 R135). -/
theorem flashRead_refused {s : State} {addr len : Nat} {st : Status} (key : Nat) (hl : s.listening)
    (hb : s.hearFrame.readBar addr len = some st) :
    flashRead key addr len s = s.hearFrame.respond 0x30 key st false false [] := by
  simp [flashRead, hl.1, hl.2, hb]

/-- The answer that a refusal leaves (09 R173, R175, 10 R187). -/
theorem State.hearFrame_refuses (s : State) (kind key : Nat) (st : Status) (p : List Byte) :
    Answers s (s.hearFrame.respond kind key st false false p) [] st kind key false false p :=
  ⟨rfl, fun _ => rfl, (s.hearFrame_sameBut.mono (by simp)).trans ((State.respond_sameBut _ _ _ _ _ _ _).mono (by simp))⟩

/-- Settles O9: a request taken is OK or ACCEPTED, so the answer is a refusal, which leaves what the frame's arrival left; a
FLASH_READ refused is the same, and one taken holds no response. -/
theorem refusedRequestChangesNothing : Obligations.RefusedRequestChangesNothing := by
  intro c s t r kind key hc hl ht hr hok hacc
  by_cases hf : ∃ k a n, c = .flashRead k a n
  · obtain ⟨k, a, n, rfl⟩ := hf
    cases hc
    cases ht
    cases hb : s.hearFrame.readBar a n with
    | none => simp [flashRead_waits key hl hb] at hr
    | some st =>
      rw [flashRead_refused key hl hb] at hr ⊢
      cases hr
      exact ⟨s.hearFrame_refuses 0x30 key st [], fun _ => rfl⟩
  · obtain ⟨act, run, sound⟩ := exec_requests hc fun k a n e => hf ⟨k, a, n, e⟩
    rw [run s] at ht
    cases ht
    have coded := (sound s.hearFrame).1
    cases ha : act s.hearFrame with
    | refuse st p =>
      rw [request_refuse hl.1 hl.2 ha] at hr
      rw [ha] at coded
      cases hr
      exact ⟨request_answers_refused hl ha, coded⟩
    | take u st clamped p =>
      rw [request_take hl.1 hl.2 ha] at hr
      rw [ha] at coded
      cases hr
      exact absurd coded (not_or.2 ⟨hok, hacc⟩)

/-! ### Overruns and frames that fail their checks -/

/-- A request frame is ignored in a reset, and discarded in BUILDING (09 R172, R173). -/
theorem exec_unheard {c : Instr} {s : State} (hc : c.frame ≠ none) (hl : ¬s.listening) :
    exec c s = .next (if s.inReset then s else s.overrunFrame) := by
  have hb : s.inReset = false → s.port.building = true := fun hr => by simpa [State.listening, hr] using hl
  by_cases hf : ∃ k a n, c = .flashRead k a n
  · obtain ⟨k, a, n, rfl⟩ := hf
    refine congrArg Host.Outcome.next ?_
    cases hr : s.inReset <;> simp [flashRead, hr, hb]
  · obtain ⟨⟨kind, key⟩, hk⟩ := Option.ne_none_iff_exists'.1 hc
    obtain ⟨act, run, -⟩ := exec_requests hk fun k a n e => hf ⟨k, a, n, e⟩
    refine (run s).trans (congrArg Host.Outcome.next ?_)
    cases hr : s.inReset <;> simp [request, hr, hb]

theorem isFrame_cons {b : Byte} (bs : List Byte) (hb : b ≠ 0) : isFrame (b :: bs) = true := decide_eq_true hb

/-- A failing frame in BUILDING is an overrun too (09 R173). -/
theorem frameCheckFailure_of_building {b : Byte} {bs : List Byte} {s : State} (h : b ≠ 0) (hb : s.port.building = true) :
    frameCheckFailure (b :: bs) s = s.overrunFrame := by
  simp [frameCheckFailure, isFrame_cons bs h, hb]

theorem frameCheckFailure_of_idle {b : Byte} {bs : List Byte} {s : State} (h : b ≠ 0) (hb : s.port.building = false) :
    frameCheckFailure (b :: bs) s = s.failFrame (b :: bs) := by
  simp [frameCheckFailure, isFrame_cons bs h, hb]

/-- A frame refused from the kind check on (09 R175). -/
theorem State.hearFrame_refuseFrame (s : State) (bs : List Byte) (st : Status) :
    Answers s (s.hearFrame.refuseFrame bs st) [] st (bs.getD 0 0).toNat (bs.getD 2 0).toNat false false [] :=
  s.hearFrame_refuses _ _ st []

/-- Settles O10: each way a frame comes in BUILDING is the overrun, and in IDLE the verdict's branch answers. -/
theorem failingFramesAnswered : Obligations.FailingFramesAnswered := by
  constructor
  · intro c s hr hc
    have overruns : exec c s = .next s.overrunFrame := by
      obtain ⟨hframe | ⟨b, bs, rfl, h⟩, hb⟩ | rfl := hc
      · rw [exec_unheard hframe fun hl => by simp [hl.2] at hb, hr]
        rfl
      · exact congrArg Host.Outcome.next ((event_of_running hr).trans (frameCheckFailure_of_building h hb))
      · exact congrArg Host.Outcome.next (event_of_running hr)
    exact ⟨_, overruns, s.overrunFrame_sameBut, rfl, rfl⟩
  · intro b bs s hl hb
    have fails {t : State} (h : s.failFrame (b :: bs) = t) : exec (.frameCheckFailure (b :: bs)) s = .next t :=
      congrArg Host.Outcome.next
        (((event_of_running hl.1).trans (frameCheckFailure_of_idle hb hl.2)).trans h)
    refine ⟨fun h => fails ?_, fun h => fails ?_, fun h => ⟨_, fails ?_, s.hearFrame_refuseFrame (b :: bs) .badKind⟩,
      fun h => ⟨_, fails ?_, s.hearFrame_refuseFrame (b :: bs) .badClass⟩,
      fun h => ⟨_, fails ?_, s.hearFrame_refuseFrame (b :: bs) .badLength⟩, fun h => if_pos (.inl h)⟩
    all_goals simp only [State.failFrame, h]
    · rfl
    · rfl

end Sys2Proof.Machine
end

section
/-! PROOFS. FETCH (09 R174), STATUS (09 R179) and a reset's hold of the part (09 R180, R181). -/

namespace Sys2Proof.Machine

/-! ### Lengths on the wire (10 R185) -/

@[simp] theorem u8_length (n : Nat) : (u8 n).length = 1 := rfl
@[simp] theorem u16_length (n : Nat) : (u16 n).length = 2 := rfl
@[simp] theorem u32_length (n : Nat) : (u32 n).length = 4 := rfl
@[simp] theorem s16_length (x : Int) : (s16 x).length = 2 := rfl

/-- A response frame is six bytes, its payload and the CRC (10 Table 10-1). -/
theorem Response.bytes_length (r : Response) : r.bytes.length = 8 + r.payload.length := by
  simp only [Response.bytes, List.length_append, u8_length, u16_length]
  omega

/-! ### FETCH -/

theorem padTo_length (n : Nat) (bs : List Byte) : (padTo n bs).length = n := by
  simp only [padTo, List.length_append, List.length_take, List.length_replicate]
  omega

/-- The bytes clocked out are the frame's, 00h beyond its end (09 R174). -/
theorem padTo_getD {i n : Nat} (bs : List Byte) (hi : i < n) : (padTo n bs).getD i 0 = bs.getD i 0 := by
  simp only [padTo, List.getD_eq_getElem?_getD, List.getElem?_append, List.length_take, List.getElem?_take_of_lt hi]
  split
  · rfl
  · rename_i beyond
    have past : bs.length ≤ i := by omega
    have padding : i - min n bs.length < n - bs.length := by omega
    simp [past, padding]

/-- The port after a FETCH: the data line driven, and the response consumed when it was clocked out whole (09 R174). -/
theorem fetchTransfer_port (n : Nat) (s : State) : (fetchTransfer (n + 1) s).port =
    { s.port with
      held := if s.fetchFrame.length ≤ n then none else s.port.held
      spiOut := padTo n s.fetchFrame } := by
  simp only [fetchTransfer, Nat.add_sub_cancel]
  rw [if_neg (Nat.succ_ne_zero n)]
  split <;> rfl

/-- Settles O11: the port after the transfer, with the frame of the held response or of NO_RESPONSE. -/
theorem fetchClocksResponse : Obligations.FetchClocksResponse := by
  intro n s hr
  have port := fetchTransfer_port n s
  have clocked (i : Nat) (hi : i < n) : (fetchTransfer (n + 1) s).spiByte i = s.fetchFrame.getD i 0 := by
    rw [State.spiByte, port]
    exact padTo_getD _ hi
  refine ⟨_, congrArg Host.Outcome.next (event_of_running hr), fetchTransfer_sameBut s _, ?_, fun r hheld => ?_,
    fun hnone => ?_⟩
  · rw [port]
    exact padTo_length n _
  · have frame : s.fetchFrame = r.bytes := by simp [State.fetchFrame, hheld]
    rw [port, frame, r.bytes_length, hheld]
    refine ⟨fun i hi => frame ▸ clocked i hi, fun hn => ?_, fun hn => ?_⟩
    · rw [if_neg (Nat.not_le.2 hn), ← hheld]
    · rw [if_pos hn]
  · have frame : s.fetchFrame = Response.bytes ⟨.noResponse, 0, 0, false, false, s.port.overrun, []⟩ := by
      simp [State.fetchFrame, hnone]
    refine ⟨?_, fun i hi => frame ▸ clocked i hi⟩
    rw [port, hnone, ite_self, ← hnone]

/-! ### STATUS -/

/-- STATUS with a measured speed inside an s16 (10 Table 10-13). -/
theorem hostStatus_taken {s : State} (h : -32768 ≤ s.measuredSpeed ∧ s.measuredSpeed ≤ 32767) :
    hostStatus s =
      ok (s.setSnd { s.snd with clipFront := false, clipRear := false }) (s.statusBytes (s16 s.measuredSpeed)) := by
  have bytes : s.speedBytes = (s, s16 s.measuredSpeed) := if_pos h
  rw [hostStatus, bytes]

/-- The length of the snapshot in a state of the fixed table sizes (10 Table 10-13). -/
theorem State.statusBytes_length {s : State} (x : Int) (hseats : s.rsm.seats.length = 8) (hvoices : s.snd.voices.length = 6) :
    (s.statusBytes (s16 x)).length = 65 := by
  unfold State.statusBytes
  simp only [List.length_append, List.length_flatMap, u8_length, u16_length, u32_length, s16_length, List.map_const',
    List.sum_replicate_nat, hseats, hvoices]

/-- Settles O12. -/
theorem statusSnapshot : Obligations.StatusSnapshot := by
  intro s key hl h
  have taken : hostStatus s.hearFrame = ok _ (s.hearFrame.statusBytes (s16 s.measuredSpeed)) := hostStatus_taken h
  refine ⟨_, rfl, request_answers_calm hl taken (by simp [sameBut_iff]), ?_, fun hs => ?_⟩
  · rw [request_take hl.1 hl.2 taken]
    rfl
  · exact State.statusBytes_length _ hs.seats hs.voices

/-! ### A reset's hold -/

/-- No event of the part happens while a reset holds it (log 2). -/
theorem exec_event_of_inReset {c : Instr} {s : State} (hc : c.frame = none) (hk : c.isReset = false)
    (hr : s.inReset = true) : exec c s = .next s := by
  cases c
  case powerReset | pinReset | resetEnd => cases hk
  case verifyBurstComplete | refillComplete | flashReadComplete | hostStepComplete => exact if_pos hr
  case guidanceSample | odometerPulse | markerRead | guideWord | seatSample | holdComplete | permitExpiry
    | releasePulseEnd | estopInputCheck | linkExpiry | supplyReading | dwellExpiry | effectTick | effectPhaseEnd
    | beaconTxComplete | flashGrant | flashReadDeadline | flashUnitTimeout | outputSample | fadeMasterTick
    | voiceFadeEnd | frameOverrun | fetch | frameCheckFailure => exact congrArg Host.Outcome.next (if_pos hr)
  all_goals cases hc

/-- Settles O6: a request frame is not heard in a reset, and no event happens. -/
theorem resetHoldsCommandsAndEnds : Obligations.ResetHoldsCommandsAndEnds := by
  intro s hr
  refine ⟨fun c hpower hpin hend => ?_, fun hb => ⟨_, rfl, ?_, ?_⟩⟩
  · by_cases hc : c.frame = none
    · refine exec_event_of_inReset hc ?_ hr
      cases c
      case powerReset => exact absurd rfl (hpower _)
      case pinReset => exact absurd rfl (hpin _)
      case resetEnd => exact absurd rfl hend
      all_goals rfl
    · rw [exec_unheard hc fun hl => by simp [hl.1] at hr, if_pos hr]
  · simp [State.ready, resetEnd, hr, hb]
  · rw [resetEnd, if_pos hr]
    rfl

end Sys2Proof.Machine
end

section
/-! PROOFS. The settings record (09 §9.4): what a taken SETTINGS request stores and what the blocks do with it, and the commands
that keep the record. -/

namespace Sys2Proof.Machine

/-! ### A stored record (09 R178) -/

/-- The supply run restarts when its threshold or hysteresis changed (04 R89). -/
theorem State.msvSettings_eq (old : Settings) (s : State) : s.msvSettings old =
    s.setMsv { s.msv with
      supplyRun :=
        if s.settings.supplyThreshold = old.supplyThreshold ∧ s.settings.supplyHysteresis = old.supplyHysteresis
        then s.msv.supplyRun else 0 } := by
  unfold State.msvSettings
  split <;> rfl

/-- The load run restarts when its threshold or hysteresis changed, and m falls to a lower target (07 R157, R158). -/
theorem State.sndSettings_eq (old : Settings) (s : State) : s.sndSettings old =
    s.setSnd { s.snd with
      loadRun :=
        if s.settings.loadThreshold = old.loadThreshold ∧ s.settings.loadHysteresis = old.loadHysteresis
        then s.snd.loadRun else 0
      m := min s.snd.m s.masterTarget } := by
  unfold State.sndSettings
  split <;> rfl

/-- The record stored and acted on, unit by unit. -/
theorem State.storeSettings_stored (new : Settings) (s : State) :
    settingsStored new s (s.hearFrame.storeSettings new) := by
  unfold State.storeSettings
  rw [State.msvSettings_eq, State.sndSettings_eq]
  exact ⟨rfl, rfl, rfl, rfl⟩

theorem State.takeSettings_taken {ws : List Nat} {s : State} (hlen : ws.length = 26) (hstop : stopClipOk ws = true)
    (hyaw : (settingsOf ws).yawMin ≤ (settingsOf ws).yawMax) : s.takeSettings ws =
      .take (s.storeSettings (settingsOf ws)) .ok (decide ((settingsOf ws).words ≠ ws)) (settingsOf ws).bytes := by
  have whole : ws.take 26 = ws := List.take_of_length_le hlen.le
  simp [State.takeSettings, hstop, Int.not_lt.2 hyaw, whole]

/-- A SETTINGS request whose words pass the checks stores them, clamped. -/
theorem settings_answers {s : State} {kind : Nat} {act : State → Answer} {ws : List Nat} (hl : s.listening)
    (hlen : ws.length = 26) (hstop : stopClipOk ws = true) (hyaw : (settingsOf ws).yawMin ≤ (settingsOf ws).yawMax)
    (ha : act s.hearFrame = s.hearFrame.takeSettings ws) :
    Answers s (request kind 0 act s) [.settings, .gdu, .msv, .snd] .ok kind 0 (decide ((settingsOf ws).words ≠ ws)) false
      (settingsOf ws).bytes ∧ settingsStored (settingsOf ws) s (request kind 0 act s) := by
  have taken := ha.trans (State.takeSettings_taken hlen hstop hyaw)
  have calm : entersEStop s.hearFrame (s.hearFrame.storeSettings (settingsOf ws)) = false := by
    obtain ⟨n, e⟩ := s.hearFrame.storeSettings_msv (settingsOf ws)
    exact entersEStop_of_motion (by rw [e])
  refine ⟨calm ▸ request_answers hl taken (State.storeSettings_sameBut _ _), ?_⟩
  rw [request_take hl.1 hl.2 taken]
  exact State.storeSettings_stored _ s

/-! ### The requests -/

theorem State.atRest_of {s : State} (h : s.msv.motion = .parked ∨ s.msv.motion = .stopped) : s.atRest = true := by
  simpa [State.atRest] using h

theorem putSettings_taken {s : State} (h : s.atRest = true) (ws : List Nat) :
    putSettings 0 ws s = s.takeSettings ws := by
  simp [putSettings, h]

theorem amendSettings_taken {s : State} (h : s.atRest = true) (presence : Nat) (ws : List Nat) :
    amendSettings 0 presence ws s =
      if noPresence presence 26 then ok s s.settings.bytes
      else s.takeSettings (overWords presence ws s.settings.words) := by
  simp [amendSettings, h]

theorem overWords_length (presence : Nat) (carried stored : List Nat) :
    (overWords presence carried stored).length = 26 := by
  simp [overWords]

/-- Settles O13: at rest each request stores its words, or reports the record. -/
theorem settingsRequests : Obligations.SettingsRequests := by
  intro s ws presence hl hm hlen
  have rest : s.hearFrame.atRest = true := State.atRest_of hm
  refine ⟨fun hstop hyaw => ⟨_, rfl, settings_answers hl hlen hstop hyaw (putSettings_taken rest ws)⟩,
    fun hp => ⟨_, rfl, request_reports hl ?_⟩, fun hp hstop hyaw => ⟨_, rfl, settings_answers hl ?_ hstop hyaw ?_⟩⟩
  · have carriesNone : noPresence presence 26 = true := decide_eq_true hp
    rw [amendSettings_taken rest, if_pos carriesNone]
    rfl
  · exact overWords_length presence ws _
  · have carries : noPresence presence 26 = false := decide_eq_false hp
    rw [amendSettings_taken rest, if_neg (by simp [carries])]
    rfl

/-! ### The commands that keep the record -/

/-- A command that has no business with the record leaves it. -/
theorem exec_settings {c : Instr} {s t : State} (ht : exec c s = .next t) (hc : .settings ∉ c.blocks) :
    t.settings = s.settings := by
  by_cases hk : c.isReset = false
  · exact (exec_sameBut c s hk t ht).settings hc
  · cases c
    case resetEnd =>
      cases ht
      unfold resetEnd
      split <;> rfl
    case powerReset | pinReset => simp [Instr.blocks] at hc
    all_goals exact absurd rfl hk

/-- MASTER changes the host master gain only (07 R159). -/
theorem request_master_settings (key gain : Nat) (s : State) : ∃ g,
    (request 0x2F key (hostMaster gain) s).settings = { s.settings with masterGain := g } := by
  obtain ⟨-, e⟩ | ⟨-, -, e⟩ | ⟨-, -, st, p, -, e⟩ | ⟨-, -, t, st, c, p, ha, e⟩ := request_cases s 0x2F key (hostMaster gain)
  all_goals rw [e]
  · exact ⟨s.settings.masterGain, rfl⟩
  · exact ⟨s.settings.masterGain, rfl⟩
  · exact ⟨s.settings.masterGain, rfl⟩
  · cases ha
    exact ⟨min 256 gain, rfl⟩

/-- Settles O14: MASTER by its own case, every other command by its frame. -/
theorem settingsKept : Obligations.SettingsKept := by
  intro c s t ht hput hamend hpower hpin
  by_cases hm : ∃ k g, c = .master k g
  · obtain ⟨k, gain, rfl⟩ := hm
    cases ht
    obtain ⟨g, e⟩ := request_master_settings k gain s
    exact ⟨by rw [e], fun h => absurd rfl (h k gain)⟩
  · have kept : t.settings = s.settings := by
      apply exec_settings ht
      cases c
      case putSettings => exact absurd rfl (hput _ _)
      case amendSettings => exact absurd rfl (hamend _ _ _)
      case master => exact absurd ⟨_, _, rfl⟩ hm
      case powerReset => exact absurd rfl (hpower _)
      case pinReset => exact absurd rfl (hpin _)
      all_goals simp [Instr.blocks]
    exact ⟨by rw [kept], fun _ => kept⟩

end Sys2Proof.Machine
end
section
/-! SUPPORT. What nearly every operation leaves of the shape and of the counter of free values: the sizes of the fixed
tables, the keys of the cues and the clips, the flash, and a counter that has not fallen (log 8). -/

namespace Sys2Proof.Machine

/-! ### Keys -/

section
variable {α : Type}

/-- The canonical form speaks of the keys only. -/
theorem Table.wf_iff_keys (t : Table α) : Table.wf t ↔ (Table.keys t).Pairwise (· < ·) := List.pairwise_map.symm

@[simp] theorem Table.keys_update (k : Nat) (f : α → α) (t : Table α) : Table.keys (Table.update k f t) = Table.keys t := by
  unfold Table.keys Table.update
  rw [List.map_map]
  refine List.map_congr_left fun p _ => ?_
  dsimp only [Function.comp]
  split <;> rfl

@[simp] theorem Table.keys_mapValues (f : Nat × α → α) (t : Table α) :
    Table.keys (t.map (fun p => (p.1, f p))) = Table.keys t := List.map_map

end

/-! ### The relation -/

/-- What `Shaped` reads beside POS. Of the speed window a sample drops the oldest entry, so the others are counted. -/
structure Outline where
  seats : Nat
  voices : Nat
  lines : Nat
  sources : Nat
  window : Nat
  cues : List Nat
  clips : List Nat
  flash : Memory

def State.outline (s : State) : Outline where
  seats := s.rsm.seats.length
  voices := s.snd.voices.length
  lines := s.cue.lines.length
  sources := s.ntu.sources.length
  window := (s.msv.window.drop 1).length
  cues := Table.keys s.cue.cues
  clips := Table.keys s.flp.clips
  flash := s.flp.flash

/-- The outline stands and no free value has been taken back. -/
structure State.Steady (s t : State) : Prop where
  outline : t.outline = s.outline
  free : s.free ≤ t.free

namespace State.Steady

variable {s t u : State}

theorem of_same (ho : t.outline = s.outline) (hf : t.free = s.free) : s.Steady t := ⟨ho, hf.ge⟩

theorem refl (s : State) : s.Steady s := of_same (by rfl) (by rfl)

theorem trans (h : s.Steady t) (h' : t.Steady u) : s.Steady u := ⟨h'.outline.trans h.outline, h.free.trans h'.free⟩

theorem raise (h : s.Steady t) (n : Notice) : s.Steady (t.raise n) :=
  h.trans (of_same (by simp [State.outline, State.raise]) (by rfl))

theorem setVoice (h : s.Steady t) (i : Nat) (v : Voice) : s.Steady (t.setVoice i v) :=
  h.trans (of_same (by simp [State.outline, State.setVoice]) (by rfl))

end State.Steady

/-- The units that the outline and the counter are held in. -/
def Block.outlined : List Block := [.msv, .rsm, .cue, .flp, .snd, .ntu, .free]

/-- An operation whose frame leaves those units is steady. -/
theorem SameBut.steady {bs : List Block} {s t : State} (h : SameBut bs s t)
    (hb : ∀ b ∈ Block.outlined, b ∉ bs := by decide) : s.Steady t := by
  have hm : t.msv = s.msv := h.same .msv (hb _ (by decide))
  have hr : t.rsm = s.rsm := h.same .rsm (hb _ (by decide))
  have hc : t.cue = s.cue := h.same .cue (hb _ (by decide))
  have hf : t.flp = s.flp := h.same .flp (hb _ (by decide))
  have hs : t.snd = s.snd := h.same .snd (hb _ (by decide))
  have hn : t.ntu = s.ntu := h.same .ntu (hb _ (by decide))
  exact .of_same (by unfold State.outline; rw [hm, hr, hc, hf, hs, hn]) (h.same .free (hb _ (by decide)))

variable (s : State)

/-! ### Voices and stop reasons (07 R142 to R153, 04 R65 to R67) -/

theorem State.withdrawRefill_steady (i : Nat) : s.Steady (s.withdrawRefill i) :=
  ((Steady.refl s).setVoice i _).trans (.of_same (by rfl) (by rfl))

theorem State.endVoice_steady (i : Nat) : s.Steady (s.endVoice i) :=
  ((s.withdrawRefill_steady i).setVoice i _).raise _

theorem State.fadeVoices_steady (p : Voice → Bool) : s.Steady (s.fadeVoices p) :=
  .of_same (by simp [State.outline, State.fadeVoices]) (by rfl)

theorem State.placeRefill_steady (i : Nat) : s.Steady (s.placeRefill i) := by
  unfold State.placeRefill
  dsimp only
  split
  · exact .refl s
  · split
    · exact (Steady.refl s).setVoice i _
    · exact .refl s

theorem State.yieldVoice_steady (i : Nat) : s.Steady (s.yieldVoice i) := by
  unfold State.yieldVoice
  split
  · exact (Steady.refl s).raise _
  · exact (Steady.refl s).raise _
  · exact .refl s

/-- A start takes a free value where the start counter has passed its last one (log 10). -/
theorem State.startVoice_steady (i : Nat) (q : Claim) (c : Clip) : s.Steady (s.startVoice i q c) := by
  have started := ((s.yieldVoice_steady i).trans (State.withdrawRefill_steady _ i)).setVoice i
    (Voice.started q c ((s.yieldVoice i).withdrawRefill i).snd.startCounter)
  have counted (t : State) (n : Nat) : t.Steady (t.setSnd { t.snd with startCounter := n }) := .of_same (by rfl) (by rfl)
  unfold State.startVoice
  dsimp only
  refine (started.trans (State.Steady.trans ?_ (counted _ _))).trans (State.placeRefill_steady _ i)
  split
  · exact .refl _
  · exact ⟨rfl, Nat.le_succ _⟩

theorem State.claimVoice_steady {q : Claim} {s t : State} {i : Nat} (h : s.claimVoice q = some (t, i)) : s.Steady t := by
  unfold State.claimVoice at h
  split at h
  · cases h
    exact s.startVoice_steady _ _ _
  · cases h

theorem State.announceStop_steady : s.Steady s.announceStop := by
  have faded := s.fadeVoices_steady (fun v => v.level < 3)
  unfold State.announceStop
  dsimp only
  split
  · exact faded
  · split
    · exact faded.raise _
    · split
      · exact faded.trans (State.claimVoice_steady ‹_›)
      · exact faded.raise _

theorem State.releaseLines_steady (p : LineHold → Bool) : s.Steady (s.releaseLines p) :=
  .of_same (by simp [State.outline, State.releaseLines]) (by rfl)

theorem State.enterEStop_steady : s.Steady s.enterEStop := by
  have stilled : s.Steady s.stilled :=
    (Steady.of_same (by rfl) (by rfl) : s.Steady (s.setMsv _)).trans (State.releaseLines_steady _ _)
  exact stilled.trans (State.announceStop_steady _)

theorem State.addReason_steady (r : StopReason) : s.Steady (s.addReason r) := by
  have joined : s.Steady (s.setMsv { s.msv with reasons := insertReason r s.msv.reasons }) := .of_same (by rfl) (by rfl)
  obtain ⟨-, e⟩ | ⟨-, -, -, e⟩ | ⟨-, -, -, -, e⟩ | ⟨-, -, -, e | e⟩ | ⟨-, -, -, -, e⟩ := s.addReason_cases r
  all_goals rw [e]
  · exact .refl s
  · exact joined.raise _
  · exact (joined.trans (State.enterEStop_steady _)).raise _
  · exact .of_same (by rfl) (by rfl)
  · exact (Steady.of_same (by rfl) (by rfl) : s.Steady (State.enterSafeStop _)).raise _
  · exact joined

/-! ### The cue engine (05) -/

theorem State.updateCue_steady (id : Nat) (f : Cue → Cue) : s.Steady (s.updateCue id f) :=
  .of_same (by simp [State.outline, State.updateCue]) (by rfl)

theorem State.skipAction_steady (id idx : Nat) : s.Steady (s.skipAction id idx) := (s.updateCue_steady id _).raise _

theorem State.conflict_steady (id holder output : Nat) : s.Steady (s.conflict id holder output) :=
  (((s.updateCue_steady id _).trans (State.updateCue_steady _ holder _)).raise _).raise _

theorem State.runPlay_steady (id level idx clip : Nat) (b : Buses) (g : Nat) (l x : Bool) :
    s.Steady (s.runPlay id level idx clip b g l x) := by
  unfold State.runPlay
  split
  · exact State.claimVoice_steady ‹_›
  · exact s.skipAction_steady id idx

theorem State.runEffect_steady (id level idx line on off count : Nat) (timed : Bool) :
    s.Steady (s.runEffect id level idx line on off count timed) := by
  have taken (h : Option LineHold) : s.Steady (s.setCue { s.cue with lines := s.cue.lines.set line h }) :=
    .of_same (by simp [State.outline]) (by rfl)
  unfold State.runEffect
  dsimp only
  split
  · exact s.skipAction_steady id idx
  · split
    · exact taken _
    · exact (taken _).trans (State.conflict_steady _ _ _ _)
    · exact s.conflict_steady _ _ _

theorem State.runBeacon_steady (id idx code : Nat) : s.Steady (s.runBeacon id idx code) := by
  unfold State.runBeacon
  split
  · exact s.skipAction_steady id idx
  · exact .of_same (by rfl) (by rfl)

theorem State.runYaw_steady (id level : Nat) (target : Int) : s.Steady (s.runYaw id level target) := by
  have taken : s.Steady ((s.setCue { s.cue with turntable := some ⟨id, level⟩ }).storeYawTarget target) :=
    .of_same (by rfl) (by rfl)
  unfold State.runYaw
  dsimp only
  split
  · exact taken
  · exact taken.trans (State.conflict_steady _ _ _ _)
  · exact s.conflict_steady _ _ _

theorem State.requestDwell_steady {ms : Nat} {s t : State} (h : s.requestDwell ms = some t) : s.Steady t := by
  unfold State.requestDwell at h
  split at h <;> cases h
  · exact (Steady.of_same (by rfl) (by rfl) : s.Steady (s.setMsv _)).raise _
  · exact .of_same (by rfl) (by rfl)

theorem State.runDwell_steady (id idx ms : Nat) : s.Steady (s.runDwell id idx ms) := by
  unfold State.runDwell
  cases h : s.requestDwell ms with
  | none => exact s.skipAction_steady id idx
  | some t => exact State.requestDwell_steady h

theorem State.runAction_steady (id level idx : Nat) (a : Action) : s.Steady (s.runAction id level idx a) := by
  cases a with
  | play => exact s.runPlay_steady _ _ _ _ _ _ _ _
  | effect => exact s.runEffect_steady _ _ _ _ _ _ _ _
  | beacon => exact s.runBeacon_steady _ _ _
  | yaw => exact s.runYaw_steady _ _ _
  | dwell => exact s.runDwell_steady _ _ _
  | slow => exact s.updateCue_steady _ _

theorem State.runActions_steady (id level idx : Nat) (as : List Action) (s : State) :
    s.Steady (State.runActions id level idx as s) := by
  induction as generalizing idx s with
  | nil => exact .refl s
  | cons a as ih => exact (s.runAction_steady id level idx a).trans (ih _ _)

theorem State.fireCue_steady (id : Nat) (c : Cue) : s.Steady (s.fireCue id c) := by
  unfold State.fireCue
  dsimp only
  refine State.Steady.trans ?_ (State.runActions_steady _ _ _ _ _)
  split
  · exact (s.updateCue_steady id _).raise _
  · exact s.updateCue_steady id _

theorem State.releaseOutputs_steady (id : Nat) (p : LineHold → Bool) :
    s.Steady ((s.releaseLines p).releaseTurntable id) :=
  (s.releaseLines_steady p).trans (.of_same (by rfl) (by rfl))

theorem State.exitCue_steady (id : Nat) (all : Bool) : s.Steady (s.exitCue id all) :=
  ((s.releaseOutputs_steady id _).trans (State.fadeVoices_steady _ _)).trans (State.updateCue_steady _ id _)

theorem State.leaveCue_steady (seg id : Nat) : s.Steady (s.leaveCue seg id) := by
  have exited (p : Prop) [Decidable p] : s.Steady (if p then s.exitCue id false else s) := by
    split
    · exact s.exitCue_steady id false
    · exact .refl s
  unfold State.leaveCue
  dsimp only
  split
  · exact .refl s
  · split
    · exact .refl s
    · split
      · exact (exited _).trans (State.updateCue_steady _ _ _)
      · exact exited _

theorem State.endCue_steady (seg len id : Nat) : s.Steady (s.endCue seg len id) := by
  unfold State.endCue
  split
  · exact .refl s
  · split
    · exact s.exitCue_steady id false
    · exact .refl s

theorem State.judgeCue_steady (seg len id : Nat) : s.Steady (s.judgeCue seg len id) := by
  unfold State.judgeCue
  split
  · exact .refl s
  · split
    · exact .refl s
    · split
      · exact s.fireCue_steady id _
      · split
        · exact (s.updateCue_steady id _).raise _
        · exact .refl s

theorem eachId_steady {f : Nat → State → State} (h : ∀ i s, State.Steady s (f i s)) (ids : List Nat) (s : State) :
    s.Steady (eachId f ids s) := eachId_lift .refl .trans h ids s

theorem State.departures_steady (moved : Bool) (ids : List Nat) : s.Steady (s.departures moved ids) := by
  unfold State.departures
  split
  · exact eachId_steady (fun i s => s.leaveCue_steady _ i) ids s
  · exact .refl s

/-- An evaluation changes records and holders, no key and no line (05 R99). -/
theorem State.evaluate_steady (moved : Bool) : s.Steady (s.evaluate moved) := by
  cases ha : s.activeSegment with
  | none =>
    unfold State.evaluate
    rw [ha]
    exact .refl s
  | some p =>
    obtain ⟨a, g⟩ := p
    have left := s.departures_steady moved (Table.keys s.cue.cues)
    have ended := left.trans (eachId_steady (fun i s => s.endCue_steady a g.length i) (Table.keys s.cue.cues) _)
    have judged := ended.trans (eachId_steady (fun i s => s.judgeCue_steady a g.length i) (Table.keys s.cue.cues) _)
    rw [State.evaluate_eq moved ha]
    exact judged.trans (.of_same (by rfl) (by rfl))

theorem steady_stepClosed : StepClosed State.Steady where
  trans := .trans
  record _ _ := .of_same (by rfl) (by rfl)
  join := State.addReason_steady
  report s n _ := (State.Steady.refl s).raise n
  evaluate := State.evaluate_steady

end Sys2Proof.Machine
end

section
/-! SUPPORT. The events and requests that are steady, and that every command is but the edits of cues and clips, the flash
steps and the resets. -/

namespace Sys2Proof.Machine

variable (s : State)

/-! ### The guidance sample (02, 04 R76 to R86, 07 R157) -/

theorem State.guide_steady (encoder : Int) : s.Steady (s.guide encoder) := by
  have judged : s.Steady s.judgeGuide := by
    rw [State.judgeGuide_eq]
    split
    · exact (Steady.of_same (by rfl) (by rfl) : s.Steady s.counted).trans (State.addReason_steady _ _)
    · exact .of_same (by rfl) (by rfl)
  have turned : s.Steady s.turned := by
    rw [State.turned, State.turned_eq]
    exact judged.trans (.of_same (by rfl) (by rfl))
  have followed : s.Steady (s.turned.followed encoder) := turned.trans (.of_same (by rfl) (by rfl))
  rw [State.guide_eq]
  obtain ⟨-, e⟩ | ⟨-, -, e⟩ | ⟨-, -, e⟩ := State.superviseYaw_cases encoder s.turned <;> rw [e]
  · exact followed
  · exact followed.trans (.of_same (by rfl) (by rfl))
  · exact followed.trans (State.addReason_steady _ _)

/-- The sample takes the place of the oldest entry. -/
theorem State.windowStep_steady (ds : Int) : s.Steady (s.windowStep ds) := by
  refine .of_same ?_ rfl
  simp only [State.outline, State.windowStep, State.setMsv_msv, State.setMsv_rsm, State.setMsv_snd, State.setMsv_cue,
    State.setMsv_ntu, State.setMsv_flp, List.length_drop, List.length_append, List.length_singleton, Nat.add_sub_cancel]

theorem State.overspeedCheck_steady : s.Steady s.overspeedCheck := by
  have recounted : s.Steady s.recounted := .of_same (by rfl) (by rfl)
  by_cases h : s.overspeeds
  · rw [State.overspeedCheck_overspeeds h]
    exact recounted.trans (State.addReason_steady _ _)
  · rw [State.overspeedCheck_counts h]
    exact recounted

theorem State.overrunCheck_steady : s.Steady s.overrunCheck := by
  unfold State.overrunCheck
  split
  · exact s.addReason_steady _
  · exact .refl s

theorem State.heldTest_steady : s.Steady s.heldTest := by
  have flagged (b : Bool) : s.Steady (s.setMsv { s.msv with held := b }) := .of_same (by rfl) (by rfl)
  unfold State.heldTest
  split
  · split
    · exact .refl s
    · exact (flagged true).raise _
  · split
    · exact flagged false
    · exact .refl s

theorem State.restStep_steady : s.Steady s.restStep := by
  obtain e | ⟨-, -, ms, -, e⟩ | ⟨-, -, e⟩ := s.restStep_cases <;> rw [e]
  · exact .refl s
  · exact .of_same (by rfl) (by rfl)
  · exact (Steady.of_same (by rfl) (by rfl) : s.Steady (s.setMsv _)).raise _

theorem State.speedStage_steady (ds : Int) : s.Steady (s.speedStage ds) := by
  have checked := ((s.windowStep_steady ds).trans (State.overspeedCheck_steady _)).trans (State.overrunCheck_steady _)
  have ramped := checked.trans (.of_same (by rfl) (by rfl) : State.Steady _ (State.ramp _))
  exact (ramped.trans (State.heldTest_steady _)).trans (State.restStep_steady _)

theorem State.readLoad_steady (current : Nat) : s.Steady (s.readLoad current) := by
  unfold State.readLoad
  repeat' split
  all_goals exact .of_same (by rfl) (by rfl)

theorem guidanceSample_steady (encoder : Int) (current : Nat) : s.Steady (guidanceSample encoder current s) :=
  (((steady_stepClosed.positionStep s).trans (State.guide_steady _ encoder)).trans (State.speedStage_steady _ _)).trans
    (State.readLoad_steady _ current)

/-! ### Markers, PLACE and AUTHORITY (01) -/

theorem markerRead_steady (code : Nat) : s.Steady (markerRead code s) := by
  have mismatched (a : Nat) : s.Steady (s.mismatch a code) := (s.addReason_steady _).raise _
  unfold markerRead
  split
  · exact .refl s
  · split
    · exact .refl s
    · split
      · exact mismatched _
      · split
        · exact .refl s
        · split
          · exact steady_stepClosed.correct _ s
          · exact mismatched _

theorem placeVehicle_steady (segment position : Nat) : (placeVehicle segment position s).Leaves s.Steady := by
  unfold placeVehicle
  repeat' split
  case h_2.isFalse.isFalse => exact (State.Steady.of_same (by rfl) (by rfl)).trans (State.evaluate_steady _ true)
  all_goals trivial

theorem State.grantAuthority_steady (u : Authority) (path : List Nat) : s.Steady (s.grantAuthority u path) := by
  have checked : s.Steady (s.storeAuthority u path).overrunCheck :=
    (Steady.of_same (by rfl) (by rfl) : s.Steady (s.storeAuthority u path)).trans (State.overrunCheck_steady _)
  unfold State.grantAuthority
  dsimp only
  split
  · exact checked.raise _
  · exact checked

theorem putAuthority_steady (key : Nat) (w : AuthorityWire) : (putAuthority key w s).Leaves s.Steady := by
  unfold putAuthority
  dsimp only
  repeat' split
  all_goals simp [State.grantAuthority_steady]

theorem amendAuthority_steady (key presence : Nat) (w : AuthorityWire) :
    (amendAuthority key presence w s).Leaves s.Steady := by
  unfold amendAuthority
  split
  · trivial
  · split
    · split
      · trivial
      · exact .refl s
    · exact putAuthority_steady s _ _

theorem retireAuthority_steady (key : Nat) : (retireAuthority key s).Leaves s.Steady := by
  unfold retireAuthority
  split
  · trivial
  · split
    · trivial
    · exact (State.Steady.of_same (t := s.dropAuthority) (by rfl) (by rfl)).trans (State.overrunCheck_steady _)

/-! ### Seats (03) -/

theorem State.setSeatState_steady (i : Nat) (st : SeatState) : s.Steady (s.setSeatState i st) :=
  .of_same (by simp [State.outline, State.setSeatState]) (by rfl)

theorem State.sampleSeat_steady (i : Nat) (r : SeatReading) : s.Steady (s.sampleSeat i r) := by
  have stored := s.setSeatState_steady i
  obtain ⟨-, e⟩ | ⟨-, -, e⟩ | ⟨-, -, e⟩ := s.sampleSeat_cases i r <;> rw [e]
  · exact stored _
  · exact (stored _).raise _
  · exact ((stored _).trans (State.addReason_steady _ _)).raise _

theorem State.releaseSeats_steady (mask : Nat) : s.Steady (s.releaseSeats mask) :=
  .of_same (by simp [State.outline, State.releaseSeats]) (by rfl)

theorem raiseEach_steady {α : Type} (f : α → Notice) (l : List α) (s : State) :
    s.Steady (l.foldl (fun u a => u.raise (f a)) s) := by
  induction l generalizing s with
  | nil => exact .refl s
  | cons a l ih => exact ((State.Steady.refl s).raise (f a)).trans (ih _)

theorem State.fireRelease_steady (mask : Nat) : s.Steady (s.fireRelease mask) :=
  (((s.releaseSeats_steady mask).trans (.of_same (by rfl) (by rfl))).trans (raiseEach_steady _ _ _)).raise _

theorem State.completeHold_steady : s.Steady s.completeHold := by
  have held : s.Steady (s.setRsm { s.rsm with hold := .held }) := .of_same (by rfl) (by rfl)
  obtain e | ⟨p, -, e⟩ := s.completeHold_cases <;> rw [e]
  · exact held.raise _
  · exact held.trans (State.fireRelease_steady _ _)

theorem State.updateHold_steady (closed : Bool) : s.Steady (s.updateHold closed) := by
  unfold State.updateHold
  split
  · split
    · exact .of_same (by rfl) (by rfl)
    · split
      · exact s.completeHold_steady
      · exact .refl s
    · exact .refl s
  · exact .of_same (by rfl) (by rfl)

theorem State.takeLevels_steady (v : SeatLevels) : s.Steady (s.takeLevels v) := by
  have kept : s.Steady (s.keepLevels v) := .of_same (by rfl) (by rfl)
  have sampled : (s.keepLevels v).Steady (s.seated v) :=
    State.sampleSeats_lift .refl .trans (fun i r s => State.sampleSeat_steady s i r) 0 v.readings _
  exact (kept.trans sampled).trans (State.updateHold_steady _ _)

theorem holdComplete_steady : s.Steady (holdComplete s) := by
  unfold holdComplete
  split
  · split
    · exact s.takeLevels_steady _
    · exact .refl s
  all_goals exact .refl s

theorem permitExpiry_steady : s.Steady (permitExpiry s) := by
  unfold permitExpiry
  split
  · split
    · exact (State.Steady.of_same (by rfl) (by rfl) : s.Steady (s.setRsm _)).raise _
    · exact .refl s
  · exact .refl s

theorem releasePulseEnd_steady (i : Nat) : s.Steady (releasePulseEnd i s) := by
  unfold releasePulseEnd
  split
  · split
    · exact (s.setSeatState_steady i _).raise _
    · exact .refl s
  · exact .refl s

theorem State.takeSeat_steady (i : Nat) (t : Seat) : (s.takeSeat i t).Leaves s.Steady :=
  State.Steady.of_same (by simp [State.outline, State.setSeat]) (by rfl)

theorem putSeat_steady (key : Nat) (w : SeatWire) : (putSeat key w s).Leaves s.Steady := by
  unfold putSeat
  repeat' split
  all_goals simp [State.takeSeat_steady]

theorem amendSeat_steady (key presence : Nat) (w : SeatWire) : (amendSeat key presence w s).Leaves s.Steady := by
  unfold amendSeat
  dsimp only
  repeat' split
  all_goals simp [State.takeSeat_steady, State.Steady.refl]

theorem seatClear_steady (key : Nat) : (seatClear key s).Leaves s.Steady := by
  unfold seatClear
  repeat' split
  all_goals simp [State.setSeatState_steady]

theorem releasePermit_steady (mask : Nat) : (releasePermit mask s).Leaves s.Steady := by
  unfold releasePermit
  repeat' split
  case isFalse.isFalse.isFalse => exact State.Steady.of_same (by rfl) (by rfl)
  all_goals trivial

theorem releaseImmediate_steady (mask : Nat) : (releaseImmediate mask s).Leaves s.Steady := by
  unfold releaseImmediate
  repeat' split
  all_goals simp [State.releaseSeats_steady]

/-! ### Motion (04) -/

theorem State.withdrawPermit_steady : s.Steady s.withdrawPermit := by
  unfold State.withdrawPermit
  split
  · exact (Steady.of_same (by rfl) (by rfl) : s.Steady (s.setRsm _)).raise _
  · exact .refl s

theorem enableVehicle_steady : (enableVehicle s).Leaves s.Steady := by
  unfold enableVehicle
  dsimp only
  split
  · trivial
  · split
    · exact State.Steady.of_same (by rfl) (by rfl)
    · exact s.enterEStop_steady.raise _

theorem parkVehicle_steady : (parkVehicle s).Leaves s.Steady := by
  unfold parkVehicle
  split
  · exact (State.Steady.of_same (by rfl) (by rfl)).trans (State.withdrawPermit_steady _)
  · trivial

theorem startVehicle_steady : (startVehicle s).Leaves s.Steady := by
  unfold startVehicle
  repeat' split
  case isFalse.isFalse.isFalse.isFalse => exact (State.Steady.of_same (by rfl) (by rfl)).trans (State.withdrawPermit_steady _)
  all_goals trivial

theorem stopVehicle_steady : (stopVehicle s).Leaves s.Steady := by
  unfold stopVehicle
  split
  · trivial
  · exact s.addReason_steady _

theorem resumeVehicle_steady : (resumeVehicle s).Leaves s.Steady := by
  unfold resumeVehicle
  split
  · trivial
  · split
    · trivial
    · dsimp only
      split
      · trivial
      · exact State.Steady.of_same (by rfl) (by rfl)

theorem skipDwell_steady : (skipDwell s).Leaves s.Steady := by
  unfold skipDwell
  split
  · trivial
  · exact State.Steady.of_same (by rfl) (by rfl)

theorem estopInputCheck_steady (high : Bool) : s.Steady (estopInputCheck high s) := by
  unfold estopInputCheck
  dsimp only
  split
  · exact (State.Steady.of_same (by rfl) (by rfl) : s.Steady (s.setMsv _)).trans (State.addReason_steady _ _)
  · exact .of_same (by rfl) (by rfl)

theorem linkExpiry_steady : s.Steady (linkExpiry s) := by
  unfold linkExpiry
  dsimp only
  split
  · exact .refl s
  · split
    · split
      · exact (State.Steady.of_same (by rfl) (by rfl) : s.Steady (s.setMsv _)).trans (State.addReason_steady _ _)
      · exact .of_same (by rfl) (by rfl)
    · exact .refl s

theorem supplyReading_steady (count : Nat) : s.Steady (supplyReading count s) := by
  have counted (n : Nat) : s.Steady (s.setMsv { s.msv with supplyRun := n }) := .of_same (by rfl) (by rfl)
  unfold supplyReading
  split
  · split
    · split
      · exact counted _
      · exact (State.Steady.of_same (by rfl) (by rfl) : s.Steady (s.setMsv _)).raise _
    · exact counted 0
  · split
    · split
      · exact counted _
      · exact (State.Steady.of_same (by rfl) (by rfl) : s.Steady (State.capMaster (s.setMsv _))).raise _
    · exact counted 0

theorem dwellExpiry_steady : s.Steady (dwellExpiry s) := by
  unfold dwellExpiry
  split
  · split
    · exact (State.Steady.of_same (by rfl) (by rfl) : s.Steady (s.setMsv _)).raise _
    · exact .refl s
  · exact .refl s

theorem resetEnd_steady : s.Steady (resetEnd s) := by
  unfold resetEnd
  split
  · exact .of_same (by rfl) (by rfl)
  · exact .refl s

/-! ### Cues and effects (05) -/

theorem namedCue_steady {key : Nat} {take : Cue → Answer} (h : ∀ c, (take c).Leaves s.Steady) :
    (namedCue key take s).Leaves s.Steady := by
  unfold namedCue
  split
  · trivial
  · split
    · trivial
    · split
      · trivial
      · exact h _

theorem rearmCue_steady (key : Nat) : (rearmCue key s).Leaves s.Steady := by
  rw [rearmCue_eq]
  exact namedCue_steady s fun _ => s.updateCue_steady key _

theorem disarmCue_steady (key : Nat) : (disarmCue key s).Leaves s.Steady := by
  rw [disarmCue_eq]
  exact namedCue_steady s fun _ => s.updateCue_steady key _

theorem rearmAllCues_steady : (rearmAllCues s).Leaves s.Steady :=
  State.Steady.of_same (by simp [State.outline]) (by rfl)

theorem effectTick_steady : s.Steady (effectTick s) := .of_same (by simp [State.outline, effectTick]) (by rfl)

theorem effectPhaseEnd_steady (line : Nat) : s.Steady (effectPhaseEnd line s) := by
  unfold effectPhaseEnd
  split
  · split
    · exact .of_same (by simp [State.outline]) (by rfl)
    · exact .refl s
  · exact .refl s

theorem beaconTxComplete_steady : s.Steady (beaconTxComplete s) := by
  unfold beaconTxComplete
  split
  · exact .refl s
  · dsimp only
    split
    · exact .of_same (by rfl) (by rfl)
    · exact .refl s

theorem hostYaw_steady (target : Int) : (hostYaw target s).Leaves s.Steady := by
  unfold hostYaw
  split
  · exact State.Steady.of_same (by rfl) (by rfl)
  · trivial

/-- The bytes that the spec does not give are free values (log 9). -/
theorem getLine_steady (key : Nat) : (getLine key s).Leaves s.Steady := by
  have taken (n : Nat) : s.Steady (s.freeBytes n).1 := ⟨rfl, Nat.le_add_right _ _⟩
  unfold getLine
  dsimp only
  repeat' split
  all_goals simp [taken, State.Steady.refl]

/-! ### The flash port (06) -/

theorem State.setClipState_steady (id : Nat) (st : ClipState) : s.Steady (s.setClipState id st) :=
  .of_same (by simp [State.outline, State.setClipState]) (by rfl)

theorem State.verifyBad_steady (id : Nat) (r : BadReason) : s.Steady (s.verifyBad id r) :=
  ((s.setClipState_steady id _).trans (.of_same (by rfl) (by rfl))).raise _

theorem State.verifyDone_steady (size id : Nat) (v : Verify) : s.Steady (s.verifyDone size id v) := by
  unfold State.verifyDone
  split
  · exact .of_same (by rfl) (by rfl)
  · split
    · exact ((s.setClipState_steady id _).trans (.of_same (by rfl) (by rfl))).raise _
    · exact s.verifyBad_steady _ _

theorem verifyBurst_steady (w : Work) : s.Steady (verifyBurst w s) := by
  unfold verifyBurst State.verifyBytes
  dsimp only
  repeat' split
  all_goals simp [State.verifyBad_steady, State.verifyDone_steady, State.Steady.refl]

theorem refillRead_steady (w : Work) : s.Steady (refillRead w s) := by
  unfold refillRead State.deliver
  split
  · split
    · exact .refl s
    · exact ((State.Steady.refl s).setVoice _ _).trans (State.placeRefill_steady _ _)
  · exact .refl s

theorem State.answerRead_steady (bs : Option (List Byte)) : s.Steady (s.answerRead bs) := by
  unfold State.answerRead
  dsimp only
  split
  · exact .refl s
  · split
    · exact .of_same (by rfl) (by rfl)
    · exact (Steady.of_same (by rfl) (by rfl) : s.Steady (State.respond _ _ _ _ _ _ (s.setFlp _))).raise _

theorem completion_steady {mine : Work → Bool} {f : Work → State → State} (h : ∀ w u, State.Steady u (f w u)) :
    Result.Leaves s.Steady (completion mine f s) := by
  intro t ht
  obtain rfl | ⟨g, -, -, rfl⟩ := completion_cases ht
  · exact .refl t
  · exact (State.Steady.of_same (by rfl) (by rfl) : s.Steady s.freePort).trans (h _ _)

theorem flashReadDeadline_steady : s.Steady (flashReadDeadline s) := by
  unfold flashReadDeadline
  split
  · exact .refl s
  · split
    · refine State.Steady.trans ?_ (State.answerRead_steady _ none)
      split
      · exact .of_same (by rfl) (by rfl)
      · exact .refl s
    · exact .refl s

theorem State.beginVerify_steady : s.Steady s.beginVerify := by
  unfold State.beginVerify
  split
  · exact .of_same (by simp [State.outline]) (by rfl)
  · exact .refl s

theorem flashGrant_steady : s.Steady (flashGrant s) := by
  have turned (m : Nat) (b : Bool) : s.Steady (s.setFlp { s.flp with lastHigh := m, lowPrefersHost := b }) :=
    .of_same (by rfl) (by rfl)
  unfold flashGrant
  split
  · exact .refl s
  · split
    · unfold State.grantMember
      dsimp only
      split
      · exact .of_same (by rfl) (by rfl)
      · split
        · exact .of_same (by rfl) (by rfl)
        · exact ((turned _ true).trans (State.beginVerify_steady _)).trans (.of_same (by rfl) (by rfl))
    · exact .refl s

theorem State.stepDone_steady : s.Steady s.stepDone := by
  unfold State.stepDone
  dsimp only
  split
  · exact .of_same (by rfl) (by rfl)
  · exact (Steady.of_same (by rfl) (by rfl) : s.Steady (State.setFlp (State.setFlp s _) _)).raise _

/-- Beside the bytes that a step leaves free, a timeout is steady (06 R133, R138). -/
theorem State.unitTimeout_steady (w : Work) : (s.havocUnit w).Steady (s.unitTimeout w) := by
  have failed (t : State) (a : Nat) : t.Steady (t.stepTimeout a) :=
    (Steady.of_same (by rfl) (by rfl) : t.Steady (t.setFlp _)).raise _
  cases w with
  | refill => exact (Steady.refl s).raise _
  | verify a n live =>
    cases live with
    | false => exact .refl s
    | true =>
      change s.Steady _
      unfold State.unitTimeout
      dsimp only
      split
      · exact s.verifyBad_steady _ _
      · exact .refl s
  | hostRead => exact s.answerRead_steady none
  | program | erase => exact failed _ _

theorem flashRead_steady (key addr len : Nat) : s.Steady (flashRead key addr len s) := by
  unfold flashRead
  dsimp only
  split
  · exact .refl s
  · split
    · exact (State.Steady.of_same (by rfl) (by rfl) : s.Steady (s.setPort _)).raise _
    · split
      · exact .of_same (by rfl) (by rfl)
      · exact .of_same (by rfl) (by rfl)

theorem State.acceptOp_steady (op : HostOpKind) (first last total : Nat) (data : List Byte) :
    (s.acceptOp op first last total data).Leaves s.Steady := by
  unfold State.acceptOp
  split
  · trivial
  · exact Steady.of_same (by rfl) (by rfl)

theorem flashProgram_steady (addr : Nat) (data : List Byte) : (flashProgram addr data s).Leaves s.Steady := by
  unfold flashProgram
  split
  · trivial
  · exact s.acceptOp_steady _ _ _ _ _

theorem flashErase_steady (addr sectors : Nat) : (flashErase addr sectors s).Leaves s.Steady := by
  unfold flashErase
  split
  · trivial
  · exact s.acceptOp_steady _ _ _ _ _

/-! ### Sound (07) -/

theorem State.playVoice_steady (i : Nat) : s.Steady (s.playVoice i) := by
  have set := (Steady.refl s).setVoice i
  unfold State.playVoice
  dsimp only
  split
  · split
    · split
      · exact (set _).trans (State.endVoice_steady _ i)
      · exact set _
    · exact .refl s
    · split
      · exact (set _).raise _
      · exact .refl s
  · exact .refl s

theorem outputSample_steady : s.Steady (outputSample s) := by
  have written : s.Steady s.writeBuses := .of_same (by rfl) (by rfl)
  exact (written.trans (eachId_steady (fun i s => s.playVoice_steady i) voiceIds _)).trans
    (eachId_steady (fun i s => s.placeRefill_steady i) voiceIds _)

theorem State.fadeVoice_steady (i : Nat) : s.Steady (s.fadeVoice i) := by
  have set := (Steady.refl s).setVoice i
  unfold State.fadeVoice
  dsimp only
  split
  · split
    · exact (set _).trans (State.endVoice_steady _ i)
    · exact set _
  · exact .refl s

theorem State.climbMaster_steady : s.Steady s.climbMaster := by
  unfold State.climbMaster
  split
  · exact .of_same (by rfl) (by rfl)
  · exact .refl s

theorem fadeMasterTick_steady : s.Steady (fadeMasterTick s) :=
  (eachId_steady (fun i s => s.fadeVoice_steady i) voiceIds s).trans (State.climbMaster_steady _)

theorem voiceFadeEnd_steady (i : Nat) : s.Steady (voiceFadeEnd i s) := by
  unfold voiceFadeEnd
  split
  · exact s.endVoice_steady i
  · exact .refl s

theorem hostPlay_steady (w : PlayWire) : (hostPlay w s).Leaves s.Steady := by
  unfold hostPlay
  repeat' split
  case h_2 h => exact State.claimVoice_steady h
  all_goals trivial

theorem hushVoice_steady (key : Nat) : (hushVoice key s).Leaves s.Steady := by
  unfold hushVoice
  split
  · trivial
  · split
    · trivial
    · exact (State.Steady.refl s).setVoice _ _

/-! ### Notices, settings and port (08, 09) -/

theorem State.setSource_steady (n : Nat) (src : Source) : s.Steady (s.setSource n src) :=
  .of_same (by simp [State.outline, State.setSource]) (by rfl)

theorem putSource_steady (key level : Nat) : (putSource key level s).Leaves s.Steady := by
  unfold putSource
  split
  · trivial
  · exact s.setSource_steady _ _

theorem amendSource_steady (key presence level : Nat) : (amendSource key presence level s).Leaves s.Steady := by
  unfold amendSource
  split
  · trivial
  · split
    · exact .refl s
    · split
      · trivial
      · exact s.setSource_steady _ _

theorem noticeSetup_steady (base mask : Nat) : (noticeSetup base mask s).Leaves s.Steady := by
  unfold noticeSetup
  split
  · trivial
  · exact State.Steady.of_same (by rfl) (by rfl)

theorem noticeTake_steady : (noticeTake s).Leaves s.Steady := by
  unfold noticeTake
  split
  · exact .refl s
  · exact s.setSource_steady _ _

theorem State.takeSettings_steady (ws : List Nat) : (s.takeSettings ws).Leaves s.Steady := by
  have stored (t : Settings) : s.Steady (s.storeSettings t) := by
    unfold State.storeSettings
    rw [State.msvSettings_eq, State.sndSettings_eq]
    exact .of_same (by rfl) (by rfl)
  unfold State.takeSettings
  dsimp only
  repeat' split
  all_goals simp [stored]

theorem putSettings_steady (key : Nat) (ws : List Nat) : (putSettings key ws s).Leaves s.Steady := by
  unfold putSettings
  repeat' split
  all_goals simp [State.takeSettings_steady]

theorem amendSettings_steady (key presence : Nat) (ws : List Nat) : (amendSettings key presence ws s).Leaves s.Steady := by
  unfold amendSettings
  repeat' split
  all_goals simp [State.takeSettings_steady, State.Steady.refl]

/-- A measured speed outside an s16 takes a free value (log 8). -/
theorem hostStatus_steady : (hostStatus s).Leaves s.Steady := by
  have reported : s.Steady s.speedBytes.1 := by
    unfold State.speedBytes
    dsimp only
    split
    · exact .refl s
    · exact ⟨rfl, Nat.le_succ _⟩
  exact reported.trans (.of_same (by rfl) (by rfl))

theorem State.overrunFrame_steady : s.Steady s.overrunFrame :=
  (Steady.of_same (by rfl) (by rfl) : s.Steady (s.setPort _)).raise _

theorem frameCheckFailure_steady (bs : List Byte) : s.Steady (frameCheckFailure bs s) := by
  unfold frameCheckFailure State.failFrame
  split
  · exact .refl s
  · split
    · exact s.overrunFrame_steady
    · split
      case h_2 => exact ((State.Steady.refl s).raise _).trans (.of_same (by rfl) (by rfl))
      all_goals exact .of_same (by rfl) (by rfl)

/-- A request is steady where its answer is. -/
theorem request_steady {kind key : Nat} {act : State → Answer} (h : ∀ u, (act u).Leaves u.Steady) :
    s.Steady (request kind key act s) := by
  have heard : s.Steady s.hearFrame := .of_same (by rfl) (by rfl)
  obtain ⟨-, e⟩ | ⟨-, -, e⟩ | ⟨-, -, st, p, -, e⟩ | ⟨-, -, t, st, c, p, ha, e⟩ := request_cases s kind key act
  all_goals rw [e]
  · exact .refl s
  · exact s.overrunFrame_steady
  · exact .of_same (by rfl) (by rfl)
  · have taken : s.hearFrame.Steady t := by simpa [ha] using h s.hearFrame
    exact (heard.trans taken).trans (.of_same (by rfl) (by rfl))

theorem event_steady {f : State → State} (h : s.Steady (f s)) : s.Steady (event f s) := by
  obtain ⟨-, e⟩ | ⟨-, e⟩ := event_cases s f <;> rw [e]
  · exact .refl s
  · exact h

end Sys2Proof.Machine

namespace Sys2Proof

/-- The commands that may add or remove a cue or a clip, write the flash, or reset the units. -/
def Instr.reshapes : Instr → Bool
  | .putCue _ _ | .amendCue _ _ _ | .retireCue _ | .retireCueForce _ | .putClip _ _ | .amendClip _ _ _ | .retireClip _
  | .hostStepComplete | .flashUnitTimeout | .powerReset _ | .pinReset _ | .softReset _ => true
  | _ => false

end Sys2Proof

namespace Sys2Proof.Machine

/-- Every other command is steady: those that reach none of the outlined units by their frame, the others each by its
operations. -/
theorem exec_steady (c : Instr) (s : State) (hc : c.reshapes = false) : Result.Leaves s.Steady (exec c s) := by
  have asking {kind key : Nat} {act : State → Answer} (h : ∀ u, (act u).Leaves u.Steady) :
      Result.Leaves s.Steady (.next (request kind key act s)) := next_leaves (request_steady s h)
  have framed {bs : List Block} {kind key : Nat} {act : State → Answer} (h : ∀ u, (act u).Leaves (SameBut bs u))
      (hb : ∀ b ∈ Block.outlined, b ∉ bs := by decide) : Result.Leaves s.Steady (.next (request kind key act s)) :=
    asking fun u => (h u).imp fun _ ht => ht.steady hb
  cases c
  case putCue | amendCue | retireCue | retireCueForce | putClip | amendClip | retireClip | hostStepComplete
    | flashUnitTimeout | powerReset | pinReset | softReset => cases hc
  case guidanceSample => exact next_leaves (event_steady s (guidanceSample_steady s _ _))
  case markerRead => exact next_leaves (event_steady s (markerRead_steady s _))
  case seatSample => exact next_leaves (event_steady s (s.takeLevels_steady _))
  case holdComplete => exact next_leaves (event_steady s (holdComplete_steady s))
  case permitExpiry => exact next_leaves (event_steady s (permitExpiry_steady s))
  case releasePulseEnd => exact next_leaves (event_steady s (releasePulseEnd_steady s _))
  case estopInputCheck => exact next_leaves (event_steady s (estopInputCheck_steady s _))
  case linkExpiry => exact next_leaves (event_steady s (linkExpiry_steady s))
  case supplyReading => exact next_leaves (event_steady s (supplyReading_steady s _))
  case dwellExpiry => exact next_leaves (event_steady s (dwellExpiry_steady s))
  case effectTick => exact next_leaves (event_steady s (effectTick_steady s))
  case effectPhaseEnd => exact next_leaves (event_steady s (effectPhaseEnd_steady s _))
  case beaconTxComplete => exact next_leaves (event_steady s (beaconTxComplete_steady s))
  case flashGrant => exact next_leaves (event_steady s (flashGrant_steady s))
  case verifyBurstComplete => exact completion_steady s fun w u => verifyBurst_steady u w
  case refillComplete => exact completion_steady s fun w u => refillRead_steady u w
  case flashReadComplete => exact completion_steady s fun w u => u.answerRead_steady (some (u.unitBytes w))
  case flashReadDeadline => exact next_leaves (event_steady s (flashReadDeadline_steady s))
  case outputSample => exact next_leaves (event_steady s (outputSample_steady s))
  case fadeMasterTick => exact next_leaves (event_steady s (fadeMasterTick_steady s))
  case voiceFadeEnd => exact next_leaves (event_steady s (voiceFadeEnd_steady s _))
  case resetEnd => exact next_leaves (resetEnd_steady s)
  case frameOverrun => exact next_leaves (event_steady s s.overrunFrame_steady)
  case frameCheckFailure => exact next_leaves (event_steady s (frameCheckFailure_steady s _))
  case putSegment => exact framed fun u => putSegment_frame u _ _
  case amendSegment => exact framed fun u => amendSegment_frame u _ _ _
  case retireSegment => exact framed fun u => retireSegment_frame u _
  case getSegment => exact framed fun u => getSegment_frame u _
  case putAuthority => exact asking fun u => putAuthority_steady u _ _
  case amendAuthority => exact asking fun u => amendAuthority_steady u _ _ _
  case retireAuthority => exact asking fun u => retireAuthority_steady u _
  case getAuthority => exact framed fun u => getAuthority_frame u _
  case listAuthority => exact framed fun u => listAuthority_frame u _
  case putSeat => exact asking fun u => putSeat_steady u _ _
  case amendSeat => exact asking fun u => amendSeat_steady u _ _ _
  case getSeat => exact framed fun u => getSeat_frame u _
  case getCue => exact framed fun u => getCue_frame u _
  case getClip => exact framed fun u => getClip_frame u _
  case putSource => exact asking fun u => putSource_steady u _ _
  case amendSource => exact asking fun u => amendSource_steady u _ _ _
  case getSource => exact framed fun u => getSource_frame u _
  case putSettings => exact asking fun u => putSettings_steady u _ _
  case amendSettings => exact asking fun u => amendSettings_steady u _ _ _
  case getSettings => exact framed fun u => getSettings_frame u _
  case getVoice => exact framed fun u => getVoice_frame u _
  case getLine => exact asking fun u => getLine_steady u _
  case listSegment | listSeat | listCue | listClip | listSource | listSettings | listVoice | listLine =>
    exact framed fun u => ok_frame u _
  case enable => exact asking enableVehicle_steady
  case park => exact asking parkVehicle_steady
  case place => exact asking fun u => placeVehicle_steady u _ _
  case start => exact asking startVehicle_steady
  case stop => exact asking stopVehicle_steady
  case estop => exact asking fun u => u.addReason_steady _
  case resume => exact asking resumeVehicle_steady
  case skipDwell => exact asking skipDwell_steady
  case yaw => exact asking fun u => hostYaw_steady u _
  case release => exact asking fun u => releasePermit_steady u _
  case releaseImmediate => exact asking fun u => releaseImmediate_steady u _
  case seatClear => exact asking fun u => seatClear_steady u _
  case rearm => exact asking fun u => rearmCue_steady u _
  case rearmAll => exact asking rearmAllCues_steady
  case disarm => exact asking fun u => disarmCue_steady u _
  case play => exact asking fun u => hostPlay_steady u _
  case hush => exact asking fun u => hushVoice_steady u _
  case hushAll => exact asking fun u => u.fadeVoices_steady _
  case master => exact asking fun u => State.Steady.of_same (by rfl) (by rfl)
  case flashRead => exact next_leaves (flashRead_steady s _ _ _)
  case flashProgram => exact asking fun u => flashProgram_steady u _ _
  case flashErase => exact asking fun u => flashErase_steady u _ _
  case noticeSetup => exact asking fun u => noticeSetup_steady u _ _
  case noticeTake => exact asking noticeTake_steady
  case status => exact asking hostStatus_steady
  case odometerPulse | guideWord | fetch =>
    exact fun t ht => (exec_sameBut _ s rfl t ht).steady (by simp [Instr.blocks, Block.outlined])

end Sys2Proof.Machine
end

section
/-! PROOFS. Every step keeps the shape (O21): POS's records leave the segments, and the edits of the tables, the flash
steps and the resets keep the canonical form. -/

namespace Sys2Proof.Machine

/-! ### Tables with their keys in a range -/

section
variable {α : Type}

/-- A table in canonical form with no key above `n`. -/
structure Table.Keyed (n : Nat) (t : Table α) : Prop where
  sorted : Table.wf t
  range : ∀ p ∈ t, p.1 ≤ n

namespace Table.Keyed

variable {n : Nat} {t : Table α}

theorem put {k : Nat} (h : Keyed n t) (hk : k ≤ n) (v : α) : Keyed n (Table.put k v t) := by
  refine ⟨Table.wf_put k v h.sorted, fun p hp => ?_⟩
  obtain rfl | hp := Table.mem_put_key hp
  · exact hk
  · exact h.range p hp

theorem del (h : Keyed n t) (k : Nat) : Keyed n (Table.del k t) :=
  ⟨Table.wf_del k h.sorted, fun p hp => h.range p (List.mem_filter.1 hp).1⟩

theorem of_keys {u : Table α} (h : Keyed n t) (hk : Table.keys u = Table.keys t) : Keyed n u := by
  refine ⟨?_, fun p hp => ?_⟩
  · rw [Table.wf_iff_keys, hk, ← Table.wf_iff_keys]
    exact h.sorted
  · have listed : p.1 ∈ Table.keys t := hk ▸ List.mem_map_of_mem hp
    obtain ⟨q, hq, e⟩ := List.mem_map.1 listed
    exact e ▸ h.range q hq

end Table.Keyed

end

/-! ### The shape from its parts -/

namespace State.Shaped

variable {s t : State}

theorem keyedSegments (h : s.Shaped) : Table.Keyed 127 s.pos.segments := ⟨h.segments, h.segmentKeys⟩
theorem keyedCues (h : s.Shaped) : Table.Keyed 95 s.cue.cues := ⟨h.cues, h.cueKeys⟩
theorem keyedClips (h : s.Shaped) : Table.Keyed 63 s.flp.clips := ⟨h.clips, h.clipKeys⟩

/-- A steady operation that leaves the segments keeps the shape. -/
theorem of_steady (h : s.Shaped) (hs : s.Steady t) (hp : t.pos.segments = s.pos.segments) : t.Shaped := by
  have cues := h.keyedCues.of_keys (congrArg Outline.cues hs.outline)
  have clips := h.keyedClips.of_keys (congrArg Outline.clips hs.outline)
  have flash : t.flp.flash = s.flp.flash := congrArg Outline.flash hs.outline
  have window : (t.msv.window.drop 1).length = (s.msv.window.drop 1).length := congrArg Outline.window hs.outline
  have four := h.window
  simp only [List.length_drop] at window
  exact {
    seats := (congrArg Outline.seats hs.outline).trans h.seats
    voices := (congrArg Outline.voices hs.outline).trans h.voices
    lines := (congrArg Outline.lines hs.outline).trans h.lines
    sources := (congrArg Outline.sources hs.outline).trans h.sources
    window := by omega
    segments := hp ▸ h.segments
    segmentKeys := hp ▸ h.segmentKeys
    cues := cues.sorted
    cueKeys := cues.range
    clips := clips.sorted
    clipKeys := clips.range
    flash := flash ▸ h.flash }

theorem setPos (h : s.Shaped) {p : Pos} (hp : Table.Keyed 127 p.segments) : (s.setPos p).Shaped :=
  { h with segments := hp.sorted, segmentKeys := hp.range }

theorem setCue (h : s.Shaped) {c : CueUnit} (hl : c.lines.length = 12) (hc : Table.Keyed 95 c.cues) :
    (s.setCue c).Shaped :=
  { h with lines := hl, cues := hc.sorted, cueKeys := hc.range }

theorem setFlp (h : s.Shaped) {f : Flp} (hc : Table.Keyed 63 f.clips) (hf : Memory.wf f.flash) : (s.setFlp f).Shaped :=
  { h with clips := hc.sorted, clipKeys := hc.range, flash := hf }

end State.Shaped

theorem State.havocUnit_pos (w : Work) (s : State) : (s.havocUnit w).pos = s.pos := by
  unfold State.havocUnit
  split <;> rfl

/-! ### The segments through a position step (01 R14, R16, R17) -/

theorem advance_segments (fuel : Nat) (moved : Bool) (s : State) :
    (advance fuel moved s).state.pos.segments = s.pos.segments := by
  induction fuel generalizing moved s with
  | zero => rfl
  | succ fuel ih =>
    unfold advance
    split
    · rfl
    · split
      · rfl
      · split
        · rw [ih, State.transition_pos, Pos.checked_segments]
          rfl
        · rw [State.clampEnd_pos]
          rfl

variable (s : State)

theorem State.positionStep_segments : s.positionStep.1.pos.segments = s.pos.segments := by
  unfold State.positionStep
  split
  · rfl
  · obtain ⟨missed, stepped⟩ :=
      (advance (s.takeResidue.checkPoint.pos.s + 1) false s.takeResidue.checkPoint).state.stepCheck_pos
    dsimp only
    rw [State.evaluate_pos, stepped]
    refine (advance_segments _ _ _).trans ?_
    rw [State.checkPoint_pos, Pos.checked_segments]
    rfl

theorem odometerPulse_segments (forward : Bool) : (odometerPulse forward s).pos.segments = s.pos.segments := by
  unfold odometerPulse
  repeat' split
  all_goals rfl

theorem markerRead_segments (code : Nat) : (markerRead code s).pos.segments = s.pos.segments := by
  have mismatched (a : Nat) : (s.mismatch a code).pos.segments = s.pos.segments :=
    congrArg Pos.segments (s.mismatch_sameBut a code).pos
  have corrected (offset : Nat) : (s.correct offset).pos.segments = s.pos.segments := by
    rw [State.correct, State.evaluate_pos, State.checkPoint_pos, Pos.checked_segments]
    rfl
  unfold markerRead
  repeat' split
  all_goals simp only [mismatched, corrected]

theorem putAuthority_segments (key : Nat) (w : AuthorityWire) :
    (putAuthority key w s).Leaves fun t => t.pos.segments = s.pos.segments := by
  have granted (u : Authority) (path : List Nat) : (s.grantAuthority u path).pos.segments = s.pos.segments := by
    have checked := (s.storeAuthority u path).overrunCheck_sameBut.pos
    unfold State.grantAuthority
    dsimp only
    split <;> exact (congrArg Pos.segments checked).trans rfl
  unfold putAuthority
  dsimp only
  repeat' split
  all_goals simp [granted]

theorem amendAuthority_segments (key presence : Nat) (w : AuthorityWire) :
    (amendAuthority key presence w s).Leaves fun t => t.pos.segments = s.pos.segments := by
  unfold amendAuthority
  split
  · trivial
  · split
    · split
      · trivial
      · exact rfl
    · exact putAuthority_segments s _ _

theorem retireAuthority_segments (key : Nat) :
    (retireAuthority key s).Leaves fun t => t.pos.segments = s.pos.segments := by
  unfold retireAuthority
  split
  · trivial
  · split
    · trivial
    · exact (congrArg Pos.segments (State.overrunCheck_sameBut s.dropAuthority).pos).trans rfl

theorem placeVehicle_segments (segment position : Nat) :
    (placeVehicle segment position s).Leaves fun t => t.pos.segments = s.pos.segments := by
  have placed (g : Nat) : (s.placeAt g position).pos.segments = s.pos.segments := by simp [State.placeAt]
  unfold placeVehicle
  repeat' split
  all_goals simp [placed]

theorem request_segments {kind key : Nat} {act : State → Answer}
    (h : ∀ u, (act u).Leaves fun t => t.pos.segments = u.pos.segments) :
    (request kind key act s).pos.segments = s.pos.segments := by
  obtain ⟨-, e⟩ | ⟨-, -, e⟩ | ⟨-, -, st, p, -, e⟩ | ⟨-, -, t, st, c, p, ha, e⟩ := request_cases s kind key act
  all_goals rw [e]
  · rfl
  · rfl
  · have taken : t.pos.segments = s.hearFrame.pos.segments := by simpa [ha] using h s.hearFrame
    exact taken

theorem event_segments {f : State → State} (h : (f s).pos.segments = s.pos.segments) :
    (event f s).pos.segments = s.pos.segments := by
  obtain ⟨-, e⟩ | ⟨-, e⟩ := event_cases s f <;> rw [e]
  exact h

end Sys2Proof.Machine

namespace Sys2Proof

/-- The commands that may change the segment table or reset it. -/
def Instr.editsSegments : Instr → Bool
  | .putSegment _ _ | .amendSegment _ _ _ | .retireSegment _ | .powerReset _ | .pinReset _ | .softReset _ => true
  | _ => false

end Sys2Proof

namespace Sys2Proof.Machine

/-- Every other command leaves the segments: those that reach POS change its other records only (01). -/
theorem exec_segments (c : Instr) (s : State) (hc : c.editsSegments = false) :
    Result.Leaves (fun t => t.pos.segments = s.pos.segments) (exec c s) := by
  have others (hr : c.isReset = false) (hb : Block.pos ∉ c.blocks) :
      Result.Leaves (fun t => t.pos.segments = s.pos.segments) (exec c s) :=
    fun t ht => congrArg Pos.segments ((exec_sameBut c s hr t ht).same .pos hb)
  cases c
  case putSegment | amendSegment | retireSegment | powerReset | pinReset | softReset => cases hc
  case guidanceSample =>
    exact next_leaves (event_segments s ((congrArg Pos.segments (guidanceSample_pos s _ _)).trans s.positionStep_segments))
  case odometerPulse => exact next_leaves (event_segments s (odometerPulse_segments s _))
  case markerRead => exact next_leaves (event_segments s (markerRead_segments s _))
  case putAuthority => exact next_leaves (request_segments s fun u => putAuthority_segments u _ _)
  case amendAuthority => exact next_leaves (request_segments s fun u => amendAuthority_segments u _ _ _)
  case retireAuthority => exact next_leaves (request_segments s fun u => retireAuthority_segments u _)
  case place => exact next_leaves (request_segments s fun u => placeVehicle_segments u _ _)
  case resetEnd =>
    refine next_leaves ?_
    unfold resetEnd
    split <;> rfl
  all_goals exact others rfl (by simp [Instr.blocks])

namespace State.Shaped

variable {s t : State}

/-! ### Edits of the tables (01 R2 to R4, 05 R93 to R98, 06 R122 to R124) -/

theorem takeSegment (h : s.Shaped) {key : Nat} (hk : key ≤ 127) (w : SegmentWire) :
    (s.takeSegment key w).Leaves State.Shaped := by
  unfold State.takeSegment
  split
  · exact h.setPos (h.keyedSegments.put hk _)
  · trivial

theorem putSegment (h : s.Shaped) (key : Nat) (w : SegmentWire) : (putSegment key w s).Leaves State.Shaped := by
  unfold Machine.putSegment
  split
  · trivial
  · split
    · trivial
    · exact h.takeSegment (by omega) w

theorem amendSegment (h : s.Shaped) (key presence : Nat) (w : SegmentWire) :
    (amendSegment key presence w s).Leaves State.Shaped := by
  unfold Machine.amendSegment
  split
  · trivial
  · split
    · trivial
    · split
      · trivial
      · split
        · exact h
        · exact h.takeSegment (by omega) _

theorem retireSegment (h : s.Shaped) (key : Nat) : (retireSegment key s).Leaves State.Shaped := by
  unfold Machine.retireSegment
  repeat' split
  case isFalse.isFalse.isFalse => exact h.setPos (h.keyedSegments.del key)
  all_goals trivial

theorem releaseCue (h : s.Shaped) (key : Nat) : (s.releaseCue key).Shaped :=
  h.of_steady (s.releaseOutputs_steady key _) rfl

theorem dropCue (h : s.Shaped) (key : Nat) : (s.dropCue key).Shaped := h.setCue h.lines (h.keyedCues.del key)

theorem putCue (h : s.Shaped) (key : Nat) (w : CueWire) : (putCue key w s).Leaves State.Shaped := by
  have released := h.releaseCue key
  unfold Machine.putCue
  split
  · trivial
  · split
    · trivial
    · split
      · trivial
      · exact released.setCue released.lines (released.keyedCues.put (by omega) _)

theorem amendCue (h : s.Shaped) (key presence : Nat) (w : CueWire) : (amendCue key presence w s).Leaves State.Shaped := by
  unfold Machine.amendCue
  split
  · trivial
  · split
    · trivial
    · split
      · trivial
      · split
        · exact h
        · dsimp only
          split
          · trivial
          · exact h.setCue h.lines (h.keyedCues.put (by omega) _)

theorem retireCue (h : s.Shaped) (key : Nat) (force : Bool) : (retireCue key force s).Leaves State.Shaped := by
  have exited : (s.exitCue key true).Shaped := h.of_steady (s.exitCue_steady key true) rfl
  unfold Machine.retireCue
  split
  · trivial
  · split
    · trivial
    · split
      · exact (h.releaseCue key).dropCue key
      · split
        · exact (exited.releaseCue key).dropCue key
        · trivial

theorem takeQueued (h : s.Shaped) {key : Nat} (hk : key ≤ 63) (c : Clip) (clamped : Bool) :
    (s.takeQueued key c clamped).Leaves State.Shaped := by
  change (s.queueClip key c).Shaped
  rw [State.queueClip_eq]
  exact h.setFlp (h.keyedClips.put hk _) h.flash

theorem putClip (h : s.Shaped) (key : Nat) (w : ClipWire) : (putClip key w s).Leaves State.Shaped := by
  unfold Machine.putClip
  repeat' split
  case isFalse.isFalse.isFalse.isFalse => exact h.takeQueued (by omega) _ _
  all_goals trivial

theorem amendClip (h : s.Shaped) (key presence : Nat) (w : ClipWire) : (amendClip key presence w s).Leaves State.Shaped := by
  unfold Machine.amendClip
  split
  · trivial
  · split
    · trivial
    · split
      · trivial
      · split
        · exact h
        · dsimp only
          split
          · trivial
          · split
            · exact h.setFlp (h.keyedClips.put (by omega) _) h.flash
            · split
              · trivial
              · exact h.takeQueued (by omega) _ _

theorem retireClip (h : s.Shaped) (key : Nat) : (retireClip key s).Leaves State.Shaped := by
  unfold Machine.retireClip
  split
  · trivial
  · split
    · trivial
    · split
      · trivial
      · dsimp only
        rw [State.unqueue_eq]
        exact h.setFlp (h.keyedClips.del key) h.flash

/-! ### Flash steps (06 R133, R137 to R139) -/

theorem setFlash (h : s.Shaped) {m : Memory} (hm : Memory.wf m) : (s.setFlp { s.flp with flash := m }).Shaped :=
  h.setFlp h.keyedClips hm

theorem havocUnit (h : s.Shaped) (w : Work) : (s.havocUnit w).Shaped := by
  unfold State.havocUnit
  split
  · exact { h.setFlash (Memory.wf_havoc w.size w.addr s.free h.flash) with }
  · exact h

theorem freePort (h : s.Shaped) : s.freePort.Shaped := h.setFlp h.keyedClips h.flash

theorem hostStepComplete (h : s.Shaped) : Result.Leaves State.Shaped (execHostStepComplete s) := by
  intro t ht
  obtain rfl | ⟨g, -, -, rfl⟩ := completion_cases ht
  · exact h
  · have written : Memory.wf (g.work.written s.freePort.flp.flash) := by
      unfold Work.written
      split
      · exact Memory.wf_program _ _ h.flash
      · exact Memory.wf_eraseRange _ _ h.flash
      · exact h.flash
    exact (h.freePort.setFlash written).of_steady (State.stepDone_steady _)
      (congrArg Pos.segments (State.stepDone_sameBut _).pos)

theorem flashUnitTimeout (h : s.Shaped) : (flashUnitTimeout s).Shaped := by
  unfold Machine.flashUnitTimeout
  split
  · exact h
  · rename_i g _
    have timed := (s.freePort.unitTimeout_sameBut g.work).pos
    have left := s.freePort.havocUnit_pos g.work
    split
    · exact (h.freePort.havocUnit g.work).of_steady (s.freePort.unitTimeout_steady g.work) 
        (congrArg Pos.segments (timed.trans left.symm))
    · exact h

/-! ### Resets (09 R180, R182) -/

theorem hardReset (h : s.Shaped) (cause : ResetCause) (encoder : Int) : (s.hardReset cause encoder).Shaped := by
  have cut : s.cutUnit.Shaped := by
    unfold State.cutUnit
    split
    · exact h.havocUnit _
    · exact h
  constructor
  case flash => exact cut.flash
  all_goals simp [State.hardReset, Rsm.reset, Snd.reset, CueUnit.reset, Ntu.reset, Msv.reset, Pos.reset, Flp.reset]

theorem softReset (h : s.Shaped) : (Machine.softReset s).Leaves State.Shaped := by
  have cues : Table.Keyed 95 s.cue.soft.cues := 
    h.keyedCues.of_keys (Table.keys_mapValues (fun p : Nat × Cue => p.2.soft) s.cue.cues)
  have clips : Table.Keyed 63 s.flp.soft.clips := by
    refine h.keyedClips.of_keys ?_
    unfold Flp.soft
    dsimp only
    split
    · exact Table.keys_update _ _ _
    · rfl
  unfold Machine.softReset
  split
  · exact {
      seats := List.length_map _ |>.trans h.seats
      voices := rfl
      lines := List.length_map _ |>.trans h.lines
      sources := List.length_map _ |>.trans h.sources
      window := rfl
      segments := h.segments
      segmentKeys := h.segmentKeys
      cues := cues.sorted
      cueKeys := cues.range
      clips := clips.sorted
      clipKeys := clips.range
      flash := h.flash }
  · trivial

/-! ### The step -/

/-- A request keeps the shape where its answer does. -/
theorem request (h : s.Shaped) {kind key : Nat} {act : State → Answer}
    (hact : ∀ u, u.Shaped → (act u).Leaves State.Shaped) : (request kind key act s).Shaped := by
  have answered {u : State} (hu : u.Shaped) (k j : Nat) (st : Status) (c e : Bool) (p : List Byte) :
      (u.respond k j st c e p).Shaped := hu.of_steady (.of_same (by rfl) (by rfl)) rfl
  have heard : s.hearFrame.Shaped := h.of_steady (.of_same (by rfl) (by rfl)) rfl
  obtain ⟨-, e⟩ | ⟨-, -, e⟩ | ⟨-, -, st, p, -, e⟩ | ⟨-, -, t, st, c, p, ha, e⟩ := request_cases s kind key act
  all_goals rw [e]
  · exact h
  · exact h.of_steady s.overrunFrame_steady rfl
  · exact answered heard _ _ _ _ _ _
  · have taken : t.Shaped := by simpa [ha] using hact _ heard
    exact answered taken _ _ _ _ _ _

theorem event {f : State → State} (h : s.Shaped) (hf : (f s).Shaped) : (event f s).Shaped := by
  obtain ⟨-, e⟩ | ⟨-, e⟩ := event_cases s f <;> rw [e]
  · exact h
  · exact hf

/-- Every command keeps the shape: the steady ones that leave the segments, and the others each by its own rule. -/
theorem exec (h : s.Shaped) (c : Instr) : Result.Leaves State.Shaped (exec c s) := by
  have others (hr : c.reshapes = false) (he : c.editsSegments = false) : Result.Leaves State.Shaped (Machine.exec c s) :=
    fun t ht => h.of_steady (exec_steady c s hr t ht) (exec_segments c s he t ht)
  cases c
  case putSegment => exact next_leaves (h.request fun _ hu => hu.putSegment _ _)
  case amendSegment => exact next_leaves (h.request fun _ hu => hu.amendSegment _ _ _)
  case retireSegment => exact next_leaves (h.request fun _ hu => hu.retireSegment _)
  case putCue => exact next_leaves (h.request fun _ hu => hu.putCue _ _)
  case amendCue => exact next_leaves (h.request fun _ hu => hu.amendCue _ _ _)
  case retireCue | retireCueForce => exact next_leaves (h.request fun _ hu => hu.retireCue _ _)
  case putClip => exact next_leaves (h.request fun _ hu => hu.putClip _ _)
  case amendClip => exact next_leaves (h.request fun _ hu => hu.amendClip _ _ _)
  case retireClip => exact next_leaves (h.request fun _ hu => hu.retireClip _)
  case hostStepComplete => exact h.hostStepComplete
  case flashUnitTimeout => exact next_leaves (h.event h.flashUnitTimeout)
  case powerReset | pinReset => exact next_leaves (h.hardReset _ _)
  case softReset => exact next_leaves (h.request fun _ hu => hu.softReset)
  all_goals exact others rfl rfl

end State.Shaped

/-- Settles O21: a step runs a command on the queue's rest, or lets a microsecond pass, and each keeps the shape. -/
theorem shapeKept : Obligations.ShapeKept := by
  intro s t hs ht
  unfold step at ht
  split at ht
  · cases ht
    exact { hs with }
  · rename_i c rest _
    have rest : (s.setPending rest).Shaped := { hs with }
    exact rest.exec c t ht

end Sys2Proof.Machine
end

section
/-! PROOFS. What every command answers (O2), what it leaves of the queue, the clock and the counter of free values (O3), and
what a step is (O1). -/

namespace Sys2Proof.Machine

/-! ### The fault of a unit beyond the flash (06 R132, log 16) -/

/-- The completion of a unit answers, but where the unit's bytes lie beyond the flash. -/
theorem completion_answers (mine : Work → Bool) (f : Work → State → State) (s : State) :
    (∃ t, completion mine f s = .next t) ∨
      (∃ g, s.flp.grant = some g ∧ Config.flashSize < g.work.addr + g.work.size ∧
        completion mine f s = .fault (.flashAddress g.work.addr)) := by
  unfold completion
  split
  · exact .inl ⟨_, rfl⟩
  · split
    · exact .inl ⟨_, rfl⟩
    · rename_i g hg
      split
      · split
        · exact .inl ⟨_, rfl⟩
        · rename_i beyond
          have outside : ¬g.work.addr + g.work.size ≤ Config.flashSize := by simpa [Work.inFlash] using beyond
          exact .inr ⟨g, hg, Nat.lt_of_not_le outside, rfl⟩
      · exact .inl ⟨_, rfl⟩

/-- Settles O2: the four completions can fault, and every other command answers by its definition. -/
theorem everyCommandAnswers : Obligations.EveryCommandAnswers := by
  intro c s
  cases c
  case verifyBurstComplete => exact completion_answers _ _ s
  case refillComplete => exact completion_answers _ _ s
  case flashReadComplete => exact completion_answers _ (fun w t => t.answerRead (some (t.unitBytes w))) s
  case hostStepComplete =>
    exact completion_answers _ (fun w t => (t.setFlp { t.flp with flash := w.written t.flp.flash }).stepDone) s
  all_goals exact .inl ⟨_, rfl⟩

/-! ### The counter of free values (log 8) -/

/-- The bytes that a cut-off or timed-out step leaves free are taken from the counter (log 7). -/
theorem State.havocUnit_free (w : Work) (s : State) : s.free ≤ (s.havocUnit w).free := by
  unfold State.havocUnit
  split
  · exact Nat.le_add_right _ _
  · exact Nat.le_refl _

theorem State.cutUnit_free (s : State) : s.free ≤ s.cutUnit.free := by
  unfold State.cutUnit
  split
  · exact s.havocUnit_free _
  · exact Nat.le_refl _

theorem flashUnitTimeout_free (s : State) : s.free ≤ (flashUnitTimeout s).free := by
  unfold flashUnitTimeout
  split
  · exact Nat.le_refl _
  · split
    · exact (s.freePort.havocUnit_free _).trans (s.freePort.unitTimeout_steady _).free
    · exact Nat.le_refl _

/-- No command takes free values back. -/
theorem exec_free (c : Instr) (s : State) : Result.Leaves (fun t => s.free ≤ t.free) (exec c s) := by
  have framed (hr : c.isReset = false) (hb : Block.free ∉ c.blocks) : Result.Leaves (fun t => s.free ≤ t.free) (exec c s) :=
    fun t ht => Nat.le_of_eq ((exec_sameBut c s hr t ht).same .free hb).symm
  have steady (hr : c.reshapes = false) : Result.Leaves (fun t => s.free ≤ t.free) (exec c s) :=
    fun t ht => (exec_steady c s hr t ht).free
  cases c
  case putCue | amendCue | retireCue | retireCueForce | putClip | amendClip | retireClip | hostStepComplete | softReset =>
    exact framed rfl (by simp [Instr.blocks])
  case flashUnitTimeout =>
    refine next_leaves ?_
    obtain ⟨-, e⟩ | ⟨-, e⟩ := event_cases s flashUnitTimeout <;> rw [e]
    exact flashUnitTimeout_free s
  case powerReset | pinReset => exact next_leaves s.cutUnit_free
  all_goals exact steady rfl

/-! ### The queue and the clock (log 1) -/

theorem exec_pending_now (c : Instr) (s : State) :
    Result.Leaves (fun t => t.pending = s.pending ∧ t.now = s.now) (exec c s) := by
  have framed (hr : c.isReset = false) : Result.Leaves (fun t => t.pending = s.pending ∧ t.now = s.now) (exec c s) := by
    intro t ht
    obtain ⟨now, -, pending, -⟩ := exec_sameBut c s hr t ht
    exact ⟨pending, now⟩
  cases c
  case powerReset | pinReset => exact next_leaves ⟨rfl, rfl⟩
  case resetEnd =>
    refine next_leaves ?_
    unfold resetEnd
    split <;> exact ⟨rfl, rfl⟩
  all_goals exact framed rfl

/-- Settles O3. -/
theorem commandsKeepQueueAndClock : Obligations.CommandsKeepQueueAndClock := by
  intro c s t ht
  obtain ⟨pending, now⟩ := exec_pending_now c s t ht
  exact ⟨pending, now, exec_free c s t ht⟩

/-! ### The step (log 1) -/

theorem step_front (c : Instr) (rest : List Instr) (s : State) :
    step (s.setPending (c :: rest)) = exec c (s.setPending rest) := rfl

theorem step_idle {s : State} (h : s.pending = []) : step s = .next { s with now := s.now + 1 } := by
  unfold step
  split
  · rfl
  · rename_i front
    exact absurd (h.symm.trans front) (by simp)

/-- Settles O1. -/
theorem stepRunsFront : Obligations.StepRunsFront := ⟨step_front, fun _ => step_idle⟩

end Sys2Proof.Machine
end
